-- ==== Sys2Proof/Word.lean ====
section
/-!
DEFINITION. Word.lean: the byte, the one word that the part's serial ports and its image carry.
Counts, codes, distances and times are natural numbers in the model: the spec gives them ranges and arithmetic on whole
numbers (00_scope.md 3.3), never a mask or a wrap of their own unless a rule says so.
-/

namespace Sys2Proof

/-- One byte of a payload, a request, a response or the configuration image. -/
abbrev Byte := BitVec 8

end Sys2Proof
end

