-- ==== Sys2Proof/Syntax.lean ====
section
/-!
DEFINITION. Syntax.lean: the commands the block takes, one constructor of `Instr` per row of spec/opcode_table.json, and the
operands they carry: the payloads of Table 3-1, the values of qualified inputs, the parameters of Table 11-1.
-/

namespace Sys2Proof

/-- Gallery fire state, in the order of Table 3-1's codes (R26). -/
inductive FireState where
  | quiet | caution | suspect | fire
  deriving DecidableEq, Repr

/-- Node role (Table 3-1). -/
inductive Role where
  | gallery | station
  deriving DecidableEq, Repr

/-- Building mode (R68). -/
inductive Mode where
  | day | night
  deriving DecidableEq, Repr

/-- A door contact's value (R91). -/
inductive Contact where
  | shut | opened
  deriving DecidableEq, Repr

/-- The position of a lock, as driven or as fed back (R91, R94). -/
inductive Lock where
  | lock | free
  deriving DecidableEq, Repr

/-- STATE payload, length 3 (Table 3-1): f, announced x, fire state, role, TEST_RUNNING, H, mode, evacuate. -/
structure StatePayload where
  f : BitVec 4
  x : BitVec 4
  fire : FireState
  role : Role
  testRunning : Bool
  h : BitVec 4
  mode : Mode
  evacuate : Bool
  deriving DecidableEq, Repr

/-- CALL payload, length 3 (Table 3-1). `kind` 6 and 7 and `source` above 16 are malformed (R44). -/
structure CallPayload where
  source : BitVec 5
  kind : BitVec 3
  serial : BitVec 4
  priority : BitVec 2
  taken : Bool
  overdue : Bool
  reminder : Bool
  taker : BitVec 6
  deriving DecidableEq, Repr

/-- TAKE and GIVEUP payload, length 3 (Table 3-1). -/
structure RefPayload where
  origin : Byte
  source : Byte
  serial : Byte
  deriving DecidableEq, Repr

/-- CLEAR payload, length 4 (Table 3-1). -/
structure ClearPayload where
  origin : Byte
  source : Byte
  serial : Byte
  clearedBy : Byte
  deriving DecidableEq, Repr

/-- ORDER payload, length 3 (Table 3-1). -/
structure OrderPayload where
  code : Byte
  target : Byte
  door : Byte
  deriving DecidableEq, Repr

/-- The six known telegram kinds with their payloads (Table 3-1). -/
inductive Payload where
  | state (p : StatePayload)
  | call (p : CallPayload)
  | take (p : RefPayload)
  | clear (p : ClearPayload)
  | giveup (p : RefPayload)
  | order (p : OrderPayload)
  deriving DecidableEq, Repr

/-- A telegram: class, source id, payload (R43). -/
structure Telegram where
  cls : BitVec 2
  src : BitVec 6
  body : Payload
  deriving DecidableEq, Repr

/-- The kind field of a telegram (Table 3-1). -/
inductive TelegramKind where
  | state | call | take | clear | giveup | order
  deriving DecidableEq, Repr

/-- What makes an arriving telegram a check error (R46). -/
inductive CheckErrorCause where
  | framing | badLength | badCheck
  deriving DecidableEq, Repr

/-- What makes a telegram with a good check be discarded (R44, R46). -/
inductive DiscardCause where
  | unknownKind | malformed
  deriving DecidableEq, Repr

/-- One command, per row of spec/opcode_table.json and in the table's order. -/
inductive Instr where
  | powerUp
  | resetPin
  /-- The bytes the memory gave, in order; fewer than 256 when it gave no acknowledge (R174). `strap` is the level of the
  start-mode strap pin (R176). -/
  | configReadComplete (bytes : List Byte) (strap : Mode)
  | listenTimerExpiry
  | transactionEnd
  | unknownRequest (code len : Byte)
  | readNode
  | readChannel (c : Byte)
  | readDoor (d : Byte)
  | readCall (source : Byte)
  | readNeighbour (slot : Byte)
  | readRoute
  | readSignals
  | readTest
  | listRead (pos : Byte)
  | readReport
  | take (origin source : Byte)
  | giveup (origin source : Byte)
  | clear (origin source : Byte)
  | order (code target door : Byte)
  | fireReset
  | isolate (c : Byte)
  | restore (c : Byte)
  | walkStart (min : Byte)
  | walkStop
  | doorPulse (d : Byte)
  | lampClear
  | lampCheck
  | testStart (min : Byte)
  | testSuspend
  | testResume
  | testAbort
  | restart
  /-- A sample of channel `c`, from an odd slot granted to it (`odd`) or from its even slot (R3, R4). -/
  | sampleArrival (c : Fin 16) (code : BitVec 10) (odd : Bool)
  | oddSlotGrant
  | driftTimerExpiry
  | rateTimerExpiry
  | holdTimerExpiry (c : Fin 16)
  | confirmDelayExpiry
  | walkDurationExpiry
  | contend
  | loss
  | lineCollision
  | transmissionCompletion
  | stuckPeriodStart
  | stuckPeriodEnd
  | stuckClearTimerExpiry
  | checkError (why : CheckErrorCause)
  | noiseWindowAgeOut
  | telegramDiscarded (why : DiscardCause)
  | duplicateId (kind : TelegramKind)
  | stateArrival (src : BitVec 6) (p : StatePayload)
  | callArrival (src : BitVec 6) (p : CallPayload)
  | clearArrival (src : BitVec 6) (p : ClearPayload)
  | clearRequestArrival (src : BitVec 6) (p : ClearPayload)
  | takeArrival (src : BitVec 6) (p : RefPayload)
  | giveupArrival (src : BitVec 6) (p : RefPayload)
  | orderModeDay (src : BitVec 6) (target : Byte)
  | orderModeNight (src : BitVec 6) (target : Byte)
  | orderEvacuateOn (src : BitVec 6) (target : Byte)
  | orderEvacuateOff (src : BitVec 6) (target : Byte)
  | orderSilence (src : BitVec 6) (target : Byte)
  | orderFireReset (src : BitVec 6) (target : Byte)
  | orderDoorPulse (src : BitVec 6) (target door : Byte)
  | refreshTimerExpiry
  | freshnessDeadlineExpiry (slot : Fin 8)
  | contactFirstQualified (d : Fin 8) (value : Contact)
  | feedbackFirstQualified (d : Fin 8) (value : Lock)
  | doorOpening (d : Fin 8)
  | doorShutting (d : Fin 8)
  | feedbackChange (d : Fin 8) (value : Lock)
  | rexPress (d : Fin 8)
  | accessPulseExpiry (d : Fin 8)
  | openTimerExpiry (d : Fin 8)
  | jamComparisonExpiry (d : Fin 8)
  | callPointPress (p : Fin 8)
  | firePointLevelChange (p : Fin 8) (active : Bool)
  | attendantKeyTurn
  | unansweredTimerExpiry (source : Fin 17)
  | attendTimerExpiry (source : Fin 17)
  | reannounceTimerExpiry (source : Fin 17)
  | entryExpiry (origin : BitVec 6) (source : Fin 17)
  | takeTimeoutExpiry (origin : BitVec 6) (source : Fin 17)
  /-- `sense` bit n: current flows in sign n's lamp (R147). -/
  | signStepExpiry (sense : BitVec 4)
  /-- `sense` bit i: current flows in segment i of strip `k` when it is lit (R152). -/
  | stripStepExpiry (k : Fin 2) (sense : BitVec 32)
  | cadenceTimerExpiry
  | minuteTimerExpiry
  | batteryLowChange (low : Bool)
  | suspendTimerExpiry
  | resetPinAsserted
  | transactionBegin
  deriving DecidableEq, Repr

end Sys2Proof
end

