-- ==== Sys2Proof/Config.lean ====
section
/-!
DEFINITION. Config.lean: the unit of time, the part's fixed intervals, and the free values.
-/

namespace Sys2Proof.Config

/-- Ticks of the model's clock in one second. A tick is 10 microseconds: the greatest interval that divides the bit time
of 20 microseconds (R41), the slot of 31.25 ms (R3), the sign step of 62.5 ms (R146) and the strip unit of 50 ms (R148).
DESIGN CHOICE, safe, log 1. -/
abbrev second : Nat := 100000

/-- One bit time on the node line, 20 microseconds (R41). -/
abbrev bitTime : Nat := 2

/-- One minute in ticks. -/
abbrev minute : Nat := 60 * second

/-- A converter slot of 31.25 ms (R3). -/
abbrev slot : Nat := 3125

/-- The sign step of 62.5 ms (R146). -/
abbrev signStep : Nat := 6250

/-- The unit of a strip's step time, 50 ms (R148). -/
abbrev stripUnit : Nat := 5000

/-- The time a raw input holds a value before it is qualified, 200 ms (R91, R111, R126). -/
abbrev qualify : Nat := 20000

/-- Which of several effects that reach the duration tester at one event is taken first (R162, R166 leave it open). The
argument is the count of free choices taken so far. A FREE VALUE: nothing in Lean can evaluate it. Log 8, safe. -/
opaque freeChoice : Nat → Nat

/-- The current of a strip's segments at a step that a mode entry begins: no command carries what R152 then senses. The argument
is the count of free choices taken so far. A FREE VALUE. Log 11, safe. -/
opaque freeSense : Nat → BitVec 32

/-- How long the REX input of a door keeps its level, in ticks: the time to its first qualified value, and the time it then stays
PRESSED (R91). The arguments are the free choice that stands for the input, the door, and which of the two times it is. A FREE VALUE.
Log 10, safe. -/
opaque freeHold : Nat → Nat → Nat → Nat

/-- Whether the first qualified value of a door's REX input is PRESSED (R91); the arguments are the free choice and the door. A FREE
VALUE. Log 10, safe. -/
opaque freePressed : Nat → Nat → Bool

/-- Whether a telegram that ends at a node still deaf, since restart or after a collision, began at a start bit that the node receives again
(R41, R51, R61), where its end leaves that open: no command gives the stuff bits, nor every length. The argument is the count of free choices
taken so far. A FREE VALUE. Log 38, safe. -/
opaque freeIdle : Nat → Bool

end Sys2Proof.Config
end

