-- ==== Sys2Proof/Machine/State.lean ====
section
/-!
DEFINITION. State.lean: everything the spec gives the block to hold, as plain data, block by block (00_scope.md 1.3), the queue
of waiting commands, the two reason types, and the state after reset.

A timer is held as its deadline in ticks of the model's clock, none while it is stopped (log 2).
Lists of a fixed length (channels, slots, doors, points, sources, signs, strips) keep it: see `Laws`.
-/

namespace Sys2Proof.Machine

/-- A timer: the time at which it expires, none while it is stopped (00_scope.md 3.4). -/
abbrev Timer := Option Nat

/-- No meaning of this block ends in a fault: the spec's "fault members" (R173) are state, and nothing in the spec stops the
part. The type has no constructor, so no step can answer a fault. Safe. -/
inductive Fault where
  deriving DecidableEq, Repr

/-- Why a command has no meaning. -/
inductive Refusal where
  /-- Raised by `exec` for a command that has not got its meaning yet; no arm raises it. Safe. -/
  | notModelled (mnemonic : String)
  deriving DecidableEq, Repr

/-! ### Configuration loader (chapter 11) -/

/-- Where the node stands: held in restart, or in one of the three phases of section 11.5 (R177, R179). -/
inductive Phase where
  | held | loading | listen | run
  deriving DecidableEq, Repr

/-- Why an image is invalid, in the order of R174's tests. -/
inductive ImageReason where
  | noAck | marker | length | crc | nodeId
  deriving DecidableEq, Repr

/-- The node fields of the image (Table 11-2), inside their ranges. -/
structure NodeConfig where
  id : Nat
  role : Role
  startMode : Mode
  h : Nat
  e : Nat
  tc : Nat
  v : Nat
  driftMinutes : Nat
  rateSeconds : Nat
  tesc : Nat
  tatt : Nat
  nightOnly : Bool
  autoResume : Bool
  deriving DecidableEq, Repr

/-- The configuration loader: phase, LISTEN timer, node fields, validity and clamp record (R174, R175, R177). -/
structure Loader where
  phase : Phase
  listen : Timer
  node : NodeConfig
  /-- None for a valid image, else the failure found first (R174). -/
  invalid : Option ImageReason
  clampCount : Nat
  firstClamp : Option Nat
  deriving DecidableEq, Repr

/-! ### Detector scanner (chapter 1) -/

inductive ChannelKind where
  | unused | smoke | heat
  deriving DecidableEq, Repr

/-- The fields of R1. -/
structure ChannelConfig where
  kind : ChannelKind
  bmin : Nat
  bmax : Nat
  dayP : Nat
  dayA : Nat
  nightP : Nat
  nightA : Nat
  th : Nat
  rr : Nat
  deriving DecidableEq, Repr

/-- Section 1.7, in the order of R171's codes. -/
inductive ChannelState where
  | settle | refill | normal | prealarm | verify | alarm | fault | isolated
  deriving DecidableEq, Repr

/-- One channel record (R1, R25). -/
structure Channel where
  cfg : ChannelConfig
  state : ChannelState
  sampleCount : Nat
  goodCount : Nat
  settled : Bool
  m4 : Nat
  b : Nat
  verify : Nat
  hold : Timer
  /-- Smoothed values, oldest first (R14). -/
  ring : List Nat
  lastOdd : Nat
  /-- When the channel was last restored: its even slot is taken from slots that start then or later (R22, log 3). -/
  inService : Nat
  driftLimit : Bool
  faultInAlarm : Bool
  deriving DecidableEq, Repr

/-- The detector scanner: sixteen channels, the node timers of R2, the converter (R3, R4). -/
structure Scanner where
  channels : List Channel
  drift : Timer
  rate : Timer
  /-- The first converter slot, counted from leaving LOADING, that has not been taken to its end yet (log 3). -/
  nextSlot : Nat
  /-- The channel an odd slot is granted to, and that slot's number (R4). -/
  grant : Option (Nat × Nat)
  deriving DecidableEq, Repr

/-! ### Fire logic (chapter 2) -/

inductive Cause where
  | none | heat | point | double | neighbour | delay
  deriving DecidableEq, Repr

/-- The FIRE cause record (R27). -/
structure CauseRecord where
  cause : Cause
  subject : Option Nat
  slot : Option Nat
  time : Option Nat
  deriving DecidableEq, Repr

/-- The fire logic: gallery fire state, cause record, confirm-delay timer, walk-test context (R26, R27, R28, 2.3.1). -/
structure FireLogic where
  gallery : FireState
  cause : CauseRecord
  confirm : Timer
  walkActive : Bool
  walkTimer : Timer
  /-- One mark per channel. -/
  tested : List Bool
  /-- Per channel, the exact time of its last recording. -/
  lastRecorded : List (Option Nat)
  deriving DecidableEq, Repr

/-! ### Line controller (chapter 3) -/

/-- One transmit queue entry (R54): kind and contents, class, age, collision count (R51), the on-the-line mark, and
whether its contents were replaced while it was on the line (R52, R55). -/
structure TxEntry where
  body : Payload
  cls : Nat
  age : Nat
  collisions : Nat
  onLine : Bool
  replaced : Bool
  deriving DecidableEq, Repr

/-- The line controller (R46 to R58). -/
structure LineController where
  queue : List TxEntry
  nextAge : Nat
  /-- The telegram on the line, with the contents it began with (R49, R55). -/
  sending : Option Telegram
  /-- The earliest moment at which a start bit is received again: since restart, when the node has not yet seen the line idle (R61), and
  after a collision, the rest of whose traffic it does not receive (R51); none where every start bit is (log 26, 38). -/
  deaf : Option Nat
  stuckPeriod : Bool
  lineStuck : Bool
  lineNoisy : Bool
  collision : Bool
  duplicateId : Bool
  stuckClear : Timer
  /-- Arrival times of check errors, oldest first (R47). -/
  noise : List Nat
  queueDiscard : Bool
  refresh : Timer
  lastState : Option StatePayload
  deriving DecidableEq, Repr

/-! ### Neighbour table (chapter 4) -/

inductive Presence where
  | absent | fresh | silent
  deriving DecidableEq, Repr

/-- One neighbour slot (R62, R63). Neighbour id 0 marks it unused. -/
structure Slot where
  id : Nat
  link : Option Nat
  cost : Nat
  presence : Presence
  fire : FireState
  f : Nat
  x : Nat
  h : Option Nat
  test : Bool
  deadline : Timer
  deriving DecidableEq, Repr

/-- The neighbour table: slots, building flags (R68), silence latch with f_s while set (R72). -/
structure NeighbourTable where
  slots : List Slot
  mode : Mode
  evacuate : Bool
  orderHeard : Bool
  latch : Option Nat
  deriving DecidableEq, Repr

/-! ### Route unit (chapter 5) -/

/-- The way to the nearest exit (R76): `own` is LOCAL. -/
inductive Via where
  | slot (i : Nat)
  | own
  | none
  deriving DecidableEq, Repr

inductive EvacCause where
  | radius | building | both
  deriving DecidableEq, Repr

/-- The route record (R76). `evacuating` is none for no, and holds the cause for yes. -/
structure Route where
  f : Nat
  xLocal : Nat
  via : Via
  exitDoor : Option Nat
  announcedX : Nat
  evacuating : Option EvacCause
  deriving DecidableEq, Repr

/-! ### Door controller (chapter 6) -/

inductive DoorKind where
  | unused | gallery | exit | staff | store
  deriving DecidableEq, Repr

/-- Section 6.6, in the order of R171's codes. -/
inductive DoorState where
  | shutLocked | shutFree | access | openFree | openTimed | openLong | forced | jammed
  deriving DecidableEq, Repr

inductive Magnet where
  | drop | hold
  deriving DecidableEq, Repr

/-- The fields of R90. -/
structure DoorConfig where
  kind : DoorKind
  magnet : Bool
  feedback : Bool
  remote : Bool
  pulseSeconds : Nat
  limitSeconds : Nat
  deriving DecidableEq, Repr

/-- A door's REX input, of which a command brings the presses only: the time of the last one, and the free choice that stands for how
the input's qualified level goes on (R91; log 10). -/
structure RexInput where
  pressed : Option Nat
  draw : Nat
  deriving DecidableEq, Repr

/-- One door record (section 6.6). An input is none until it is qualified (R91). -/
structure Door where
  cfg : DoorConfig
  state : DoorState
  contact : Option Contact
  feedback : Option Lock
  rex : RexInput
  lock : Lock
  magnet : Magnet
  accessMark : Bool
  accessTimer : Timer
  openTimer : Timer
  jamTimer : Timer
  deriving DecidableEq, Repr

/-! ### Call controller (chapter 7) -/

inductive PointKind where
  | unused | help | staff | fire
  deriving DecidableEq, Repr

/-- One call point (R110, R111): `level` is the input mode LEVEL; `input` is none until it is qualified. -/
structure Point where
  kind : PointKind
  level : Bool
  priority : Nat
  input : Option Bool
  deriving DecidableEq, Repr

inductive CallKind where
  | help | staff | fire | forced | held | fault
  deriving DecidableEq, Repr

/-- One call (R112); its source is its place in the table. It is TAKEN exactly when `taker` is not 0. -/
structure Call where
  kind : CallKind
  base : Nat
  escalated : Nat
  current : Nat
  serial : Nat
  taker : Nat
  overdue : Bool
  reminder : Bool
  unanswered : Timer
  attend : Timer
  reannounce : Timer
  deriving DecidableEq, Repr

/-- The call controller (R110 to R115). -/
structure CallController where
  points : List Point
  keyOn : Option Bool
  /-- One place per source 0..16: at most one call per source (R112). -/
  calls : List (Option Call)
  serials : List Nat
  /-- One rotation order per priority level (R115). -/
  rotations : List (List Nat)
  deriving DecidableEq, Repr

/-! ### Attention list (chapter 8) -/

inductive EntryState where
  | opened | taking | mine | others
  deriving DecidableEq, Repr

/-- One entry (R129). The insertion time is held in whole seconds (00_scope.md 3.4). -/
structure Entry where
  origin : Nat
  source : Nat
  kind : CallKind
  priority : Nat
  serial : Nat
  state : EntryState
  taker : Nat
  overdue : Bool
  reminder : Bool
  inserted : Nat
  expiry : Timer
  takeTimeout : Timer
  deriving DecidableEq, Repr

/-! ### Signal driver (chapter 9) -/

inductive Arrow where
  | left | right | ahead
  deriving DecidableEq, Repr

inductive Display where
  | plain | arrow | cross
  deriving DecidableEq, Repr

/-- One sign (R144 to R147). The map holds slots 0..7, then LOCAL. -/
structure Sign where
  used : Bool
  default : Arrow
  map : List Arrow
  display : Display
  /-- The arrow shown; none under the cross (R145). -/
  shown : Option Arrow
  flash : Option Nat
  noCurrent : Nat
  fault : Bool
  deriving DecidableEq, Repr

inductive Dir where
  | forward | reverse | steady
  deriving DecidableEq, Repr

/-- In the order of R149's table. -/
inductive StripMode where
  | check | off | chase | steady | noRoute
  deriving DecidableEq, Repr

/-- One floor strip (R148 to R152). N 0 marks it unused. The map holds slots 0..7, then LOCAL. -/
structure Strip where
  n : Nat
  w : Nat
  pp : Nat
  step : Nat
  offset : Nat
  map : List Dir
  mode : StripMode
  /-- The chase direction; none outside CHASE, in STEADY too (DESIGN CHOICE, log 36). -/
  dir : Option Dir
  phase : Nat
  flash : Option Nat
  check : Option Nat
  /-- The segments lit at the current step, one mark per segment 0..N-1. -/
  lit : List Bool
  latch : Option Nat
  timer : Timer
  deriving DecidableEq, Repr

inductive SounderMode where
  | off | alert | evac
  deriving DecidableEq, Repr

/-- The signal driver (chapter 9): `cadence` is present in ALERT, true for on (R155). -/
structure Signals where
  signs : List Sign
  signTimer : Timer
  strips : List Strip
  sounder : SounderMode
  cadence : Option Bool
  cadenceTimer : Timer
  deriving DecidableEq, Repr

/-! ### Duration tester (chapter 10) -/

inductive TestState where
  | idle | running | suspended
  deriving DecidableEq, Repr

inductive SuspendCause where
  | host | notQuiet | fireNear | evacuate
  deriving DecidableEq, Repr

inductive AbortReason where
  | host | peer | suspendTimeout | restart
  deriving DecidableEq, Repr

/-- The outcome of the last test to end (R159). -/
inductive TestResult where
  | none
  | pass
  | fail (minute : Nat)
  | aborted (reason : AbortReason)
  deriving DecidableEq, Repr

/-- The duration tester (R159). `battery` is the qualified input, true for LOW, none until it is qualified. -/
structure Tester where
  state : TestState
  requested : Option Nat
  completed : Option Nat
  minute : Timer
  cause : Option SuspendCause
  suspend : Timer
  last : TestResult
  batteryFault : Bool
  battery : Option Bool
  deriving DecidableEq, Repr

/-! ### Attendant port (chapter 11) -/

/-- The reports, block by block in the order of their report tables (R172). -/
inductive ReportKind where
  | channelAlarm | channelFault | channelRecovered | faultInAlarm | driftLimit | channelIsolated | channelRestored
  | galleryState | fireCause | resetRefused | fireReset | walkBegin | walkTested | walkEnd
  | lineStuck | lineNoisy | collision | duplicateId
  | neighbourHeard | neighbourSilent | neighbourBack | neighbourCleared | buildingMode | buildingEvacuate | silenceLatch
  | evacuating | noRoute
  | doorForced | doorHeld | doorJammed | doorJamCleared | pulseDenied
  | callRaised | callReplaced | callReminder | callTaken | callGivenUp | callOverdue | callCleared | clearRefused
  | listNew | listChanged | takeWon | takeLost | takeUnanswered | listCleared | listExpired | listDisplaced | truncated
  | signLampFault | stripLampFault | lampCheckEnd | lampCleared
  | testStarted | testSuspended | testResumed | testResult
  | config
  deriving DecidableEq, Repr

/-- One report queue entry (R172). -/
structure Report where
  kind : ReportKind
  subject : BitVec 16
  value : BitVec 16
  time : Nat
  overflow : Bool
  deriving DecidableEq, Repr

/-- The port's place in a transaction (R169): select high; a transaction begun; its request decoded; a RESTART decoded;
or select low since before a restart, with nothing read. -/
inductive Port where
  | high | begun | decoded | restartDecoded | deaf
  deriving DecidableEq, Repr

/-- The attendant port: transaction, response bytes on data out (FFh after the last), report queue oldest first. -/
structure AttendantPort where
  port : Port
  dataOut : List Byte
  reports : List Report
  deriving DecidableEq, Repr

/-- Input levels the model holds between commands: the strap, and the lamp currents as the last step of signs and of each
strip that a command began sensed them (log 11). -/
structure Pins where
  strap : Mode
  signSense : BitVec 4
  stripSense : List (BitVec 32)
  deriving DecidableEq, Repr

/-! ### The whole block -/

/-- The state of the block: its queue of waiting commands, the clock in ticks since LOADING ended, the twelve blocks'
records, the test-in-force marker kept through restart (R168), the pins, and the count of free choices (log 8). -/
structure State where
  pending : List Instr
  now : Nat
  cl : Loader
  ds : Scanner
  fl : FireLogic
  lc : LineController
  nt : NeighbourTable
  ru : Route
  doors : List Door
  cc : CallController
  al : List Entry
  sd : Signals
  dt : Tester
  ap : AttendantPort
  marker : Bool
  pins : Pins
  freeCount : Nat
  deriving DecidableEq, Repr

namespace State

def setPending (s : State) (v : List Instr) : State := { s with pending := v }
def setNow (s : State) (v : Nat) : State := { s with now := v }
def setCl (s : State) (v : Loader) : State := { s with cl := v }
def setDs (s : State) (v : Scanner) : State := { s with ds := v }
def setFl (s : State) (v : FireLogic) : State := { s with fl := v }
def setLc (s : State) (v : LineController) : State := { s with lc := v }
def setNt (s : State) (v : NeighbourTable) : State := { s with nt := v }
def setRu (s : State) (v : Route) : State := { s with ru := v }
def setDoors (s : State) (v : List Door) : State := { s with doors := v }
def setCc (s : State) (v : CallController) : State := { s with cc := v }
def setAl (s : State) (v : List Entry) : State := { s with al := v }
def setSd (s : State) (v : Signals) : State := { s with sd := v }
def setDt (s : State) (v : Tester) : State := { s with dt := v }
def setAp (s : State) (v : AttendantPort) : State := { s with ap := v }
def setMarker (s : State) (v : Bool) : State := { s with marker := v }
def setPins (s : State) (v : Pins) : State := { s with pins := v }
def setFreeCount (s : State) (v : Nat) : State := { s with freeCount := v }

end State

/-! ### Records of an unconfigured node

In LOADING no image has been taken. These records stand in every block then (DESIGN CHOICE, log 6); they are also what
an unused channel, slot, door, point, sign or strip holds. -/

/-- The node fields of R176, the values a node without a valid image runs on; `startMode` is the strap's level. -/
def NodeConfig.default (strap : Mode) : NodeConfig where
  id := 0
  role := .gallery
  startMode := strap
  h := 4
  e := 1
  tc := 30
  v := 4
  driftMinutes := 10
  rateSeconds := 5
  tesc := 60
  tatt := 10
  nightOnly := false
  autoResume := false

def ChannelConfig.unused : ChannelConfig := ⟨.unused, 0, 0, 0, 0, 0, 0, 0, 0⟩

/-- A channel's record after restart (R25), for the time 0 at which LOADING ends. -/
def Channel.afterRestart (cfg : ChannelConfig) : Channel where
  cfg := cfg
  state := if cfg.kind = .unused then .isolated else .settle
  sampleCount := 0
  goodCount := 0
  settled := false
  m4 := 0
  b := if cfg.kind = .smoke then cfg.bmin else 0
  verify := 0
  hold := none
  ring := []
  lastOdd := 0
  inService := 0
  driftLimit := false
  faultInAlarm := false

/-- The detector scanner after restart (R25). -/
def Scanner.afterRestart (cfgs : List ChannelConfig) : Scanner where
  channels := cfgs.map Channel.afterRestart
  drift := none
  rate := none
  nextSlot := 0
  grant := none

/-- The FIRE cause record when cleared (R40). -/
def CauseRecord.clear : CauseRecord := ⟨.none, none, none, none⟩

/-- The fire logic after restart (R40). -/
def FireLogic.afterRestart : FireLogic where
  gallery := .quiet
  cause := .clear
  confirm := none
  walkActive := false
  walkTimer := none
  tested := List.replicate 16 false
  lastRecorded := List.replicate 16 none

/-- The line controller after restart; it receives no start bit before it has seen the line idle, 11 bit times from the end of LOADING at the
earliest (R41, R61: DEDUCED, log 38). -/
def LineController.afterRestart : LineController where
  queue := []
  nextAge := 0
  sending := none
  deaf := some (11 * Config.bitTime)
  stuckPeriod := false
  lineStuck := false
  lineNoisy := false
  collision := false
  duplicateId := false
  stuckClear := none
  noise := []
  queueDiscard := false
  refresh := none
  lastState := none

/-- A slot's record after restart (R75), for its configured fields. -/
def Slot.afterRestart (id : Nat) (link : Option Nat) (cost : Nat) : Slot where
  id := id
  link := link
  cost := cost
  presence := .absent
  fire := .quiet
  f := 15
  x := 15
  h := none
  test := false
  deadline := none

/-- An unused slot: it keeps no link door and no cost (R62). -/
def Slot.unused : Slot := Slot.afterRestart 0 none 1

/-- The neighbour table after restart (R75). -/
def NeighbourTable.afterRestart (slots : List Slot) (mode : Mode) : NeighbourTable where
  slots := slots
  mode := mode
  evacuate := false
  orderHeard := false
  latch := none

/-- The route record after restart (R89). -/
def Route.afterRestart : Route := ⟨15, 15, .none, none, 15, none⟩

def DoorConfig.unused : DoorConfig := ⟨.unused, false, false, false, 0, 0⟩

/-- A door's record in LOADING, and an unused door's always: lock drive FREE, magnet drive DROP (R90, R177). -/
def Door.idle (cfg : DoorConfig) : Door where
  cfg := cfg
  state := .shutFree
  contact := none
  feedback := none
  rex := ⟨none, 0⟩
  lock := .free
  magnet := .drop
  accessMark := false
  accessTimer := none
  openTimer := none
  jamTimer := none

def Point.unused : Point := ⟨.unused, false, 0, none⟩

/-- The call controller after restart (R128). -/
def CallController.afterRestart (points : List Point) : CallController where
  points := points
  keyOn := none
  calls := List.replicate 17 none
  serials := List.replicate 17 0
  rotations := List.replicate 4 (List.range 17)

/-- A sign's record after restart, before its display is chosen: PLAIN with its default arrow (R158). -/
def Sign.afterRestart (used : Bool) (default : Arrow) (map : List Arrow) : Sign where
  used := used
  default := default
  map := map
  display := .plain
  shown := some default
  flash := none
  noCurrent := 0
  fault := false

def Sign.unused : Sign := Sign.afterRestart false .ahead (List.replicate 9 .ahead)

/-- A strip's record after restart: OFF, every segment dark (R158). -/
def Strip.afterRestart (n w pp step offset : Nat) (map : List Dir) : Strip where
  n := n
  w := w
  pp := pp
  step := step
  offset := offset
  map := map
  mode := .off
  dir := none
  phase := 0
  flash := none
  check := none
  lit := List.replicate n false
  latch := none
  timer := none

def Strip.unused : Strip := Strip.afterRestart 0 1 2 1 0 (List.replicate 9 .steady)

/-- The signal driver after restart (R158), with the sign step timer as given. -/
def Signals.afterRestart (signs : List Sign) (strips : List Strip) (signTimer : Timer) : Signals where
  signs := signs
  signTimer := signTimer
  strips := strips
  sounder := .off
  cadence := none
  cadenceTimer := none

/-- The duration tester after restart (R168); `last` is ABORTED, RESTART when the marker was set, NONE otherwise. -/
def Tester.afterRestart (last : TestResult) : Tester where
  state := .idle
  requested := none
  completed := none
  minute := none
  cause := none
  suspend := none
  last := last
  batteryFault := false
  battery := none

/-- The attendant port when the node comes out of restart (R169, R172). -/
def AttendantPort.afterRestart (port : Port) : AttendantPort := ⟨port, [], []⟩

/-- The configuration loader at the start of LOADING (R177), or held in restart (R179; log 6). -/
def Loader.afterRestart (phase : Phase) : Loader where
  phase := phase
  listen := none
  node := .default .day
  invalid := none
  clampCount := 0
  firstClamp := none

/-- The block in LOADING (or held in restart), with what a restart keeps: the waiting commands, the test-in-force marker
(R168, R179), the pins and the free-choice count. What the outputs are while the reset pin holds the node, no rule says: that they are R177's
of LOADING there too is a DESIGN CHOICE, log 6. -/
def State.restarted (phase : Phase) (port : Port) (pending : List Instr) (marker : Bool) (pins : Pins)
    (freeCount : Nat) : State where
  pending := pending
  now := 0
  cl := .afterRestart phase
  ds := .afterRestart (List.replicate 16 .unused)
  fl := .afterRestart
  lc := .afterRestart
  nt := .afterRestart (List.replicate 8 .unused) .day
  ru := .afterRestart
  doors := List.replicate 8 (.idle .unused)
  cc := .afterRestart (List.replicate 8 .unused)
  al := []
  sd := .afterRestart (List.replicate 4 .unused) (List.replicate 2 .unused) none
  dt := .afterRestart .none
  ap := .afterRestart port
  marker := marker
  pins := pins
  freeCount := freeCount

/-- The machine right after reset: the first power-up has ended and LOADING begins; select is high, the marker is clear
(R168: a part that holds no kept value), every lamp conducts (log 11). -/
def State.reset : State := State.restarted .loading .high [] false ⟨.day, 15, [0xFFFFFFFF, 0xFFFFFFFF]⟩ 0

end Sys2Proof.Machine
end

