-- ==== Sys2Proof/Machine/Ops.lean ====
section
/-!
DEFINITION. Ops.lean: the named operations every block uses: phases, the clock and timers, access to the records of the
fixed-length lists, and offering a report (R172).
-/

namespace Sys2Proof

/-! ### Codes of the syntax's values (R171, Table 3-1) -/

def FireState.code : FireState → Nat
  | .quiet => 0 | .caution => 1 | .suspect => 2 | .fire => 3

def Role.code : Role → Nat
  | .gallery => 0 | .station => 1

def Mode.code : Mode → Nat
  | .day => 0 | .night => 1

/-- R91's order SHUT, OPEN. DEDUCED, log 14. -/
def Contact.code : Contact → Nat
  | .shut => 0 | .opened => 1

/-- R91's order LOCK, FREE. DEDUCED, log 14. -/
def Lock.code : Lock → Nat
  | .lock => 0 | .free => 1

/-- A telegram kind as Table 3-1 numbers it. -/
def Payload.kindCode : Payload → Nat
  | .state _ => 1 | .call _ => 2 | .take _ => 3 | .clear _ => 4 | .giveup _ => 5 | .order _ => 6

def TelegramKind.code : TelegramKind → Nat
  | .state => 1 | .call => 2 | .take => 3 | .clear => 4 | .giveup => 5 | .order => 6

/-- The length of a kind's payload in bytes (Table 3-1). -/
def TelegramKind.length : TelegramKind → Nat
  | .clear => 4
  | .state | .call | .take | .giveup | .order => 3

/-- The length of a payload in bytes (Table 3-1). -/
def Payload.length : Payload → Nat
  | .clear _ => 4
  | .state _ | .call _ | .take _ | .giveup _ | .order _ => 3

end Sys2Proof

namespace Sys2Proof.Machine

/-! ### Codes of reports and of enumerated values (R171, R172) -/

/-- A report kind's number: the block's first code plus its place in the block's report table (R172). -/
def ReportKind.code : ReportKind → Nat
  | .channelAlarm => 0x10 | .channelFault => 0x11 | .channelRecovered => 0x12 | .faultInAlarm => 0x13
  | .driftLimit => 0x14 | .channelIsolated => 0x15 | .channelRestored => 0x16
  | .galleryState => 0x20 | .fireCause => 0x21 | .resetRefused => 0x22 | .fireReset => 0x23
  | .walkBegin => 0x24 | .walkTested => 0x25 | .walkEnd => 0x26
  | .lineStuck => 0x30 | .lineNoisy => 0x31 | .collision => 0x32 | .duplicateId => 0x33
  | .neighbourHeard => 0x40 | .neighbourSilent => 0x41 | .neighbourBack => 0x42 | .neighbourCleared => 0x43
  | .buildingMode => 0x44 | .buildingEvacuate => 0x45 | .silenceLatch => 0x46
  | .evacuating => 0x50 | .noRoute => 0x51
  | .doorForced => 0x60 | .doorHeld => 0x61 | .doorJammed => 0x62 | .doorJamCleared => 0x63 | .pulseDenied => 0x64
  | .callRaised => 0x70 | .callReplaced => 0x71 | .callReminder => 0x72 | .callTaken => 0x73
  | .callGivenUp => 0x74 | .callOverdue => 0x75 | .callCleared => 0x76 | .clearRefused => 0x77
  | .listNew => 0x80 | .listChanged => 0x81 | .takeWon => 0x82 | .takeLost => 0x83 | .takeUnanswered => 0x84
  | .listCleared => 0x85 | .listExpired => 0x86 | .listDisplaced => 0x87 | .truncated => 0x88
  | .signLampFault => 0x90 | .stripLampFault => 0x91 | .lampCheckEnd => 0x92 | .lampCleared => 0x93
  | .testStarted => 0xA0 | .testSuspended => 0xA1 | .testResumed => 0xA2 | .testResult => 0xA3
  | .config => 0xF0

def Phase.code : Phase → Nat
  | .held => 0 | .loading => 0 | .listen => 1 | .run => 2

def ImageReason.code : ImageReason → Nat
  | .noAck => 0 | .marker => 1 | .length => 2 | .crc => 3 | .nodeId => 4

def ChannelKind.code : ChannelKind → Nat
  | .unused => 0 | .smoke => 1 | .heat => 2

def ChannelState.code : ChannelState → Nat
  | .settle => 0 | .refill => 1 | .normal => 2 | .prealarm => 3 | .verify => 4 | .alarm => 5 | .fault => 6
  | .isolated => 7

def Cause.code : Cause → Nat
  | .none => 0 | .heat => 1 | .point => 2 | .double => 3 | .neighbour => 4 | .delay => 5

def Presence.code : Presence → Nat
  | .absent => 0 | .fresh => 1 | .silent => 2

def Via.code : Via → Nat
  | .slot i => i | .own => 8 | .none => 9

def EvacCause.code : EvacCause → Nat
  | .radius => 0 | .building => 1 | .both => 2

def DoorKind.code : DoorKind → Nat
  | .unused => 0 | .gallery => 1 | .exit => 2 | .staff => 3 | .store => 4

def DoorState.code : DoorState → Nat
  | .shutLocked => 0 | .shutFree => 1 | .access => 2 | .openFree => 3 | .openTimed => 4 | .openLong => 5
  | .forced => 6 | .jammed => 7

/-- R93's order DROP, HOLD. DEDUCED, log 14. -/
def Magnet.code : Magnet → Nat
  | .drop => 0 | .hold => 1

def PointKind.code : PointKind → Nat
  | .unused => 0 | .help => 1 | .staff => 2 | .fire => 3

def CallKind.code : CallKind → Nat
  | .help => 0 | .staff => 1 | .fire => 2 | .forced => 3 | .held => 4 | .fault => 5

def EntryState.code : EntryState → Nat
  | .opened => 0 | .taking => 1 | .mine => 2 | .others => 3

def Arrow.code : Arrow → Nat
  | .left => 0 | .right => 1 | .ahead => 2

def Display.code : Display → Nat
  | .plain => 0 | .arrow => 1 | .cross => 2

def Dir.code : Dir → Nat
  | .forward => 0 | .reverse => 1 | .steady => 2

/-- The order of R149's table. DEDUCED, log 14. -/
def StripMode.code : StripMode → Nat
  | .check => 0 | .off => 1 | .chase => 2 | .steady => 3 | .noRoute => 4

def SounderMode.code : SounderMode → Nat
  | .off => 0 | .alert => 1 | .evac => 2

def TestState.code : TestState → Nat
  | .idle => 0 | .running => 1 | .suspended => 2

def SuspendCause.code : SuspendCause → Nat
  | .host => 0 | .notQuiet => 1 | .fireNear => 2 | .evacuate => 3

def AbortReason.code : AbortReason → Nat
  | .host => 0 | .peer => 1 | .suspendTimeout => 2 | .restart => 3

/-- R159's order NONE, PASS, FAIL, ABORTED. DEDUCED, log 17. -/
def TestResult.code : TestResult → Nat
  | .none => 0 | .pass => 1 | .fail _ => 2 | .aborted _ => 3

/-- Two items packed into a report's two bytes: high byte, low byte (R172). -/
def pack (high low : Nat) : Nat := high * 256 + low

/-- SET with a further item in the high byte, FFh where none is named (R172). -/
def packSet (further : Option Nat) : Nat := pack (further.getD 0xFF) 1

/-- CLEAR with a further item in the high byte, FFh where none is named (R172). -/
def packClear (further : Option Nat) : Nat := pack (further.getD 0xFF) 0

/-- The subject of a report that names none (R172). -/
abbrev noSubject : Nat := 0xFFFF

/-- Yes, set, true and ON are 1 (R171). -/
def bit (b : Bool) : Nat := if b then 1 else 0

namespace State

/-! ### Phases and configuration -/

/-- The node has left LOADING: telegrams, samples, inputs and timers reach the blocks (R177). -/
def awake (s : State) : Bool := s.cl.phase = .listen || s.cl.phase = .run

/-- The node is in RUN. -/
def running (s : State) : Bool := s.cl.phase = .run

/-- The node's own id, 0 when unconfigured or invalid. -/
def nodeId (s : State) : Nat := s.cl.node.id

/-! ### Clock and timers -/

/-- Whole seconds since restart (00_scope.md 3.4). -/
def seconds (s : State) : Nat := s.now / Config.second

/-- A timer of the given duration, started or restarted now. -/
def after (s : State) (ticks : Nat) : Timer := some (s.now + ticks)

/-- Time has passed up to `t`: a command that names a moment of the part's own time base is taken at that moment, or now
when the clock is already there. DESIGN CHOICE, safe, log 2. -/
def reach (s : State) (t : Nat) : State := s.setNow (max s.now t)

/-! ### Records of the fixed-length lists -/

def channel (s : State) (c : Nat) : Channel := s.ds.channels.getD c (Channel.afterRestart .unused)
def slot (s : State) (k : Nat) : Slot := s.nt.slots.getD k .unused
def door (s : State) (d : Nat) : Door := s.doors.getD d (Door.idle .unused)
def point (s : State) (p : Nat) : Point := s.cc.points.getD p .unused
def call (s : State) (src : Nat) : Option Call := s.cc.calls.getD src none
def serial (s : State) (src : Nat) : Nat := s.cc.serials.getD src 0
def rotation (s : State) (level : Nat) : List Nat := s.cc.rotations.getD level []
def sign (s : State) (n : Nat) : Sign := s.sd.signs.getD n .unused
def strip (s : State) (k : Nat) : Strip := s.sd.strips.getD k .unused

def setChannel (s : State) (c : Nat) (v : Channel) : State :=
  s.setDs { s.ds with channels := s.ds.channels.set c v }
def setSlot (s : State) (k : Nat) (v : Slot) : State := s.setNt { s.nt with slots := s.nt.slots.set k v }
def setDoor (s : State) (d : Nat) (v : Door) : State := s.setDoors (s.doors.set d v)
def setPoint (s : State) (p : Nat) (v : Point) : State := s.setCc { s.cc with points := s.cc.points.set p v }
def setCall (s : State) (src : Nat) (v : Option Call) : State := s.setCc { s.cc with calls := s.cc.calls.set src v }
def setSign (s : State) (n : Nat) (v : Sign) : State := s.setSd { s.sd with signs := s.sd.signs.set n v }
def setStrip (s : State) (k : Nat) (v : Strip) : State := s.setSd { s.sd with strips := s.sd.strips.set k v }

/-- `f` applied for each index 0..n-1 in turn. -/
def forEach (n : Nat) (f : State → Nat → State) (s : State) : State := (List.range n).foldl f s

end State

/-! ### Reports (R172) -/

/-- The newest entry's mark becomes OVERFLOW. -/
def markNewest : List Report → List Report
  | [] => []
  | [r] => [{ r with overflow := true }]
  | r :: rs => r :: markNewest rs

/-- R172: an offer appends to a queue of fewer than 16 entries; otherwise it is dropped and the newest entry is marked. -/
def queueReport (q : List Report) (r : Report) : List Report :=
  if q.length < 16 then q ++ [r] else markNewest q

/-- A report is offered: kind, subject and value as the report's rule names them, at the present second. -/
def State.report (s : State) (kind : ReportKind) (subject value : Nat) : State :=
  s.setAp { s.ap with
    reports := queueReport s.ap.reports ⟨kind, BitVec.ofNat 16 subject, BitVec.ofNat 16 value, s.seconds, false⟩ }

/-- A report offered only when a condition holds. -/
def State.reportIf (s : State) (c : Bool) (kind : ReportKind) (subject value : Nat) : State :=
  if c then s.report kind subject value else s

end Sys2Proof.Machine
end

