-- ==== Sys2Proof/Machine/Flags.lean ====
section
/-!
DEFINITION. Flags.lean: the conditions and drives that are functions of the state: presence views of a slot (R63), threshold
conditions' inputs, free condition and magnet (R92, R93), the fault summary (R173), ATTN (R172), sounder, relay and lamp
drives (R146, R156, R159).
-/

namespace Sys2Proof.Machine

/-! ### What a slot offers (R63) -/

def Slot.used (k : Slot) : Bool := k.id != 0

def Slot.heard (k : Slot) : Bool := k.used && k.presence != .absent

def Slot.fresh (k : Slot) : Bool := k.used && k.presence = .fresh

def Slot.silent (k : Slot) : Bool := k.used && k.presence = .silent

/-- The fire state a slot offers: QUIET while ABSENT (R63). -/
def Slot.offeredFire (k : Slot) : FireState := if k.heard then k.fire else .quiet

/-- The fire distance a slot offers: 15 while ABSENT (R63, R78). -/
def Slot.offeredF (k : Slot) : Nat := if k.heard then k.f else 15

/-- The exit distance a slot offers: 15 unless FRESH (R63). -/
def Slot.offeredX (k : Slot) : Nat := if k.fresh then k.x else 15

/-- TEST_RUNNING as a slot offers it: false unless FRESH (R63). -/
def Slot.offeredTest (k : Slot) : Bool := k.fresh && k.test

/-- A used slot, FRESH or SILENT, holds fire state FIRE (R12, R29). -/
def State.slotHoldsFire (s : State) : Bool := s.nt.slots.any (·.offeredFire = .fire)

/-- No used slot that is FRESH offers TEST_RUNNING true (R160, R164). -/
def State.noPeerTesting (s : State) : Bool := s.nt.slots.all fun k => !k.offeredTest

/-! ### Channels -/

/-- The smoothed code m (R6). -/
def Channel.m (ch : Channel) : Nat := ch.m4 / 4

/-- The smoke signal d, 0 when m is below the baseline (R11). -/
def Channel.d (ch : Channel) : Nat := ch.m - ch.b

def Channel.inAlarm (ch : Channel) : Bool := ch.state = .alarm

/-- Near alarm: PREALARM or VERIFY (R26). -/
def Channel.nearAlarm (ch : Channel) : Bool := ch.state = .prealarm || ch.state = .verify

/-! ### Call points -/

/-- A FIRE-kind point whose qualified level is ACTIVE; an unqualified point reads INACTIVE (R111). -/
def Point.fireActive (p : Point) : Bool := p.kind = .fire && p.input == some true

/-- The lowest-index active FIRE-kind point (R27, R32). -/
def State.activeFirePoint (s : State) : Option Nat := s.cc.points.findIdx? (·.fireActive)

/-! ### Route -/

def State.isEvacuating (s : State) : Bool := s.ru.evacuating.isSome

/-! ### Doors -/

/-- The regime is free (R92). -/
def regimeFree (kind : DoorKind) (mode : Mode) : Bool :=
  match kind with
  | .gallery | .exit => mode = .day
  | .staff | .store | .unused => false

/-- Release applies to a door of the kind while the node is evacuating (R92). -/
def releaseApplies (kind : DoorKind) (evacuating : Bool) : Bool :=
  match kind with
  | .gallery | .exit | .staff => evacuating
  | .store | .unused => false

/-- A door's free condition (R92). -/
def State.freeCondition (s : State) (d : Door) : Bool :=
  regimeFree d.cfg.kind s.nt.mode || releaseApplies d.cfg.kind s.isEvacuating

/-- The lock drive of a used door (R94). -/
def lockDrive (free : Bool) (d : Door) : Lock :=
  if d.cfg.kind = .unused || free || d.state = .access || (d.state = .openTimed && d.accessMark) then .free else .lock

/-- A used slot that names door `d` as its link door holds fire state FIRE (R93). -/
def State.linkFire (s : State) (d : Nat) : Bool :=
  s.nt.slots.any fun k => k.used && k.link == some d && k.offeredFire = .fire

/-- The magnet drive of door `d` (R93); DROP for every door that is not a GALLERY door with a magnet (R90). -/
def State.magnetDrive (s : State) (d : Nat) (door : Door) : Magnet :=
  if door.cfg.kind = .gallery && door.cfg.magnet && !(s.fl.gallery = .fire) && !s.linkFire d && !s.isEvacuating &&
      s.nt.mode = .day then .hold else .drop

def Door.jammed (d : Door) : Bool := d.cfg.kind != .unused && d.state = .jammed

/-- The qualified level of door `i`'s REX input, true for PRESSED, none until it is qualified: not before 200 ms after LOADING, and
PRESSED for 200 ms at least; what no command brings is a free value (R91; log 10). -/
def Door.rexLevel (d : Door) (i now : Nat) : Option Bool :=
  let first := max Config.qualify (Config.freeHold d.rex.draw i 0)
  let held := max Config.qualify (Config.freeHold d.rex.draw i 1)
  if d.cfg.kind = .unused then none
  else
    match d.rex.pressed with
    | some t => some (now < t + held)
    | none => if now < first then none else some (Config.freePressed d.rex.draw i && now < first + held)

/-! ### Outputs of the signal driver and the duration tester -/

/-- A sign's lamp (R146); an unused sign is never lit (R144). -/
def Sign.lampLit (g : Sign) : Bool :=
  g.used &&
    match g.display with
    | .plain => true
    | .arrow => match g.flash with | some n => 128 ≤ n || n % 16 < 8 | none => true
    | .cross => match g.flash with | some n => n % 32 < 16 | none => true

/-- The tone the sounder mode demands now (R155). -/
def Signals.demandedTone (sd : Signals) : Bool :=
  match sd.sounder with
  | .off => false
  | .alert => sd.cadence == some true
  | .evac => true

/-- The sounder output (R156); off in LOADING (R177), and while the reset pin holds the node in restart (DESIGN CHOICE, log 6). -/
def State.sounderOn (s : State) : Bool := s.awake && s.nt.latch.isNone && s.sd.demandedTone

/-- The mains relay drive is open, so that the lighting runs on its battery, while a test is RUNNING (R159). -/
def State.relayOpen (s : State) : Bool := s.dt.state = .running

/-- TEST_RUNNING of the node's own STATE (R57, R159). -/
def State.testRunning (s : State) : Bool := s.dt.state = .running

/-! ### Attendant port -/

/-- ATTN is asserted while the report queue holds an entry (R172). -/
def State.attn (s : State) : Bool := !s.ap.reports.isEmpty

/-- The fourteen member kinds of R173, bit 0 first. -/
def State.faultMembers (s : State) : List Bool :=
  [ s.ds.channels.any (·.state = .fault)
  , s.ds.channels.any (·.driftLimit)
  , s.ds.channels.any (·.faultInAlarm)
  , s.lc.lineStuck
  , s.lc.lineNoisy
  , s.lc.collision
  , s.lc.duplicateId
  , s.nt.slots.any (·.silent)
  , s.doors.any (·.jammed)
  , s.sd.signs.any (·.fault)
  , s.sd.strips.any (·.latch.isSome)
  , s.dt.batteryFault
  , s.cl.clampCount != 0
  , s.cl.invalid.isSome ]

/-- Marks as a number, bit i for mark i (R171). -/
def bitsToNat : List Bool → Nat
  | [] => 0
  | b :: bs => bit b + 2 * bitsToNat bs

/-- The fault summary as READ_NODE gives it (R173). -/
def State.faultSummary (s : State) : Nat := bitsToNat s.faultMembers

/-- Some fault member holds. -/
def State.hasFault (s : State) : Bool := s.faultMembers.any (fun b => b)

end Sys2Proof.Machine
end

