-- ==== Sys2Proof/Machine/Line.lean ====
section
/-!
DEFINITION. Line.lean: the line controller's operations: offers to the transmit queue (R54, R55, R56), STATE offers (R57, R58),
sending, loss, collision and removal at completion (R49 to R52), when it receives and how many bits a telegram has (R41, R42, R46, R51,
R61), the noise window (R47) and stuck periods (R48).
-/

namespace Sys2Proof.Machine

/-- The line controller's answer to an offer (R54). -/
inductive OfferAnswer where
  | entered | collapsed | discarded | notEntered
  deriving DecidableEq, Repr

/-- The queue's order: class, then age (R54). -/
def TxEntry.before (a b : TxEntry) : Bool := a.cls < b.cls || (a.cls = b.cls && a.age < b.age)

/-- An entry put at its place in the order (R54). -/
def insertEntry (e : TxEntry) : List TxEntry → List TxEntry
  | [] => [e]
  | x :: xs => if e.before x then e :: x :: xs else x :: insertEntry e xs

/-- R55: an offered STATE collapses into a queued STATE, an offered CALL into a queued CALL of the same source. -/
def collapsesInto (body : Payload) (e : TxEntry) : Bool :=
  match body, e.body with
  | .state _, .state _ => true
  | .call p, .call q => p.source = q.source
  | _, _ => false

/-- R55: contents replaced, age kept, the more urgent class; marked when the entry is on the line (R52). -/
def TxEntry.collapse (e : TxEntry) (body : Payload) (cls : Nat) : TxEntry :=
  { e with body := body, cls := min e.cls cls, replaced := e.replaced || e.onLine }

/-- The youngest entry of the least urgent class, the entry on the line passed over (R56). -/
def victim : List TxEntry → Option TxEntry
  | [] => none
  | e :: es =>
    match victim es with
    | none => if e.onLine then none else some e
    | some v => if !e.onLine && v.before e then some e else some v

/-- An offer decided by R54, R55 and R56; `open_` is whether offers are entered at all (in RUN, with an id). -/
def LineController.offer (lc : LineController) (open_ : Bool) (body : Payload) (cls : Nat) :
    LineController × OfferAnswer :=
  if !open_ then (lc, .notEntered)
  else
    match lc.queue.find? (collapsesInto body) with
    | some e =>
      ({ lc with queue := insertEntry (e.collapse body cls) (lc.queue.eraseP (collapsesInto body)) }, .collapsed)
    | none =>
      let joining : TxEntry := ⟨body, cls, lc.nextAge, 0, false, false⟩
      if lc.queue.length < 8 then
        ({ lc with queue := insertEntry joining lc.queue, nextAge := lc.nextAge + 1 }, .entered)
      else
        match victim lc.queue with
        | some v =>
          if cls < v.cls then
            ({ lc with
                queue := insertEntry joining (lc.queue.eraseP (· = v))
                nextAge := lc.nextAge + 1
                queueDiscard := true }, .entered)
          else ({ lc with queueDiscard := true }, .discarded)
        | none => ({ lc with queueDiscard := true }, .discarded)

/-- Offers are entered in RUN at a node with an id (R54). -/
def State.offersOpen (s : State) : Bool := s.running && s.nodeId != 0

/-- A telegram is offered with its class. -/
def State.offer (s : State) (body : Payload) (cls : Nat) : State × OfferAnswer :=
  let r := s.lc.offer s.offersOpen body cls
  (s.setLc r.1, r.2)

/-! ### STATE telegrams -/

/-- The current contents of a STATE (R57). -/
def State.statePayload (s : State) : StatePayload where
  f := BitVec.ofNat 4 s.ru.f
  x := BitVec.ofNat 4 s.ru.announcedX
  fire := s.fl.gallery
  role := s.cl.node.role
  testRunning := s.testRunning
  h := BitVec.ofNat 4 s.cl.node.h
  mode := s.nt.mode
  evacuate := s.nt.evacuate

/-- A STATE with the current contents is offered and becomes the last offered, whatever the answer (R57). -/
def State.offerState (s : State) (cls : Nat) : State :=
  let s' := (s.offer (.state s.statePayload) cls).1
  s'.setLc { s'.lc with lastState := some s.statePayload }

/-- The class of a STATE offered for a change: 0 in FIRE or when f differs from the last offered f, else 2 (R57). -/
def State.changeClass (s : State) : Nat :=
  if s.fl.gallery = .fire || s.lc.lastState.map (·.f) != some s.statePayload.f then 0 else 2

/-- The class of the first STATE at RUN entry (R57). -/
def State.firstClass (s : State) : Nat := if s.fl.gallery = .fire || s.ru.f < 15 then 0 else 2

/-- The class of a refresh (R58). -/
def State.refreshClass (s : State) : Nat := if s.fl.gallery = .fire then 0 else 3

/-- The refresh timer from its full duration H; stopped at a node with id 0 (R58). -/
def State.startRefresh (s : State) : State :=
  s.setLc { s.lc with refresh := if s.nodeId = 0 then none else s.after (s.cl.node.h * Config.second) }

/-- At RUN entry the first STATE is offered and the refresh timer is started (R57, R58, R178). A node with id 0 makes no offer, and its
last STATE stays absent: DESIGN CHOICE, log 32. -/
def firstStateFollow (old s : State) : State :=
  if s.offersOpen && !old.running then (s.offerState s.firstClass).startRefresh else s

/-- A STATE for a change of its contents at the event that took the block from `old`, in RUN, to `s` (R57). -/
def stateFollow (old s : State) : State :=
  if s.offersOpen && old.running && old.statePayload != s.statePayload && s.lc.lastState != some s.statePayload then
    s.offerState s.changeClass
  else s

/-! ### Sending (R49 to R52) -/

/-- The head of the queue is sent, at an idle at which R49 permits it; that idle ends the deafness since restart or after a collision (R51, R61). -/
def LineController.begin (lc : LineController) (id : Nat) : LineController :=
  match lc.queue with
  | [] => lc
  | e :: es =>
    { lc with
      queue := { e with onLine := true } :: es
      sending := some ⟨BitVec.ofNat 2 e.cls, BitVec.ofNat 6 id, e.body⟩
      deaf := none }

/-- R49: RUN, an id, a telegram waiting, no stuck period; and no telegram of its own on the line. -/
def State.mayContend (s : State) : Bool :=
  s.offersOpen && !s.lc.queue.isEmpty && !s.lc.stuckPeriod && s.lc.sending.isNone

/-- R50, R55: after a loss the entry stays as it is, off the line. -/
def TxEntry.offLine (e : TxEntry) : TxEntry := { e with onLine := false, replaced := false }

/-- R50: the node stops driving; the telegram stays queued unchanged. -/
def LineController.lose (lc : LineController) : LineController :=
  { lc with queue := lc.queue.map .offLine, sending := none }

/-- R51: the entry abandoned counts the collision. -/
def TxEntry.collide (e : TxEntry) : TxEntry :=
  if e.onLine then { e with onLine := false, replaced := false, collisions := e.collisions + 1 } else e

/-- R51: a collision; the node is deaf to the rest of the line's traffic, whose start bit came before it; COLLISION is set and reported when
the abandoned entry's count reaches 4. -/
def State.collide (s : State) : State :=
  let hit := s.lc.queue.find? (·.onLine)
  let s1 := s.setLc { s.lc with queue := s.lc.queue.map .collide, sending := none, deaf := some s.now }
  match hit with
  | some e =>
    if e.collisions = 3 && !s.lc.collision then
      (s1.setLc { s1.lc with collision := true }).report .collision e.body.kindCode (packSet (some e.cls))
    else s1
  | none => s1

/-- R52: the entry sent leaves the queue, or stays with its new contents and collision count 0 when they were replaced
while it was on the line. -/
def completeEntries : List TxEntry → List TxEntry
  | [] => []
  | e :: es =>
    if e.onLine then
      if e.replaced then { e with onLine := false, replaced := false, collisions := 0 } :: es else es
    else e :: completeEntries es

/-- R51, R52: what the line controller itself does at a transmission completion. -/
def State.completeSending (s : State) : State :=
  (s.setLc { s.lc with queue := completeEntries s.lc.queue, sending := none, collision := false }).reportIf
    s.lc.collision .collision noSubject (packClear none)

/-! ### Receiving (R46, R51, R61) -/

/-- Whatever telegram ends is received: the node sends none that it has not lost (R46), and is not deaf since restart or after a
collision (R51, R61). -/
def State.receives (s : State) : Bool := s.lc.sending.isNone && s.lc.deaf.isNone

/-- How many bits there are from a telegram's start bit to the idle that ends it, at the fewest and at the most. -/
structure Span where
  fewest : Nat
  most : Nat
  deriving DecidableEq, Repr

/-- The bits from the start bit to the last bit of the check, stuff bits left out (R43). -/
def fieldBits (payloadBytes : Nat) : Nat := 33 + 8 * payloadBytes

/-- A telegram with no stuff bit, and with all that it can have: one in seven bits, at most 7 in a telegram of three bytes (the Note of R42).
The line is idle once 11 bits are recessive, and up to 7 of them can be the check's own last ones (R41, R42: DEDUCED, log 38). -/
def telegramSpan (payloadBytes : Nat) : Span :=
  ⟨fieldBits payloadBytes + 4, fieldBits payloadBytes + (fieldBits payloadBytes - 2) / 7 + 11⟩

/-- A telegram of unknown kind, or malformed: of 0 to 12 payload bytes (R43, R44). -/
def discardSpan : Span := ⟨(telegramSpan 0).fewest, (telegramSpan 12).most⟩

/-- A telegram in error: from a start bit alone to the longest that a length field can announce (R43, R46: DEDUCED, log 38). -/
def errorSpan : Span := ⟨12, (telegramSpan 15).most⟩

/-- R51, R61: at an idle the deafness is over, once the node itself has seen the 11 recessive bits (log 26, 38). -/
def State.idle (s : State) : State := s.setLc { s.lc with deaf := s.lc.deaf.filter (s.now < ·) }

/-- The same where a free value said which telegram was received; that the choice is counted is the model's, log 8. -/
def State.idleChosen (s : State) : State := s.idle.setFreeCount (s.freeCount + 1)

/-! ### Line faults (R47, R48, R53) -/

/-- R47: times 60 s old leave the window before a check error is entered; with the newest of them gone LINE_NOISY clears. -/
def State.dropAged (s : State) : State :=
  let kept := s.lc.noise.filter fun t => s.now < t + 60 * Config.second
  let quiet := s.lc.lineNoisy && kept.isEmpty && !s.lc.noise.isEmpty
  (s.setLc { s.lc with noise := kept, lineNoisy := s.lc.lineNoisy && !quiet }).reportIf quiet .lineNoisy noSubject 0

/-- R47: a time appended at the young end; the oldest removed when the window then holds 10. -/
def pushNoise (window : List Nat) (t : Nat) : List Nat :=
  if window.length < 9 then window ++ [t] else (window ++ [t]).drop (window.length - 8)

/-- R47: a check error enters the noise window; LINE_NOISY is set when the window is left holding 9 times. -/
def State.noteCheckError (s : State) : State :=
  let s1 := s.dropAged
  let window := pushNoise s1.lc.noise s1.now
  let noisy := window.length == 9
  (s1.setLc { s1.lc with noise := window, lineNoisy := s1.lc.lineNoisy || noisy }).reportIf
    (noisy && !s1.lc.lineNoisy) .lineNoisy noSubject 1

/-- R47: the moment at which the oldest time of the window becomes 60 s old. -/
def State.noiseDeadline (s : State) : Timer := s.lc.noise.head?.map (· + 60 * Config.second)

/-- R47: the oldest time leaves; LINE_NOISY clears when the window empties. -/
def State.ageNoise (s : State) : State :=
  let rest := s.lc.noise.tail
  (s.setLc { s.lc with noise := rest, lineNoisy := s.lc.lineNoisy && !rest.isEmpty }).reportIf
    (s.lc.lineNoisy && rest.isEmpty) .lineNoisy noSubject 0

/-- R48: a stuck period begins. -/
def State.stuckBegin (s : State) : State :=
  (s.setLc { s.lc with stuckPeriod := true, lineStuck := true, stuckClear := none }).reportIf
    (!s.lc.lineStuck) .lineStuck noSubject 1

/-- R48: the line reaches idle after a stuck period; that idle ends the deafness too (R51, R61). -/
def State.stuckEnd (s : State) : State :=
  if s.lc.stuckPeriod then
    s.setLc { s.lc with stuckPeriod := false, stuckClear := s.after Config.second, deaf := none }
  else s

/-- R48: the stuck-clear timer expires. -/
def State.stuckExpire (s : State) : State :=
  (s.setLc { s.lc with lineStuck := false, stuckClear := none }).reportIf s.lc.lineStuck .lineStuck noSubject 0

/-- R53: another node bears this node's id. -/
def State.noteDuplicate (s : State) (kind : Nat) : State :=
  (s.setLc { s.lc with duplicateId := true }).reportIf (!s.lc.duplicateId) .duplicateId s.nodeId kind

end Sys2Proof.Machine
end

