-- ==== Sys2Proof/Machine/Attention.lean ====
section
/-!
DEFINITION. Attention.lean: the attention list: its order (R129, R130), CALL arrivals (R131 to R134), removal (R135, R136), and the
take protocol at the station (R138 to R140).
-/

namespace Sys2Proof.Machine

/-! ### Identity and order -/

/-- The entry stands for the call of this origin and source (R129). -/
def Entry.has (origin source : Nat) (e : Entry) : Bool := e.origin = origin && e.source = source

/-- OPEN and TAKING rank before MINE and OTHERS (R130). -/
def EntryState.rank : EntryState → Nat
  | .opened | .taking => 0
  | .mine | .others => 1

/-- R130's four keys, the last in two parts. -/
def Entry.keys (e : Entry) : List Nat := [e.priority, e.state.rank, e.inserted, e.origin, e.source]

/-- Lexicographic order of keys. -/
def keysBefore : List Nat → List Nat → Bool
  | a :: as, b :: bs => a < b || (a = b && keysBefore as bs)
  | _, _ => false

/-- An entry put at its place in the order (R130). -/
def listInsert (e : Entry) : List Entry → List Entry
  | [] => [e]
  | x :: xs => if keysBefore e.keys x.keys then e :: x :: xs else x :: listInsert e xs

/-- The entry of an identity, if any. -/
def State.entry (s : State) (origin source : Nat) : Option Entry := s.al.find? (Entry.has origin source)

/-- The entry of an identity leaves the list, its timers with it. -/
def State.unlist (s : State) (origin source : Nat) : State := s.setAl (s.al.eraseP (Entry.has origin source))

/-- An entry takes its place in the list. -/
def State.enlist (s : State) (e : Entry) : State := s.setAl (listInsert e s.al)

/-- The entry of `e`'s identity becomes `e` and moves to its new place (R130). -/
def State.relist (s : State) (e : Entry) : State := (s.unlist e.origin e.source).enlist e

/-- The age of an entry: whole seconds since its insertion, saturating at 65535 (R129). -/
def Entry.age (e : Entry) (seconds : Nat) : Nat := min 65535 (seconds - e.inserted)

/-- The subject of the attention-list reports: origin and source (R172). -/
def Entry.subject (e : Entry) : Nat := pack e.origin e.source

/-! ### CALL arrivals -/

/-- The expiry time of an entry (R136). -/
abbrev entryTicks : Nat := 100 * Config.second

/-- The take timeout (R139). -/
abbrev takeTicks : Nat := 5 * Config.second

/-- A call kind field's meaning (Table 3-1). -/
def callKindOf (n : Nat) : CallKind :=
  if n = 0 then .help else if n = 1 then .staff else if n = 2 then .fire else if n = 3 then .forced
  else if n = 4 then .held else .fault

/-- R131: the state that follows a telegram's call state and taker, `own` being this node's id. -/
def toldState (p : CallPayload) (own : Nat) : EntryState :=
  if p.taken then (if p.taker.toNat = own then .mine else .others) else .opened

/-- R131, R134: an entry as inserted from a telegram. -/
def State.newEntry (s : State) (origin : Nat) (p : CallPayload) : Entry where
  origin := origin
  source := p.source.toNat
  kind := callKindOf p.kind.toNat
  priority := p.priority.toNat
  serial := p.serial.toNat
  state := toldState p s.nodeId
  taker := p.taker.toNat
  overdue := p.overdue
  reminder := p.reminder
  inserted := s.seconds
  expiry := s.after entryTicks
  takeTimeout := none

/-- R131: insertion, reported as LIST_NEW with state, kind and priority (R172). -/
def State.insertCall (s : State) (e : Entry) : State :=
  (s.enlist e).report .listNew e.subject (pack e.state.code (e.kind.code * 16 + e.priority))

/-- R132: the new state of an updated entry. -/
def updatedState (before told : EntryState) : EntryState :=
  match before, told with
  | .taking, .opened => .taking
  | _, t => t

/-- R132: the entry as updated by a telegram: the expiry timer restarted, the insertion time kept, the take timeout kept only
while it stays TAKING. -/
def Entry.update (e : Entry) (p : CallPayload) (s : State) : Entry :=
  let st := updatedState e.state (toldState p s.nodeId)
  { e with
    kind := callKindOf p.kind.toNat
    priority := p.priority.toNat
    state := st
    taker := p.taker.toNat
    overdue := p.overdue
    reminder := p.reminder
    expiry := s.after entryTicks
    takeTimeout := if st = .taking then e.takeTimeout else none }

/-- A field the telegram carries, or the state, differs (R132). -/
def Entry.differs (a b : Entry) : Bool :=
  a.kind != b.kind || a.priority != b.priority || a.state != b.state || a.taker != b.taker || a.overdue != b.overdue ||
    a.reminder != b.reminder

/-- R132: one report of an update: TAKE_WON or TAKE_LOST when TAKING ends, else LIST_CHANGED when something changed. DEDUCED,
log 21. -/
def State.reportUpdate (s : State) (old new : Entry) : State :=
  if old.state = .taking && new.state = .mine then s.report .takeWon new.subject new.taker
  else if old.state = .taking && new.state = .others then s.report .takeLost new.subject new.taker
  else s.reportIf (old.differs new) .listChanged new.subject (pack new.state.code new.priority)

/-- R132: an update by a CALL of the same serial. -/
def State.updateCall (s : State) (e : Entry) (p : CallPayload) : State :=
  (s.relist (e.update p s)).reportUpdate e (e.update p s)

/-- R134: a replacement by a CALL of another serial. -/
def State.replaceCall (s : State) (e new : Entry) : State :=
  ((s.unlist e.origin e.source).reportIf (e.state = .taking) .takeUnanswered e.subject 1).insertCall new

/-- R133: the entry to give up for a newcomer of the given priority. -/
def displaced (list : List Entry) (priority : Nat) : Option Entry :=
  match list.reverse.find? fun e => e.state = .others && priority ≤ e.priority with
  | some e => some e
  | none => list.reverse.find? fun e => priority < e.priority

/-- R131, R133: a CALL whose identity has no entry. -/
def State.newCall (s : State) (e : Entry) : State :=
  if s.al.length < 24 then s.insertCall e
  else
    match displaced s.al e.priority with
    | some d => ((s.unlist d.origin d.source).report .listDisplaced d.subject d.state.code).insertCall e
    | none => s.report .truncated e.subject e.priority

/-- R131 to R134: a CALL reaches the attention list. -/
def State.hearCall (s : State) (origin : Nat) (p : CallPayload) : State :=
  match s.entry origin p.source.toNat with
  | none => s.newCall (s.newEntry origin p)
  | some e => if e.serial = p.serial.toNat then s.updateCall e p else s.replaceCall e (s.newEntry origin p)

/-! ### Removal -/

/-- R135: an origin's CLEAR. -/
def State.hearClear (s : State) (origin source serial clearedBy : Nat) : State :=
  match s.entry origin source with
  | some e => if e.serial = serial then (s.unlist origin source).report .listCleared e.subject clearedBy else s
  | none => s

/-- R136: the expiry timer of an entry expires. -/
def State.expireEntry (s : State) (e : Entry) : State :=
  (s.unlist e.origin e.source).report .listExpired e.subject e.state.code

/-! ### Taking -/

/-- R139: a TAKE of this station has completed. -/
def State.takeCompleted (s : State) (origin source serial : Nat) : State :=
  match s.entry origin source with
  | some e =>
    if e.state = .taking && e.serial = serial then s.relist { e with takeTimeout := s.after takeTicks } else s
  | none => s

/-- R139: the take timeout expires. -/
def State.takeUnanswered (s : State) (e : Entry) : State :=
  (s.relist { e with state := .opened, takeTimeout := none }).report .takeUnanswered e.subject 0

end Sys2Proof.Machine
end

