-- ==== Sys2Proof/Machine/Detector.lean ====
section
/-!
DEFINITION. Detector.lean: one channel record's behaviour (R5 to R20), the arbiter (R4), drift and rate steps (R9, R14), and what
an isolation, a restore and an accepted fire reset do to channels (R21, R22, R23).
-/

namespace Sys2Proof.Machine

/-! ### Classing and filtering a sample -/

/-- A sample's class (R5): open-loop fault, short-circuit fault, or good. -/
inductive SampleClass where
  | openLoop | shortCircuit | good
  deriving DecidableEq, Repr

/-- R5: below 16 open, above 1007 short, else good. -/
def classOf (code : Nat) : SampleClass :=
  if code < 16 then .openLoop else if 1007 < code then .shortCircuit else .good

/-- OPEN or SHORT as a report value (R24). -/
def SampleClass.code : SampleClass → Nat
  | .openLoop => 0 | .shortCircuit => 1 | .good => 2

/-- The good sample is the first after entry to SETTLE or REFILL (R6). -/
def Channel.firstSample (ch : Channel) : Bool :=
  (ch.state = .settle || ch.state = .refill) && ch.sampleCount = 0

/-- R6: the filter takes a good sample. -/
def Channel.filter (ch : Channel) (code : Nat) : Channel :=
  { ch with m4 := if ch.firstSample then 4 * code else ch.m4 - ch.m4 / 4 + code }

/-! ### Thresholds (R11 to R15) -/

/-- The threshold pair (P, A) of the building mode (R11). -/
def ChannelConfig.pair (cfg : ChannelConfig) (mode : Mode) : Nat × Nat :=
  match mode with
  | .day => (cfg.dayP, cfg.dayA)
  | .night => (cfg.nightP, cfg.nightA)

/-- P_eff (R12). -/
def effectiveP (p : Nat) (reduced : Bool) : Nat := if reduced then max 1 (p - p / 4) else p

/-- A_eff (R12). -/
def effectiveA (p a : Nat) (reduced : Bool) : Nat :=
  if reduced then max (effectiveP p reduced + 1) (a - a / 4) else a

/-- Rate evaluation applies and the rise is at least `k` per degree of Rr (R15). -/
def Channel.rise (ch : Channel) (k : Nat) : Bool :=
  match ch.ring with
  | oldest :: _ => 0 < ch.cfg.rr && ch.ring.length = 8 && oldest + k * ch.cfg.rr ≤ ch.m
  | [] => false

/-- What an evaluated sample meets: the alarm condition, the prealarm condition only, or neither (R11). -/
inductive Band where
  | alarm | prealarm | clear
  deriving DecidableEq, Repr

/-- R11, R12 for a SMOKE channel, R13, R15 for a HEAT channel, with m as it stands after filtering. -/
def Channel.band (ch : Channel) (mode : Mode) (reduced : Bool) : Band :=
  match ch.cfg.kind with
  | .unused => .clear
  | .smoke =>
    let pa := ch.cfg.pair mode
    if effectiveA pa.1 pa.2 reduced ≤ ch.d then .alarm
    else if effectiveP pa.1 reduced ≤ ch.d then .prealarm
    else .clear
  | .heat =>
    if 256 + 8 * ch.cfg.th ≤ ch.m || ch.rise 8 then .alarm
    else if 256 + 8 * ch.cfg.th - 80 ≤ ch.m || ch.rise 4 then .prealarm
    else .clear

/-! ### Entering states -/

/-- The prealarm hold time (section 1.7). -/
abbrev holdTicks : Nat := 10 * Config.second

/-- R8: REFILL, or SETTLE when the channel has never settled; count 0, ring empty, hold timer stopped (R17). A verify count
left by an unfinished burst becomes 0: DESIGN CHOICE, log 18. -/
def Channel.refill (ch : Channel) : Channel :=
  { ch with
    state := if ch.settled then .refill else .settle
    sampleCount := 0
    ring := []
    hold := none
    verify := 0 }

/-- R20: entry to FAULT. A verify count left by an unfinished burst becomes 0: DESIGN CHOICE, log 18. -/
def Channel.toFault (ch : Channel) : Channel :=
  { ch with state := .fault, verify := 0, hold := none, ring := [], goodCount := 0 }

/-- R16, R17: entry to VERIFY with count V; last-odd-slot time is the time of entry. -/
def Channel.toVerify (ch : Channel) (v now : Nat) : Channel :=
  { ch with state := .verify, verify := v, lastOdd := now }

/-- Entry to NORMAL: the hold timer is stopped (R17). -/
def Channel.toNormal (ch : Channel) : Channel := { ch with state := .normal, hold := none, verify := 0 }

/-- Entry to ALARM: the hold timer is stopped (R17, R19). -/
def Channel.toAlarm (ch : Channel) : Channel := { ch with state := .alarm, hold := none, verify := 0 }

/-- R7: b is m clamped into [bmin, bmax] for a SMOKE channel, 0 for a HEAT channel. -/
def Channel.settledBaseline (ch : Channel) : Nat :=
  if ch.cfg.kind = .smoke then max ch.cfg.bmin (min ch.cfg.bmax ch.m) else 0

/-- R7: the sixteenth good sample completes SETTLE; DRIFT_LIMIT is set when the clamp changed the value (R10). -/
def Channel.completeSettle (ch : Channel) : Channel :=
  { ch.toNormal with
    settled := true
    b := ch.settledBaseline
    driftLimit := ch.driftLimit || (ch.cfg.kind = .smoke && ch.settledBaseline != ch.m) }

/-! ### One sample (R16 to R20) -/

/-- What a sample brings about beyond the record itself. -/
inductive SampleEvent where
  | nothing
  | faulted (cls : SampleClass)
  | faultInAlarm (cls : SampleClass)
  | recovered
  | burst
  deriving DecidableEq, Repr

/-- A good sample by state: SETTLE and REFILL count (R7, R8); NORMAL, PREALARM and VERIFY evaluate (R16, R17, R18); ALARM
only filters (R19); FAULT counts (R20). The verify count of an abandoned burst becomes 0: DESIGN CHOICE, log 18. -/
def Channel.goodSample (ch : Channel) (code : Nat) (mode : Mode) (reduced : Bool) (v now : Nat) :
    Channel × SampleEvent :=
  let g := ch.filter code
  match ch.state with
  | .settle =>
    let g' := { g with sampleCount := g.sampleCount + 1 }
    (if g'.sampleCount = 16 then g'.completeSettle else g', .nothing)
  | .refill =>
    let g' := { g with sampleCount := g.sampleCount + 1 }
    (if g'.sampleCount = 4 then g'.toNormal else g', .nothing)
  | .normal =>
    match g.band mode reduced with
    | .alarm => (g.toVerify v now, .nothing)
    | .prealarm => ({ g with state := .prealarm, hold := some (now + holdTicks) }, .nothing)
    | .clear => (g, .nothing)
  | .prealarm =>
    match g.band mode reduced with
    | .alarm => (g.toVerify v now, .nothing)
    | .prealarm => ({ g with hold := some (now + holdTicks) }, .nothing)
    | .clear => (g, .nothing)
  | .verify =>
    match g.band mode reduced with
    | .alarm => ({ g with verify := g.verify - 1 }, if g.verify ≤ 1 then .burst else .nothing)
    | .prealarm => ({ g with verify := v }, .nothing)
    | .clear =>
      ({ g with state := .prealarm, verify := 0, hold := some (g.hold.getD (now + holdTicks)) }, .nothing)
  | .alarm => (g, .nothing)
  | .fault =>
    let c := ch.goodCount + 1
    if c = 4 then ({ ch with goodCount := c }.refill, .recovered) else ({ ch with goodCount := c }, .nothing)
  | .isolated => (ch, .nothing)

/-- A fault sample by state (R20). -/
def Channel.faultSample (ch : Channel) (cls : SampleClass) : Channel × SampleEvent :=
  match ch.state with
  | .settle | .refill | .normal | .prealarm | .verify => (ch.toFault, .faulted cls)
  | .alarm =>
    if ch.faultInAlarm then (ch, .nothing) else ({ ch with faultInAlarm := true }, .faultInAlarm cls)
  | .fault => ({ ch with goodCount := 0 }, .nothing)
  | .isolated => (ch, .nothing)

/-- A sample arrives at a channel record (R5). A completed burst is left to the fire logic (R19). -/
def Channel.sample (ch : Channel) (code : Nat) (mode : Mode) (reduced : Bool) (v now : Nat) : Channel × SampleEvent :=
  match classOf code with
  | .good => ch.goodSample code mode reduced v now
  | cls => ch.faultSample cls

/-! ### Drift and rate steps -/

/-- R9, R10: one drift step of a SMOKE channel in NORMAL. -/
def Channel.driftStep (ch : Channel) : Channel :=
  if ch.cfg.kind = .smoke && ch.state = .normal then
    if ch.b < ch.m then
      if ch.b < ch.cfg.bmax then { ch with b := ch.b + 1 } else { ch with driftLimit := true }
    else if ch.m < ch.b && ch.cfg.bmin < ch.b then { ch with b := ch.b - 1, driftLimit := false }
    else if ch.b < ch.cfg.bmax then { ch with driftLimit := false }
    else ch
  else ch

/-- R14: the current m is appended; a ring of eight gives up its oldest value first. -/
def pushRing (ring : List Nat) (m : Nat) : List Nat :=
  if ring.length < 8 then ring ++ [m] else (ring ++ [m]).drop (ring.length - 7)

/-- R14: one rate step of a HEAT channel in NORMAL, PREALARM or VERIFY. -/
def Channel.rateStep (ch : Channel) : Channel :=
  if ch.cfg.kind = .heat && (ch.state = .normal || ch.state = .prealarm || ch.state = .verify) then
    { ch with ring := pushRing ch.ring ch.m }
  else ch

/-! ### Hold timer, isolation, restore, fire reset -/

/-- R17: the hold timer expires: PREALARM enters NORMAL; in any other state the timer just stops. -/
def Channel.holdExpire (ch : Channel) : Channel :=
  if ch.state = .prealarm then ch.toNormal else { ch with hold := none }

/-- R21: entry to ISOLATED. A verify count left by an unfinished burst becomes 0: DESIGN CHOICE, log 18. -/
def Channel.isolate (ch : Channel) : Channel :=
  { ch with state := .isolated, verify := 0, hold := none, ring := [], driftLimit := false, goodCount := 0 }

/-- R22: RESTORE of an isolated channel; its even slot is taken again from a slot that starts at `now` or later. -/
def Channel.restore (ch : Channel) (now : Nat) : Channel := { ch.refill with inService := now }

/-- R23: an accepted fire reset. -/
def Channel.fireReset (ch : Channel) : Channel :=
  let g := { ch with faultInAlarm := false }
  match ch.state with
  | .prealarm | .verify | .alarm | .refill => g.refill
  | .settle | .normal | .fault | .isolated => g

/-! ### Converter and arbiter (R3, R4) -/

/-- The first slot number at or after `from_` whose place in the frame is `place` (0..31). -/
def slotAt (from_ place : Nat) : Nat := from_ + (place + 32 - from_ % 32) % 32

/-- The even slot in which the next sample of channel `c` is taken: not passed before, not ended by `now`, and starting when
the channel was back in service (R3, R22; log 3). -/
def State.evenSlot (s : State) (c : Nat) : Nat :=
  slotAt (max s.ds.nextSlot (max (s.now / Config.slot) (((s.channel c).inService + Config.slot - 1) / Config.slot)))
    (2 * c)

/-- The last moment of a slot, at which its sample arrives: before the start of the slot that follows, as the worked
sequence 1.2.1 has it. DEDUCED, log 3. -/
def slotEnd (n : Nat) : Nat := (n + 1) * Config.slot - 1

/-- The first moment of a slot (R4). -/
def slotStart (n : Nat) : Nat := n * Config.slot

/-- The next odd slot that starts at `now` or later and has not been passed (R4; log 3). -/
def State.oddSlot (s : State) : Nat :=
  let earliest := max s.ds.nextSlot ((s.now + Config.slot - 1) / Config.slot)
  earliest + (earliest + 1) % 2

/-- R4: of two verifying channels the one whose last-odd-slot time lies further back, the lower index among equals. -/
def longestWaiting : List (Nat × Channel) → Option (Nat × Channel)
  | [] => none
  | (i, ch) :: rest =>
    match longestWaiting rest with
    | none => if ch.state = .verify then some (i, ch) else none
    | some (j, c2) => if ch.state = .verify && ch.lastOdd ≤ c2.lastOdd then some (i, ch) else some (j, c2)

/-- The channels with their indices. -/
def State.indexedChannels (s : State) : List (Nat × Channel) :=
  (List.range 16).map fun i => (i, s.channel i)

/-- R4: the arbiter's choice for an odd slot. -/
def State.arbiterChoice (s : State) : Option Nat := (longestWaiting s.indexedChannels).map (·.1)

end Sys2Proof.Machine
end

