-- ==== Sys2Proof/Machine/Neighbours.lean ====
section
/-!
DEFINITION. Neighbours.lean: the neighbour table: STATE arrivals into slots (R64), freshness (R65), held values (R67), building
flags (R68, R69, R71) and the silence latch (R72, R73).
-/

namespace Sys2Proof.Machine

/-! ### Slots -/

/-- R64: a slot takes a STATE. The deadline starts at 3 H seconds with the H the telegram carries. -/
def Slot.take (k : Slot) (p : StatePayload) (now : Nat) : Slot :=
  { k with
    presence := .fresh
    fire := p.fire
    f := p.f.toNat
    x := p.x.toNat
    h := some p.h.toNat
    test := p.testRunning
    deadline := some (now + 3 * p.h.toNat * Config.second) }

/-- R64: the report of a STATE taken into a slot, by its presence before. -/
def State.reportHeard (s : State) (k : Nat) (before : Presence) (announced : FireState) : State :=
  match before with
  | .absent => s.report .neighbourHeard k announced.code
  | .fresh => s
  | .silent => s.report .neighbourBack k announced.code

/-- The used slot whose neighbour id is `src` (R62: at most one). -/
def State.slotOf (s : State) (src : Nat) : Option Nat := s.nt.slots.findIdx? fun k => k.used && k.id = src

/-- R64: a STATE is taken into the slot of its source id, if any. -/
def State.takeState (s : State) (src : Nat) (p : StatePayload) : State :=
  match s.slotOf src with
  | none => s
  | some k => (s.setSlot k ((s.slot k).take p s.now)).reportHeard k (s.slot k).presence p.fire

/-- R65: a freshness deadline expires: SILENT, held values kept, x 15, TEST_RUNNING false. -/
def Slot.fallSilent (k : Slot) : Slot := { k with presence := .silent, x := 15, test := false, deadline := none }

/-- R67: the held values of every SILENT slot are cleared; each slot whose values change reports NEIGHBOUR_CLEARED, by
ascending slot: DESIGN CHOICE, log 31. -/
def State.clearHeld (s : State) : State :=
  s.forEach 8 fun s k =>
    let slot := s.slot k
    if slot.silent && !(slot.fire = .quiet && slot.f = 15) then
      (s.setSlot k { slot with fire := .quiet, f := 15 }).report .neighbourCleared k slot.fire.code
    else s

/-- Why the silence latch is cleared, coded in the order of R73's table: DEDUCED, log 14. -/
inductive LatchClear where
  | nearer | noFire | evacuate | reset
  deriving DecidableEq, Repr

def LatchClear.code : LatchClear → Nat
  | .nearer => 0 | .noFire => 1 | .evacuate => 2 | .reset => 3

/-- R73: a set silence latch is cleared, and reported. -/
def State.clearLatch (s : State) (why : LatchClear) : State :=
  if s.nt.latch.isSome then
    (s.setNt { s.nt with latch := none }).report .silenceLatch why.code (packClear none)
  else s

/-! ### Building flags -/

/-- The mark ADOPTED in the high byte of a flag report's subject (R172). -/
def flagSubject (sender : Nat) (adopted : Bool) : Nat := pack (bit adopted) sender

/-- R71: mode is set; a change is reported. -/
def State.setMode (s : State) (m : Mode) (sender : Nat) (adopted : Bool) : State :=
  (s.setNt { s.nt with mode := m }).reportIf (s.nt.mode != m) .buildingMode (flagSubject sender adopted) m.code

/-- R71: evacuate is set; a change is reported. -/
def State.setEvacuate (s : State) (on : Bool) (sender : Nat) (adopted : Bool) : State :=
  (s.setNt { s.nt with evacuate := on }).reportIf (s.nt.evacuate != on) .buildingEvacuate (flagSubject sender adopted)
    (bit on)

/-- The flags have been set by an order or an adoption (R68, R69). -/
def State.hearOrder (s : State) : State := s.setNt { s.nt with orderHeard := true }

/-- The four flag codes of an ORDER (R68). -/
inductive FlagOrder where
  | modeDay | modeNight | evacuateOn | evacuateOff
  deriving DecidableEq, Repr

/-- The flag order of an order code, if it is one (Table 3-1). -/
def flagOrderOf (code : Nat) : Option FlagOrder :=
  match code with
  | 0 => some .modeDay
  | 1 => some .modeNight
  | 2 => some .evacuateOn
  | 3 => some .evacuateOff
  | _ => none

/-- R68: a flag order is taken, from a telegram or applied locally (R70). EVACUATE_ON clears the silence latch (R73). -/
def State.applyFlag (s : State) (o : FlagOrder) (sender : Nat) : State :=
  match o with
  | .modeDay => (s.setMode .day sender false).hearOrder
  | .modeNight => (s.setMode .night sender false).hearOrder
  | .evacuateOn => ((s.setEvacuate true sender false).clearLatch .evacuate).hearOrder
  | .evacuateOff => (s.setEvacuate false sender false).hearOrder

/-- R69: while order-heard is false, a station's STATE sets both flags. -/
def State.adopt (s : State) (src : Nat) (p : StatePayload) : State :=
  if !s.nt.orderHeard && p.role = .station then
    ((s.setMode p.mode src true).setEvacuate p.evacuate src true).hearOrder
  else s

/-- R72: a SILENCE for this node: the latch takes the f of the moment. One that finds the latch set is reported too: DESIGN CHOICE,
log 34. -/
def State.silence (s : State) (src : Nat) : State :=
  (s.setNt { s.nt with latch := some s.ru.f }).report .silenceLatch src (packSet (some s.ru.f))

/-- R73: what a change of f does to the silence latch: NEARER below f_s, NO_FIRE at 15. -/
def latchFollow (old s : State) : State :=
  if old.ru.f = s.ru.f then s
  else
    match s.nt.latch with
    | none => s
    | some fs => if s.ru.f < fs then s.clearLatch .nearer else if s.ru.f = 15 then s.clearLatch .noFire else s

/-- What R66 calls a change of the slots: presence or a stored value of a used slot differs. -/
def State.slotViews (s : State) : List (Presence × FireState × Nat × Nat × Bool) :=
  s.nt.slots.map fun k =>
    (if k.used then k.presence else .absent, k.offeredFire, k.offeredF, k.offeredX, k.offeredTest)

end Sys2Proof.Machine
end

