-- ==== Sys2Proof/Machine/Fire.lean ====
section
/-!
DEFINITION. Fire.lean: the fire logic: evaluation of the gallery fire state (R26 to R31), walk test (R35 to R39) and accepted
fire reset (R33, R34).
-/

namespace Sys2Proof.Machine

/-! ### Conditions (R27, R29) -/

/-- The lowest-index channel of a kind in alarm (R27). -/
def State.firstInAlarm (s : State) (kind : ChannelKind) : Option Nat :=
  s.ds.channels.findIdx? fun ch => ch.inAlarm && ch.cfg.kind = kind

/-- How many SMOKE channels are in alarm (R27). -/
def State.smokeAlarms (s : State) : Nat := s.ds.channels.countP fun ch => ch.inAlarm && ch.cfg.kind = .smoke

/-- The lowest-index used slot that is FRESH and announces SUSPECT or FIRE (R27). -/
def State.agreeingSlot (s : State) : Option Nat :=
  s.nt.slots.findIdx? fun k => k.fresh && (k.fire = .suspect || k.fire = .fire)

/-- The first FIRE condition that holds, with its subject and slot, in R27's order. `delayOut`: the confirm-delay timer has
just expired (R28); with Tc 0 the delay has run out at once. -/
def State.fireCondition (s : State) (delayOut : Bool) : Option (Cause × Option Nat × Option Nat) :=
  match s.firstInAlarm .heat with
  | some c => some (.heat, some c, none)
  | none =>
    match s.activeFirePoint with
    | some p => some (.point, some p, none)
    | none =>
      match s.firstInAlarm .smoke with
      | none => none
      | some c =>
        if 2 ≤ s.smokeAlarms then some (.double, some c, none)
        else
          match s.agreeingSlot with
          | some k => some (.neighbour, some c, some k)
          | none => if delayOut || s.cl.node.tc = 0 then some (.delay, some c, none) else none

/-- The state when no FIRE condition holds (R29). -/
def State.derivedState (s : State) : FireState :=
  if s.smokeAlarms = 1 then .suspect
  else if !s.ds.channels.any (·.inAlarm) && (s.ds.channels.any (·.nearAlarm) || s.slotHoldsFire) then .caution
  else .quiet

/-- The gallery fire state changes to `g`: reported as GALLERY_STATE; the confirm-delay timer starts at entry to SUSPECT and
stops at any change away from it (R28, R31). An unchanged state is not reported. -/
def State.setGallery (s : State) (g : FireState) : State :=
  if s.fl.gallery = g then s
  else
    (s.setFl { s.fl with
      gallery := g
      confirm := if g = .suspect then s.after (s.cl.node.tc * Config.second) else none }).report
      .galleryState s.fl.gallery.code g.code

/-- FIRE is confirmed: cause record written, then reported as FIRE_CAUSE after GALLERY_STATE (R27, R31). -/
def State.confirmFire (s : State) (cause : Cause) (subject slot : Option Nat) : State :=
  ((s.setFl { s.fl with cause := ⟨cause, subject, slot, some s.seconds⟩ }).setGallery .fire).report .fireCause
    (subject.getD noSubject) (pack (slot.getD 0xFF) cause.code)

/-- One evaluation (R26 to R30): FIRE is latched; otherwise the FIRE conditions, then the derived state. -/
def State.evaluate (s : State) (delayOut : Bool) : State :=
  if s.fl.gallery = .fire then s
  else
    match s.fireCondition delayOut with
    | some (cause, subject, slot) => s.confirmFire cause subject slot
    | none => s.setGallery s.derivedState

/-! ### Walk test -/

/-- The reasons of WALK_END, coded in the order of R39's table, but HOST as R172 codes it. Log 16. -/
inductive WalkEnd where
  | time | host | point | neighbour | reset | secondAlarm
  deriving DecidableEq, Repr

def WalkEnd.code : WalkEnd → Nat
  | .time => 0 | .host => 0 | .point => 2 | .neighbour => 3 | .reset => 4 | .secondAlarm => 5

/-- R39: an active walk test ends: reported with the tested set, which is then emptied. -/
def State.endWalk (s : State) (why : WalkEnd) : State :=
  if s.fl.walkActive then
    (s.report .walkEnd why.code (bitsToNat s.fl.tested)).setFl { s.fl with
      walkActive := false
      walkTimer := none
      tested := List.replicate 16 false
      lastRecorded := List.replicate 16 none }
  else s

/-- R35: a walk test starts. -/
def State.beginWalk (s : State) (min : Nat) : State :=
  (s.setFl { s.fl with
    walkActive := true
    walkTimer := s.after (min * Config.minute)
    tested := List.replicate 16 false
    lastRecorded := List.replicate 16 none }).report .walkBegin noSubject min

/-- Some channel was recorded less than 30 s before now (R36). -/
def State.recentRecording (s : State) : Bool :=
  s.fl.lastRecorded.any fun r => match r with | some t => s.now < t + 30 * Config.second | none => false

/-- The value reported with a channel: d for SMOKE, m for HEAT (R19, R36). -/
def Channel.reading (ch : Channel) : Nat := if ch.cfg.kind = .smoke then ch.d else ch.m

/-- R36: the completion is a recording; the channel goes to REFILL. -/
def State.record (s : State) (c : Nat) : State :=
  let ch := s.channel c
  ((s.setFl { s.fl with
      tested := s.fl.tested.set c true
      lastRecorded := s.fl.lastRecorded.set c (some s.now) }).report .walkTested c ch.reading).setChannel c ch.refill

/-- R19: the channel enters ALARM. -/
def State.enterAlarm (s : State) (c : Nat) : State :=
  (s.setChannel c (s.channel c).toAlarm).report .channelAlarm c (s.channel c).reading

/-- R36: a completed burst is a recording in a walk test with no recording of the last 30 s; otherwise the walk test, if
active, ends as SECOND_ALARM and the channel enters ALARM. -/
def State.completeBurst (s : State) (c : Nat) : State :=
  if s.fl.walkActive && !s.recentRecording then s.record c else (s.endWalk .secondAlarm).enterAlarm c

/-! ### Evaluation at a change (R26, R39) -/

/-- The levels of the FIRE-kind points. -/
def State.fireLevels (s : State) : List Bool := s.cc.points.map (·.fireActive)

/-- Presence and fire state of each slot, as the fire logic reads them. -/
def State.slotFires (s : State) : List (Presence × FireState) :=
  s.nt.slots.map fun k => (if k.used then k.presence else .absent, k.offeredFire)

/-- Some place of `new` that is true was not true in `old`. -/
def risen : List Bool → List Bool → Bool
  | o :: os, n :: ns => (n && !o) || risen os ns
  | [], n :: ns => n || risen [] ns
  | _, [] => false

/-- R39: a FIRE-kind point becoming active, or a used slot coming to hold FIRE, ends an active walk test. -/
def walkFollow (old s : State) : State :=
  if risen old.fireLevels s.fireLevels then s.endWalk .point
  else if risen (old.slotFires.map (·.2 = .fire)) (s.slotFires.map (·.2 = .fire)) then s.endWalk .neighbour
  else s

/-- An evaluation event of R26 lies between `old` and `s`. -/
def fireInputsChanged (old s : State) : Bool :=
  old.ds.channels.map (·.state) != s.ds.channels.map (·.state) || old.slotFires != s.slotFires ||
    old.fireLevels != s.fireLevels || old.fl.walkActive != s.fl.walkActive

/-- What the fire logic does at the event that took the block from `old` to `s`. -/
def fireFollow (old s : State) : State :=
  let w := walkFollow old s
  if fireInputsChanged old w then w.evaluate false else w

/-! ### Fire reset -/

/-- R33: an accepted fire reset, in the order of R33's list; `source` is HOST (0) or the ORDER's sender, `target` this
node's id or 63. -/
def State.acceptReset (s : State) (source target : Nat) (clearsHeld : Bool) : State :=
  let s1 := s.setDs { s.ds with channels := s.ds.channels.map .fireReset }
  let s2 := s1.setFl { s1.fl with confirm := none, cause := .clear }
  let s3 := s2.endWalk .reset
  let s4 := s3.clearLatch .reset
  let s5 := if clearsHeld then s4.clearHeld else s4
  (s5.setGallery s5.derivedState).report .fireReset target source

end Sys2Proof.Machine
end

