-- ==== Sys2Proof/Machine/Route.lean ====
section
/-!
DEFINITION. Route.lean: the route unit: fire distance (R77, R78), exits and links (R79, R80), exit distance and via (R81, R82),
announced x (R83), the evacuating condition (R84), and when it computes (R85, R86, R88).
-/

namespace Sys2Proof.Machine

/-- Capped at 15 (00_scope.md 3.3). -/
def cap (n : Nat) : Nat := min 15 n

/-- The sum a used slot offers to the fire distance; 15 from an ABSENT slot whatever the cost (R78). -/
def Slot.fireSum (k : Slot) : Nat := if k.heard then cap (k.f + k.cost) else 15

/-- The least of a list of sums, 15 with none. -/
def least (sums : List Nat) : Nat := sums.foldl min 15

/-- The fire distance (R77). -/
def State.fireDistance (s : State) : Nat :=
  if s.fl.gallery = .fire then 0 else least ((s.nt.slots.filter (·.used)).map (·.fireSum))

/-- An available exit: a door of kind EXIT whose JAMMED condition is clear (R79). -/
def Door.availableExit (d : Door) : Bool := d.cfg.kind = .exit && !d.jammed

/-- The lowest-indexed available exit (R79). -/
def State.exitDoor (s : State) : Option Nat := s.doors.findIdx? (·.availableExit)

/-- The link of a used slot is passable (R80). -/
def State.passable (s : State) (k : Slot) : Bool :=
  match k.link with
  | none => true
  | some d => (s.door d).cfg.kind = .gallery && !(s.door d).jammed

/-- A used slot that is FRESH and whose link is passable (R81). -/
def State.usable (s : State) (k : Slot) : Bool := k.fresh && s.passable k

/-- The sum a slot offers to the exit distance, 15 when it is not usable (R81, R88); the same whether or not the node has an available
exit of its own: DESIGN CHOICE, log 33. -/
def State.exitSum (s : State) (k : Slot) : Nat := if s.usable k then cap (k.x + k.cost) else 15

/-- The least exit distance through the neighbours (R81). -/
def State.exitByNeighbours (s : State) : Nat := least (s.nt.slots.map s.exitSum)

/-- Slot `i` is usable and its sum equals `x` (R82). -/
def State.achieves (s : State) (x i : Nat) : Bool := s.usable (s.slot i) && s.exitSum (s.slot i) = x

/-- Among slots, the one of lowest cost, of lowest index among equal costs (R82). -/
def cheapest (cost : Nat → Nat) : List Nat → Option Nat
  | [] => none
  | i :: is =>
    match cheapest cost is with
    | none => some i
    | some j => if cost i ≤ cost j then some i else some j

/-- The via among the slots for an exit distance `x` below 15 (R82). -/
def State.chooseVia (s : State) (x : Nat) : Via :=
  let fresh :=
    match cheapest (fun i => (s.slot i).cost) ((List.range 8).filter (s.achieves x)) with
    | some i => Via.slot i
    | none => .none
  match s.ru.via with
  | .slot i => if s.achieves x i then .slot i else fresh
  | .own | .none => fresh

/-- The evacuating condition and its cause (R84). -/
def evacCause (f e : Nat) (flag : Bool) : Option EvacCause :=
  if f ≤ e then (if flag then some .both else some .radius) else if flag then some .building else none

/-- The route record computed in RUN, all inputs as they stand (R77 to R84). -/
def State.computedRoute (s : State) : Route :=
  let f := s.fireDistance
  let evac := evacCause f s.cl.node.e s.nt.evacuate
  match s.exitDoor with
  | some d => ⟨f, 0, .own, some d, if s.fl.gallery = .fire then 15 else 0, evac⟩
  | none =>
    let x := s.exitByNeighbours
    ⟨f, x, if x = 15 then .none else s.chooseVia x, none, if s.fl.gallery = .fire then 15 else x, evac⟩

/-- The route record in LISTEN: no distance is computed; evacuating follows the building flag alone (R86). -/
def State.listenRoute (s : State) : Route :=
  { s.ru with evacuating := if s.nt.evacuate then some .building else none }

/-- The cause of evacuating as R76 lists it, as a further item of a report (R172). -/
def evacCode (c : Option EvacCause) : Option Nat := c.map (·.code)

/-- R88: EVACUATING, reported when evacuating changes. -/
def reportEvacuating (old s : State) : State :=
  if old.ru.evacuating.isSome = s.ru.evacuating.isSome then s
  else s.report .evacuating s.ru.f (if s.ru.evacuating.isSome then packSet (evacCode s.ru.evacuating) else packClear none)

/-- R88: NO_ROUTE, reported when x_local becomes 15 or falls below it; the first computation takes the value before it as
below 15. A via LOCAL before the change is coded 8 in the subject, as R171 codes a via, not 0 as R172 codes LOCAL: DESIGN CHOICE, log 35. -/
def reportNoRoute (old s : State) : State :=
  let before := if old.running then old.ru.xLocal else 0
  if before < 15 ∧ s.ru.xLocal = 15 then s.report .noRoute old.ru.via.code (packSet none)
  else if before = 15 ∧ s.ru.xLocal < 15 then s.report .noRoute old.ru.via.code (packClear (some s.ru.via.code))
  else s

/-- The JAMMED conditions of the doors. -/
def State.jams (s : State) : List Bool := s.doors.map (·.jammed)

/-- An event of R85 lies between `old` and `s`. -/
def routeInputsChanged (old s : State) : Bool :=
  old.slotViews != s.slotViews || old.fl.gallery != s.fl.gallery || old.jams != s.jams ||
    old.nt.evacuate != s.nt.evacuate || (!old.running && s.running)

/-- What the route unit does at the event that took the block from `old` to `s` (R85, R86, R88). -/
def routeFollow (old s : State) : State :=
  if s.running then
    if routeInputsChanged old s then
      let r := s.setRu s.computedRoute
      reportNoRoute old (reportEvacuating old r)
    else s
  else if old.nt.evacuate != s.nt.evacuate then reportEvacuating old (s.setRu s.listenRoute)
  else s

end Sys2Proof.Machine
end

