-- ==== Sys2Proof/Machine/Doors.lean ====
section
/-!
DEFINITION. Doors.lean: one door record's behaviour: lock drive and jam comparison (R94, R106, R107), derivation (R95), opening and
shutting (R96, R97), access (R98 to R101), open timer (R102), changes of the free condition (R105), magnets (R93).
-/

namespace Sys2Proof.Machine

/-- The jam comparison's time (R106). -/
abbrev jamTicks : Nat := 3 * Config.second

/-- The jam timer's case holds: the feedback and the shut contact are qualified, and the feedback disagrees with the drive,
or agrees while the door is JAMMED (R106). -/
def Door.jamCase (d : Door) : Bool :=
  d.cfg.feedback && d.contact == some .shut &&
    match d.feedback with
    | none => false
    | some v => if d.state = .jammed then v = d.lock else v != d.lock

/-- The jam comparison made afresh: stopped, and started at 3 s if its case holds (R106). -/
def Door.remakeJam (d : Door) (now : Nat) : Door :=
  { d with jamTimer := if d.jamCase then some (now + jamTicks) else none }

/-- The lock drive set by R94; a change of the drive makes the jam comparison afresh (R106). -/
def Door.drive (d : Door) (free : Bool) (now : Nat) : Door :=
  if d.lock = lockDrive free d then d else { d with lock := lockDrive free d }.remakeJam now

/-- The lock drive set by R94 and the jam comparison made afresh whether or not the drive changed (R106). -/
def Door.driveAfresh (d : Door) (free : Bool) (now : Nat) : Door :=
  { d with lock := lockDrive free d }.remakeJam now

/-- R102: the open timer at its full open limit. -/
def Door.openLimit (d : Door) (now : Nat) : Timer := some (now + d.cfg.limitSeconds * Config.second)

/-- R98: the access pulse timer at its full time. -/
def Door.pulse (d : Door) (now : Nat) : Timer := some (now + d.cfg.pulseSeconds * Config.second)

/-- R95: the state derived from the qualified contact and the free condition. An unqualified door is taken to be shut. -/
def Door.derive (d : Door) (free : Bool) (now : Nat) : Door :=
  match d.contact with
  | some .opened =>
    if free then { d with state := .openFree, accessMark := false, openTimer := none }
    else { d with state := .openTimed, accessMark := false, openTimer := d.openLimit now }
  | _ => { d with state := if free then .shutFree else .shutLocked, accessMark := false, openTimer := none }

/-- Entry to OPEN_TIMED from ACCESS (R96). -/
def Door.openFromAccess (d : Door) (now : Nat) : Door :=
  { d with state := .openTimed, accessMark := true, accessTimer := none, openTimer := d.openLimit now }

/-- R96: an opening. -/
def Door.opens (d : Door) (now : Nat) : Door :=
  let c := { d with contact := some .opened }
  match d.state with
  | .shutLocked => { c with state := .forced }
  | .shutFree => { c with state := .openFree }
  | .access => c.openFromAccess now
  | .jammed | .openFree | .openTimed | .openLong | .forced => c

/-- R97: a shutting. -/
def Door.shuts (d : Door) : Door :=
  let c := { d with contact := some .shut }
  match d.state with
  | .openFree => { c with state := .shutFree }
  | .openTimed => { c with state := .shutLocked, openTimer := none, accessMark := false }
  | .openLong | .forced => { c with state := .shutLocked }
  | .jammed | .shutLocked | .shutFree | .access => c

/-- R95: the contact's first qualified value. A door in ACCESS is not derived. -/
def Door.firstContact (d : Door) (v : Contact) (free : Bool) (now : Nat) : Door :=
  let c := { d with contact := some v }
  if d.state = .access then
    match v with
    | .shut => c
    | .opened => c.openFromAccess now
  else c.derive free now

/-- R98, R99, R100: a grant of access: SHUT_LOCKED enters ACCESS, a pulse in ACCESS is restarted, nothing otherwise. -/
def Door.grant (d : Door) (now : Nat) : Door :=
  match d.state with
  | .shutLocked | .access => { d with state := .access, accessTimer := d.pulse now }
  | .shutFree | .openFree | .openTimed | .openLong | .forced | .jammed => d

/-- R98: the access pulse expires; ACCESS returns to SHUT_LOCKED. -/
def Door.accessExpire (d : Door) : Door :=
  let c := { d with accessTimer := none }
  if d.state = .access then { c with state := .shutLocked } else c

/-- R102: the open timer expires in OPEN_TIMED. -/
def Door.openExpire (d : Door) : Door :=
  let c := { d with openTimer := none }
  if d.state = .openTimed then { c with state := .openLong, accessMark := false } else c

/-- R105: the free condition begins. -/
def Door.freeBegins (d : Door) : Door :=
  match d.state with
  | .shutLocked => { d with state := .shutFree }
  | .access => { d with state := .shutFree, accessTimer := none }
  | .openTimed => { d with state := .openFree, openTimer := none, accessMark := false }
  | .openLong | .forced => { d with state := .openFree }
  | .shutFree | .openFree | .jammed => d

/-- R105: the free condition ends. -/
def Door.freeEnds (d : Door) (now : Nat) : Door :=
  match d.state with
  | .shutFree => { d with state := .shutLocked }
  | .openFree => { d with state := .openTimed, accessMark := false, openTimer := d.openLimit now }
  | .shutLocked | .access | .openTimed | .openLong | .forced | .jammed => d

/-- R107: entry to JAMMED. -/
def Door.enterJam (d : Door) : Door := { d with state := .jammed, accessTimer := none, accessMark := false }

/-! ### Follow-up at the door controller -/

/-- A door's record changed by `f`, its lock drive then set by R94. -/
def State.moveDoor (s : State) (d : Nat) (f : Door → Door) : State :=
  s.setDoor d ((f (s.door d)).drive (s.freeCondition (s.door d)) s.now)

/-- A door's record changed by `f`, its lock drive set and its jam comparison made afresh. -/
def State.moveDoorAfresh (s : State) (d : Nat) (f : Door → Door) : State :=
  s.setDoor d ((f (s.door d)).driveAfresh (s.freeCondition (s.door d)) s.now)

/-- One used door at a change of mode, evacuating, gallery state or slots: R105 when its free condition begins or ends, then
R94 and R93. -/
def followDoor (old s : State) (d : Nat) : State :=
  let door := s.door d
  if door.cfg.kind = .unused then s
  else
    let before := old.freeCondition door
    let now_ := s.freeCondition door
    let moved := if now_ && !before then door.freeBegins else if before && !now_ then door.freeEnds s.now else door
    s.setDoor d { moved.drive now_ s.now with magnet := s.magnetDrive d door }

/-- What reaches the doors from other blocks differs: mode, evacuating, gallery state, slots (R92, R93). -/
def doorInputsChanged (old s : State) : Bool :=
  old.nt.mode != s.nt.mode || old.isEvacuating != s.isEvacuating || old.fl.gallery != s.fl.gallery ||
    old.slotFires != s.slotFires

/-- What the door controller does at the event that took the block from `old` to `s`. -/
def doorsFollow (old s : State) : State := if doorInputsChanged old s then s.forEach 8 (followDoor old) else s

end Sys2Proof.Machine
end

