-- ==== Sys2Proof/Machine/Calls.lean ====
section
/-!
DEFINITION. Calls.lean: the call controller: raising and re-announcing (R113, R116 to R119), priority and table order (R114, R115),
clearing (R124), and the take protocol at the origin (R122, R123, R125).
-/

namespace Sys2Proof.Machine

/-- R114: a HELP call has current priority 0 while the node is evacuating; any other its escalated priority. -/
def currentPriority (kind : CallKind) (escalated : Nat) (evacuating : Bool) : Nat :=
  if kind = .help && evacuating then 0 else escalated

/-- R115: the calls present in table order: by current priority, then by place in that level's rotation order. -/
def State.tableOrder (s : State) : List Nat :=
  (List.range 4).flatMap fun level =>
    (s.rotation level).filter fun src => match s.call src with
      | some c => c.current = level
      | none => false

/-- The CALL telegram of a call (R119, Table 3-1). -/
def Call.payload (c : Call) (src : Nat) : CallPayload where
  source := BitVec.ofNat 5 src
  kind := BitVec.ofNat 3 c.kind.code
  serial := BitVec.ofNat 4 c.serial
  priority := BitVec.ofNat 2 c.current
  taken := c.taker != 0
  overdue := c.overdue
  reminder := c.reminder
  taker := BitVec.ofNat 6 c.taker

/-- R119: the re-announce time: 16 s while PENDING, 32 s while TAKEN. -/
def Call.reannounceTicks (c : Call) : Nat := (if c.taker = 0 then 16 else 32) * Config.second

/-- R119: the call of a source, if present, is announced: a CALL of class 1 is offered and the re-announce timer is
started afresh, whatever the answer. -/
def State.announce (s : State) (src : Nat) : State :=
  match s.call src with
  | none => s
  | some c =>
    (s.setCall src (some { c with reannounce := s.after c.reannounceTicks })).offer (.call (c.payload src)) 1 |>.1

/-- A CLEAR telegram of this node as origin (R122, R124, R125). -/
def State.offerClear (s : State) (src serial clearedBy : Nat) : State :=
  (s.offer (.clear ⟨BitVec.ofNat 8 s.nodeId, BitVec.ofNat 8 src, BitVec.ofNat 8 serial, BitVec.ofNat 8 clearedBy⟩) 1).1

/-- R112, R113, R116: a new call is raised, PENDING, and reported; its event announces it (R119). -/
def State.raise (s : State) (src : Nat) (kind : CallKind) (base : Nat) : State :=
  let c : Call :=
    { kind := kind
      base := base
      escalated := base
      current := currentPriority kind base s.isEvacuating
      serial := s.serial src
      taker := 0
      overdue := false
      reminder := false
      unanswered := s.after (s.cl.node.tesc * Config.second)
      attend := none
      reannounce := none }
  (s.setCc { s.cc with
    calls := s.cc.calls.set src (some c)
    serials := s.cc.serials.set src ((s.serial src + 1) % 16) }).report .callRaised src (pack kind.code base)

/-- R116: a press acts on the call of its source; its event then announces the call, changed or not. -/
def State.press (s : State) (src : Nat) (kind : CallKind) (base : Nat) : State :=
  match s.call src with
  | none => s.raise src kind base
  | some c =>
    if c.taker != 0 && !c.reminder then
      (s.setCall src (some { c with reminder := true })).report .callReminder src c.taker
    else s

/-- R117: a door alarm acts on the call of its source: new call, replacement by a more urgent alarm, or re-announcement. A
REMINDER set by a replacement is reported too: DEDUCED, log 20. A replacement is an announcement, so it restarts the re-announce timer
(R119) and keeps the unanswered and the attend timer as they run (R117): DEDUCED, log 37. -/
def State.doorAlarm (s : State) (src : Nat) (kind : CallKind) (priority : Nat) : State :=
  match s.call src with
  | none => (s.raise src kind priority).announce src
  | some c =>
    let reminds := c.taker != 0 && !c.reminder
    if priority < c.base then
      let esc := min c.escalated priority
      let c' : Call :=
        { c with
          kind := kind
          base := priority
          escalated := esc
          current := currentPriority kind esc s.isEvacuating
          reminder := c.reminder || reminds }
      (((s.setCall src (some c')).announce src).reportIf reminds .callReminder src c.taker).report .callReplaced src
        kind.code
    else
      ((s.setCall src (some { c with reminder := c.reminder || reminds })).announce src).reportIf reminds .callReminder
        src c.taker

/-- The call kind of a point (R110). -/
def PointKind.callKind : PointKind → CallKind
  | .unused => .help | .help => .help | .staff => .staff | .fire => .fire

/-- R116 for a used point. -/
def State.pressPoint (s : State) (p : Nat) : State := s.press p (s.point p).kind.callKind (s.point p).priority

/-- R118: the node-fault transition acts on source 16 as a press, kind FAULT, base priority 2. -/
def State.pressNodeFault (s : State) : State := s.press 16 .fault 2

/-- R118: the fault summary has changed from empty to non-empty between `old` and `s`. -/
def faultFollow (old s : State) : State := if s.hasFault && !old.hasFault then s.pressNodeFault else s

/-- R115: the source moves to the back of its call's base level. -/
def rotate (order : List Nat) (src : Nat) : List Nat := order.erase src ++ [src]

/-- R124: a call is cleared; `by_` is the station's id, or 0 for local action. -/
def State.clearCall (s : State) (src : Nat) (by_ : Nat) : State :=
  match s.call src with
  | none => s
  | some c =>
    let s1 := s.setCc { s.cc with
      calls := s.cc.calls.set src none
      rotations := s.cc.rotations.set c.base (rotate (s.rotation c.base) src) }
    (s1.offerClear src c.serial by_).report .callCleared src by_

/-- A FIRE call whose point is ACTIVE (R125, R126). -/
def State.heldByPoint (s : State) (src : Nat) (c : Call) : Bool :=
  c.kind = .fire && (s.point src).input == some true

/-- R126: the first call in table order that is TAKEN (or PENDING) and not a FIRE call whose point is ACTIVE. -/
def State.keyChoice (s : State) (taken : Bool) : Option Nat :=
  s.tableOrder.find? fun src => match s.call src with
    | some c => (c.taker != 0) == taken && !s.heldByPoint src c
    | none => false

/-- R126: a turn of the attendant key. -/
def State.turnKey (s : State) : State :=
  match s.keyChoice true with
  | some src => s.clearCall src 0
  | none =>
    match s.keyChoice false with
    | some src => s.clearCall src 0
    | none => s

/-- R120: the unanswered timer expires. -/
def State.unansweredExpire (s : State) (src : Nat) (c : Call) : State :=
  let esc := c.escalated - 1
  let c' : Call :=
    { c with
      escalated := esc
      overdue := true
      current := currentPriority c.kind esc s.isEvacuating
      unanswered := s.after (s.cl.node.tesc * Config.second) }
  ((s.setCall src (some c')).announce src).report .callOverdue src c'.current

/-- R121: the attend timer expires. -/
def State.attendExpire (s : State) (src : Nat) (c : Call) : State :=
  let c' : Call := { c with overdue := true, attend := s.after (s.cl.node.tatt * Config.minute) }
  ((s.setCall src (some c')).announce src).report .callOverdue src c.current

/-- R122: a TAKE decided at the origin. -/
def State.decideTake (s : State) (sender src serial : Nat) : State :=
  match s.call src with
  | none => s.offerClear src serial 0
  | some c =>
    if c.serial = serial ∧ c.taker = 0 then
      let c' : Call :=
        { c with
          taker := sender
          overdue := false
          unanswered := none
          attend := s.after (s.cl.node.tatt * Config.minute) }
      ((s.setCall src (some c')).announce src).report .callTaken src sender
    else s.announce src

/-- R123: a GIVEUP decided at the origin. -/
def State.decideGiveup (s : State) (sender src serial : Nat) : State :=
  match s.call src with
  | none => s
  | some c =>
    if c.serial = serial ∧ c.taker = sender ∧ c.taker ≠ 0 then
      let c' : Call :=
        { c with
          taker := 0
          reminder := false
          attend := none
          unanswered := s.after (s.cl.node.tesc * Config.second) }
      ((s.setCall src (some c')).announce src).report .callGivenUp src sender
    else s

/-- R125: a station's CLEAR decided at the origin. -/
def State.decideClear (s : State) (sender src serial : Nat) : State :=
  match s.call src with
  | none => s.offerClear src serial 0
  | some c =>
    if c.serial = serial ∧ c.taker = sender ∧ c.taker ≠ 0 then
      if s.heldByPoint src c then (s.announce src).report .clearRefused src sender else s.clearCall src sender
    else s.announce src

/-- R114, R119: the current priority of a HELP call recomputed. -/
def Call.reprioritise (c : Call) (evacuating : Bool) : Call :=
  { c with current := currentPriority c.kind c.escalated evacuating }

/-- R114: at a change of evacuating every HELP call is recomputed. -/
def callsFollow (old s : State) : State :=
  if old.isEvacuating = s.isEvacuating then s
  else
    s.setCc { s.cc with
      calls := s.cc.calls.map fun c => c.map fun c => if c.kind = .help then c.reprioritise s.isEvacuating else c }

/-- The call of a source, there before the event and after it, has changed its current priority. -/
def repriced (old s : State) (src : Nat) : Bool :=
  match old.call src, s.call src with
  | some a, some b => a.current != b.current
  | _, _ => false

/-- The event that took the block from `old` to `s` gives the call of a source something to announce: a press of its point (R116), the
first fault member (R118), RUN entry (R119, R178), or a HELP priority changed by evacuating (R114). -/
def announcementDue (old s : State) (pressed : List Nat) (src : Nat) : Bool :=
  pressed.contains src || (src == 16 && s.hasFault && !old.hasFault) || (s.running && !old.running) ||
    (old.isEvacuating != s.isEvacuating && repriced old s src)

/-- R115: the calls that one event gives something to announce are announced in table order, as the calls then stand. -/
def announceFollow (old s : State) (pressed : List Nat) : State :=
  (s.tableOrder.filter (announcementDue old s pressed)).foldl State.announce s

end Sys2Proof.Machine
end

