-- ==== Sys2Proof/Machine/Operands.lean ====
section
/-!
DEFINITION. Operands.lean: how the attendant port codes a response (R170, R171): result and reason codes, fields of one, two
and four bytes, absent fields and stopped timers as all ones.
-/

namespace Sys2Proof.Machine

/-- A field of one byte (R171). -/
def b1 (n : Nat) : List Byte := [BitVec.ofNat 8 n]

/-- A field of two bytes, most significant first (R171). -/
def b2 (n : Nat) : List Byte := [BitVec.ofNat 8 (n / 256), BitVec.ofNat 8 n]

/-- A field of four bytes: a time since restart, a list of lit segments (R171). Most significant first: DESIGN CHOICE, log 39; R171 states
that order of two-byte fields alone. -/
def b4 (n : Nat) : List Byte :=
  [BitVec.ofNat 8 (n / 16777216), BitVec.ofNat 8 (n / 65536), BitVec.ofNat 8 (n / 256), BitVec.ofNat 8 n]

/-- `n` bytes of all ones: absent fields (R171). -/
def absent (n : Nat) : List Byte := List.replicate n 0xFF

/-- A one-byte field that may be absent (R171). -/
def o1 (v : Option Nat) : List Byte := (v.map b1).getD (absent 1)

/-- A two-byte field that may be absent (R171). -/
def o2 (v : Option Nat) : List Byte := (v.map b2).getD (absent 2)

/-- A four-byte time that may be absent (R171). -/
def o4 (v : Option Nat) : List Byte := (v.map b4).getD (absent 4)

/-- A yes-or-no field (R171). -/
def bb (v : Bool) : List Byte := b1 (bit v)

/-- The time left on a timer, in whole seconds, saturating at 65535; all ones when it is stopped (R171). Two bytes for
every timer: DEDUCED, log 13. A time left that is not whole is rounded down: DESIGN CHOICE, log 13. -/
def timeLeft (now : Nat) (t : Timer) : List Byte := o2 (t.map fun dl => min 65535 ((dl - now) / Config.second))

/-- The reasons that follow ERR_STATE (R170). -/
inductive Reason where
  | none | idle | running | suspended | notQuiet | fireNear | evacuate | peerTesting | notNight | noEntry | queueFull
  | opened | taking | mine | others
  deriving DecidableEq, Repr

def Reason.code : Reason → Nat
  | .none => 0x00 | .idle => 0x01 | .running => 0x02 | .suspended => 0x03 | .notQuiet => 0x04 | .fireNear => 0x05
  | .evacuate => 0x06 | .peerTesting => 0x07 | .notNight => 0x08 | .noEntry => 0x09 | .queueFull => 0x0A
  | .opened => 0x0B | .taking => 0x0C | .mine => 0x0D | .others => 0x0E

/-- A request's response (R170). -/
inductive Response where
  | done (data : List Byte)
  | errFormat
  | errRole
  | errState (reason : Reason)
  | errRange
  | errActive
  | errPhase
  deriving DecidableEq, Repr

/-- The bytes of a response: the result byte, then the data or the reason byte (R170). -/
def Response.bytes : Response → List Byte
  | .done data => b1 0x00 ++ data
  | .errFormat => b1 0x01
  | .errRole => b1 0x02
  | .errState r => b1 0x03 ++ b1 r.code
  | .errRange => b1 0x04
  | .errActive => b1 0x05
  | .errPhase => b1 0x06

/-- DONE with no data. -/
abbrev Response.ok : Response := .done []

/-- A test state as a refusal's reason (R160, R164). -/
def TestState.reason : TestState → Reason
  | .idle => .idle | .running => .running | .suspended => .suspended

/-- An entry state as a refusal's reason (R138, R140). -/
def EntryState.reason : EntryState → Reason
  | .opened => .opened | .taking => .taking | .mine => .mine | .others => .others

end Sys2Proof.Machine
end

