-- ==== Sys2Proof/Machine/Signals.lean ====
section
/-!
DEFINITION. Signals.lean: the signal driver: choice of sign displays (R145), sign steps (R146, R147), strip modes and steps (R149 to
R152), lamp check and clearing (R153, R154), sounder mode and cadence (R155).
-/

namespace Sys2Proof.Machine

/-! ### Signs -/

/-- The display the route record gives (R145). -/
def Route.display (r : Route) : Display :=
  if r.evacuating.isNone then .plain else if r.xLocal < 15 then .arrow else .cross

/-- The arrow a sign shows under a route record (R145). -/
def Sign.arrowFor (g : Sign) (r : Route) : Option Arrow :=
  match r.display with
  | .plain => some g.default
  | .arrow => some (g.map.getD r.via.code .ahead)
  | .cross => none

/-- R145: the display and arrow chosen; the flash count starts again at a change of shown arrow or of display to CROSS, and is
absent in PLAIN. -/
def Sign.choose (g : Sign) (r : Route) : Sign :=
  if !g.used || (g.display = r.display && g.shown = g.arrowFor r) then g
  else { g with display := r.display, shown := g.arrowFor r, flash := if r.display = .plain then none else some 0 }

/-- R147: a lit lamp sensed. -/
def Sign.sense (g : Sign) (current : Bool) : Sign :=
  if !g.lampLit then g
  else if current then { g with noCurrent := 0 }
  else if g.noCurrent + 1 < 32 then { g with noCurrent := g.noCurrent + 1 }
  else { g with noCurrent := 0, fault := true }

/-- R146: the flash count at a sign step. -/
def Sign.count (g : Sign) : Sign :=
  if !g.used then g
  else
    match g.display, g.flash with
    | .arrow, some n => if n < 128 then { g with flash := some (n + 1) } else g
    | .cross, some n => { g with flash := some ((n + 1) % 65536) }
    | _, _ => g

/-- One sign at a sign step: sensed, then counted; the setting of its lamp fault is reported (R146, R147). -/
def State.stepSign (s : State) (n : Nat) : State :=
  let g := s.sign n
  let g' := g.sense (s.pins.signSense.getLsbD n)
  (s.setSign n g'.count).reportIf (g'.fault && !g.fault) .signLampFault n g.display.code

/-- The sign step timer restarted (R146). -/
def State.startSignTimer (s : State) : State := s.setSd { s.sd with signTimer := s.after Config.signStep }

/-! ### Strips -/

def Strip.used (p : Strip) : Bool := p.n != 0

/-- The mode a strip takes under a route record, and its chase direction (R149). Outside CHASE, in STEADY too, a strip has no direction:
DESIGN CHOICE, log 36. -/
def Strip.modeFor (p : Strip) (r : Route) : StripMode × Option Dir :=
  if p.check.isSome then (.check, none)
  else if r.evacuating.isNone then (.off, none)
  else if r.xLocal < 15 then
    match p.map.getD r.via.code .steady with
    | .steady => (.steady, none)
    | d => (.chase, some d)
  else (.noRoute, none)

/-- Segment `i` is lit at a step (R150, R151, R152). -/
def Strip.segmentLit (p : Strip) (i : Nat) : Bool :=
  match p.mode with
  | .off => false
  | .check | .steady => true
  | .noRoute => match p.flash with | some n => n % 32 < 16 | none => false
  | .chase =>
    match p.dir with
    | some .forward => (i + p.offset + p.phase) % p.pp < p.w
    | some .reverse => (i + p.offset + p.pp - p.phase) % p.pp < p.w
    | _ => false

/-- The segments lit at the present step. -/
def Strip.litSegments (p : Strip) : List Bool := (List.range p.n).map p.segmentLit

/-- The lowest lit segment without current (R152). -/
def Strip.firstFailed (p : Strip) (sense : BitVec 32) : Option Nat :=
  (List.range p.n).find? fun i => p.lit.getD i false && !sense.getLsbD i

/-- A step begins: the step timer is started, the lit segments are driven and sensed, `sense` bit i being the current of segment i;
the first failed one fills an empty latch (R149, R152). -/
def State.beginStep (s : State) (k : Nat) (p : Strip) (sense : BitVec 32) : State :=
  let q := { p with lit := p.litSegments, timer := s.after (p.step * Config.stripUnit) }
  match q.latch, q.firstFailed sense with
  | none, some i => (s.setStrip k { q with latch := some i }).report .stripLampFault k i
  | _, _ => s.setStrip k q

/-- Entry to a mode: OFF stops the timer and darkens the strip, any other begins a step; phase and counts as R150 and R151
give them. -/
def State.enterMode (s : State) (k : Nat) (p : Strip) (m : StripMode × Option Dir) (sense : BitVec 32) : State :=
  let q := { p with mode := m.1, dir := m.2, phase := 0, flash := if m.1 = .noRoute then some 0 else none }
  if m.1 = .off then s.setStrip k { q with timer := none, lit := q.litSegments } else s.beginStep k q sense

/-- Entry to a mode at an event that carries no lamp currents: what the step then senses is a free value (log 11). -/
def State.enterModeFreely (s : State) (k : Nat) (p : Strip) (m : StripMode × Option Dir) : State :=
  (s.setFreeCount (s.freeCount + 1)).enterMode k p m (Config.freeSense s.freeCount)

/-- One strip at a set of route changes (R149, R150): a new mode is entered; a change of via restarts a chase. -/
def followStrip (viaChanged : Bool) (s : State) (k : Nat) : State :=
  let p := s.strip k
  let m := p.modeFor s.ru
  if !p.used then s
  else if p.mode != m.1 || (m.1 = .chase && viaChanged) then s.enterModeFreely k p m
  else s

/-- A lamp check is running (R153). -/
def State.lampChecking (s : State) : Bool := s.sd.strips.any fun p => p.used && p.check.isSome

/-- The check count of every strip becomes absent. -/
def State.dropChecks (s : State) : State :=
  s.setSd { s.sd with strips := s.sd.strips.map fun p => { p with check := none } }

/-- The value of LAMP_CHECK_END: both latches (R172). -/
def State.latches (s : State) : Nat := pack ((s.strip 0).latch.getD 0xFF) ((s.strip 1).latch.getD 0xFF)

/-- R153: a strip starts its check, or starts it again. -/
def checkStrip (s : State) (k : Nat) : State :=
  let p := s.strip k
  if p.used then s.enterModeFreely k { p with check := some 4 } (.check, none) else s

/-- R149 to R153: the step timer of a strip expires, and the step that begins, in the mode kept or entered, is sensed. -/
def State.stepStrip (s : State) (k : Nat) (p : Strip) (sense : BitVec 32) : State :=
  match p.mode with
  | .off => s
  | .steady => s.beginStep k p sense
  | .chase => s.beginStep k { p with phase := (p.phase + 1) % p.pp } sense
  | .noRoute => s.beginStep k { p with flash := p.flash.map fun n => (n + 1) % 65536 } sense
  | .check =>
    match p.check with
    | some (n + 2) => s.beginStep k { p with check := some (n + 1) } sense
    | _ =>
      let q := { p with check := none }
      let s1 := s.enterMode k q (q.modeFor s.ru) sense
      s1.reportIf (!s1.lampChecking) .lampCheckEnd noSubject s1.latches

/-! ### Sounder -/

/-- The sounder mode under a route record (R155). -/
def Route.sounderMode (r : Route) : SounderMode :=
  if r.evacuating.isSome then .evac else if r.f < 15 then .alert else .off

/-- R155: the mode chosen; the cadence starts at an entry to ALERT and is absent in any other mode. -/
def State.followSounder (s : State) : State :=
  let m := s.ru.sounderMode
  if s.sd.sounder = m then s
  else if m = .alert then
    s.setSd { s.sd with sounder := m, cadence := some true, cadenceTimer := s.after Config.second }
  else s.setSd { s.sd with sounder := m, cadence := none, cadenceTimer := none }

/-- R155: the cadence timer expires in ALERT. -/
def State.turnCadence (s : State) : State :=
  s.setSd { s.sd with cadence := s.sd.cadence.map (!·), cadenceTimer := s.after Config.second }

/-! ### Follow-up and requests -/

/-- The signs chosen from the route record (R145). -/
def State.followSigns (s : State) : State := s.setSd { s.sd with signs := s.sd.signs.map (·.choose s.ru) }

/-- R149, R153: the strips at a set of route changes; evacuation ends a lamp check at every strip. Strip 0 begins its step, and
reports, before strip 1, and LAMP_CHECK_END comes after the STRIP_LAMP_FAULT of the steps so begun: DESIGN CHOICE, log 31. -/
def followStrips (old s : State) : State :=
  let ends := s.lampChecking && s.isEvacuating
  let s1 := if ends then s.dropChecks else s
  (s1.forEach 2 (followStrip (old.ru.via != s.ru.via))).reportIf ends .lampCheckEnd noSubject 0xFFFE

/-- What the signal driver does at the event that took the block from `old` to `s`: it acts on the changes handed by the route
unit (R87). -/
def signalsFollow (old s : State) : State :=
  if old.ru = s.ru then s else (followStrips old s.followSigns).followSounder

/-- How many signs and strips LAMP_CLEAR finds faulty (R154). -/
def State.lampFaults (s : State) : Nat := s.sd.signs.countP (·.fault) + s.sd.strips.countP (·.latch.isSome)

/-- R154: every lamp fault and latch cleared. -/
def State.clearLamps (s : State) : State :=
  (s.setSd { s.sd with
      signs := s.sd.signs.map fun g => { g with fault := false }
      strips := s.sd.strips.map fun p => { p with latch := none } }).reportIf (0 < s.lampFaults) .lampCleared noSubject
    s.lampFaults

end Sys2Proof.Machine
end

