-- ==== Sys2Proof/Machine/Duration.lean ====
section
/-!
DEFINITION. Duration.lean: the duration tester: start, running, end (R160, R161), suspension (R162), resumption (R164), abort and
peer conflict (R163, R165, R166), and what reaches it from other blocks.
-/

namespace Sys2Proof.Machine

/-- The minute timer's duration is one minute; the suspend timer's is 60 (R159). -/
abbrev suspendTicks : Nat := 60 * Config.minute

/-- The value of TEST_RESULT (R167, R172); the high byte of an abort is FFh, or the neighbour id for PEER. -/
def TestResult.value (r : TestResult) (completed : Nat) (peer : Option Nat) : Nat :=
  match r with
  | .none => 0
  | .pass => completed
  | .fail m => m
  | .aborted reason => pack (peer.getD 0xFF) reason.code

/-- A test ends: IDLE, relay closed, timers stopped, marker cleared, result kept and reported (R161, R163, R165, R166). A FAIL
sets the battery fault, a PASS clears it. The report's subject is the outcome as R159 numbers it, PASS 1, FAIL 2, ABORTED 3: DEDUCED,
log 17. -/
def State.endTest (s : State) (r : TestResult) (peer : Option Nat) : State :=
  ((s.setDt { s.dt with
      state := .idle
      requested := none
      completed := none
      minute := none
      cause := none
      suspend := none
      last := r
      batteryFault := match r with
        | .fail _ => true
        | .pass => false
        | _ => s.dt.batteryFault }).setMarker false).report
    .testResult r.code (r.value (s.dt.completed.getD 0) peer)

/-- R161: at an entry to RUNNING with the battery-low input LOW the test fails at once. -/
def State.checkBattery (s : State) : State :=
  if s.dt.battery == some true then s.endTest (.fail (s.dt.completed.getD 0)) none else s

/-- R160: an accepted start. -/
def State.startTest (s : State) (min : Nat) : State :=
  (((s.setDt { s.dt with
      state := .running
      requested := some min
      completed := some 0
      minute := s.after Config.minute
      cause := none
      suspend := none }).setMarker true).report .testStarted noSubject min).checkBattery

/-- R162: a suspension. -/
def State.suspendTest (s : State) (cause : SuspendCause) : State :=
  (s.setDt { s.dt with
      state := .suspended
      minute := none
      cause := some cause
      suspend := s.after suspendTicks }).report .testSuspended cause.code (s.dt.completed.getD 0)

/-- Who resumes a test: coded HOST 0, AUTO 1 (R164, R172; log 17). -/
inductive Resumer where
  | host | auto
  deriving DecidableEq, Repr

def Resumer.code : Resumer → Nat
  | .host => 0 | .auto => 1

/-- R164: a resumption. -/
def State.resumeTest (s : State) (by_ : Resumer) : State :=
  ((s.setDt { s.dt with
      state := .running
      minute := s.after Config.minute
      cause := none
      suspend := none }).report .testResumed by_.code (s.dt.completed.getD 0)).checkBattery

/-- The first building condition of R160 and R164 that fails: QUIET, f 15, evacuate OFF, no FRESH peer testing. -/
def State.testBar (s : State) : Option Reason :=
  if s.fl.gallery != .quiet then some .notQuiet
  else if s.ru.f != 15 then some .fireNear
  else if s.nt.evacuate then some .evacuate
  else if !s.noPeerTesting then some .peerTesting
  else none

/-- R160: the first condition of a start that fails. -/
def State.startBar (s : State) : Option Reason :=
  if s.dt.state != .idle then some s.dt.state.reason
  else
    match s.testBar with
    | some r => some r
    | none => if s.cl.node.nightOnly && s.nt.mode != .night then some .notNight else none

/-- R164: the first condition of a resumption that fails. -/
def State.resumeBar (s : State) : Option Reason :=
  if s.dt.state != .suspended then some s.dt.state.reason else s.testBar

/-! ### What reaches the tester from other blocks -/

/-- One effect that reaches a RUNNING test at an event: a suspending change (R162), or a lower-id peer (R166). -/
inductive TestHit where
  | suspend (cause : SuspendCause)
  | peer (id : Nat)
  deriving DecidableEq, Repr

/-- The effects that one event brings to a RUNNING test. -/
def testHits (old s : State) (peer : Option Nat) : List TestHit :=
  (match peer with
    | some id => if id < s.nodeId then [TestHit.peer id] else []
    | none => []) ++
  (if old.fl.gallery = .quiet && s.fl.gallery != .quiet then [.suspend .notQuiet] else []) ++
  (if old.ru.f = 15 && s.ru.f < 15 then [.suspend .fireNear] else []) ++
  (if !old.nt.evacuate && s.nt.evacuate then [.suspend .evacuate] else [])

/-- One effect taken. -/
def State.takeHit (s : State) (h : TestHit) : State :=
  match h with
  | .suspend c => s.suspendTest c
  | .peer id => s.endTest (.aborted .peer) (some id)

/-- The effect taken first: where an event brings several the spec leaves the order open, and the choice is free (log 8). -/
def State.takeHits (s : State) (hits : List TestHit) : State :=
  match hits with
  | [] => s
  | [h] => s.takeHit h
  | h :: _ =>
    (s.setFreeCount (s.freeCount + 1)).takeHit (hits.getD (Config.freeChoice s.freeCount % hits.length) h)

/-- A change of the gallery fire state, of f, of the evacuate flag or of a used slot was handed on (R164). -/
def testInputsChanged (old s : State) : Bool :=
  old.fl.gallery != s.fl.gallery || old.ru.f != s.ru.f || old.nt.evacuate != s.nt.evacuate ||
    old.slotViews != s.slotViews

/-- R164: automatic resumption applies and its conditions hold. -/
def State.autoResumes (s : State) : Bool :=
  s.cl.node.autoResume && s.dt.state = .suspended && s.dt.cause != some .host && s.testBar.isNone

/-- What the duration tester does at the event that took the block from `old` to `s`; `peer` is the neighbour id of a STATE with
TEST_RUNNING true taken into a slot (R162, R164, R166). -/
def testFollow (old s : State) (peer : Option Nat) : State :=
  if s.dt.state = .running then s.takeHits (testHits old s peer)
  else if testInputsChanged old s && s.autoResumes then s.resumeTest .auto
  else s

end Sys2Proof.Machine
end

