-- ==== Sys2Proof/Machine/Settle.lean ====
section
/-!
DEFINITION. Settle.lean: what the blocks do at one event after the block that owns it has acted: each acts on the changes handed to
it, in one fixed order (00_scope.md 3.5; the order of R178 at RUN entry, the rest log 7), and RUN entry (R177, R178).
-/

namespace Sys2Proof.Machine

/-- R177: LISTEN ends at a change of the gallery fire state to FIRE, or at its timer; the drift and rate timers start (R2). -/
def State.enterRun (s : State) : State :=
  (s.setCl { s.cl with phase := .run, listen := none }).setDs { s.ds with
    drift := s.after (s.cl.node.driftMinutes * Config.minute)
    rate := s.after (s.cl.node.rateSeconds * Config.second) }

/-- R177: a change of the gallery fire state to FIRE in LISTEN enters RUN. -/
def phaseFollow (old s : State) : State :=
  if s.cl.phase = .listen && old.fl.gallery != .fire && s.fl.gallery = .fire then s.enterRun else s

/-- Every block acts on the changes of the event that took the block from `old` to `s`. `peer` is the neighbour id of a STATE
with TEST_RUNNING true taken into a slot (R66); `pressed` are the sources whose calls were pressed (R116). -/
def settle (old s : State) (peer : Option Nat) (pressed : List Nat) : State :=
  let s1 := routeFollow old (phaseFollow old (fireFollow old s))
  let s2 := latchFollow old (firstStateFollow old s1)
  let s3 := callsFollow old (doorsFollow old s2)
  let s4 := testFollow old (signalsFollow old s3) peer
  announceFollow old (faultFollow old (stateFollow old s4)) pressed

/-- An event taken from the moment LOADING has ended: `f` is what the owning block does. Before that moment it does not reach
the blocks (R177). -/
def State.event (s : State) (f : State → State) : Host.Outcome State Fault Refusal :=
  .next (if s.awake then settle s (f s) none [] else s)

/-- An event that changes nothing any other block reads. -/
def State.own (s : State) (f : State → State) : Host.Outcome State Fault Refusal :=
  .next (if s.awake then f s else s)

/-- An event at a moment of the part's own time base; before LOADING has ended no time passes there (R177, log 1). -/
def State.eventAt (s : State) (moment : Nat) (f : State → State) : Host.Outcome State Fault Refusal :=
  if s.awake then (s.reach moment).event f else .next s

/-- A timer's expiry: it acts only while the timer runs, and the clock is then at its deadline or later (log 2). -/
def State.expiry (s : State) (t : Timer) (f : State → State) : Host.Outcome State Fault Refusal :=
  match t with
  | none => .next s
  | some deadline => s.eventAt deadline f

end Sys2Proof.Machine
end

