-- ==== Sys2Proof/Machine/DetectorEvents.lean ====
section
/-!
DEFINITION. DetectorEvents.lean: SAMPLE_ARRIVAL, ODD_SLOT_GRANT, DRIFT_TIMER_EXPIRY, RATE_TIMER_EXPIRY, HOLD_TIMER_EXPIRY (chapter 1),
CONFIRM_DELAY_EXPIRY, WALK_DURATION_EXPIRY (chapter 2).
-/

namespace Sys2Proof.Machine

/-! ### Samples and slots (R3, R4) -/

/-- What a sample brought about is reported, or handed to the fire logic (R19, R20, R24, R36); a DRIFT_LIMIT set at the end of SETTLE
is reported (R10). `before` is the flag before the sample. -/
def State.takeSampleEvent (s : State) (c : Nat) (before : Bool) (e : SampleEvent) : State :=
  match e with
  | .nothing => s.reportIf ((s.channel c).driftLimit && !before) .driftLimit c 1
  | .faulted cls => s.report .channelFault c cls.code
  | .faultInAlarm cls => s.report .faultInAlarm c cls.code
  | .recovered => s.report .channelRecovered c (s.channel c).state.code
  | .burst => s.completeBurst c

/-- A sample arrives at the record of channel `c` (R3, R5). -/
def State.takeSample (s : State) (c code : Nat) : State :=
  let ch := s.channel c
  let r := ch.sample code s.nt.mode s.slotHoldsFire s.cl.node.v s.now
  (s.setChannel c r.1).takeSampleEvent c ch.driftLimit r.2

/-- Slot `n` has been taken to its end: the next one follows, and no grant is open. -/
def State.passSlot (s : State) (n : Nat) : State := s.setDs { s.ds with nextSlot := n + 1, grant := none }

/-- The slot a sample of channel `c` ends, when one is due: the granted odd slot while the channel is still in VERIFY (R4), or
its next even slot while it is not ISOLATED (R3; log 3). -/
def State.dueSlot (s : State) (c : Nat) (odd : Bool) : Option Nat :=
  if odd then
    match s.ds.grant with
    | some (g, n) => if g = c ∧ (s.channel c).state = .verify then some n else none
    | none => none
  else if (s.channel c).state = .isolated then none
  else some (s.evenSlot c)

/-- SAMPLE_ARRIVAL (R3, R4): at the end of its slot. -/
def execSampleArrival (c : Fin 16) (code : BitVec 10) (odd : Bool) (s : State) : Host.Outcome State Fault Refusal :=
  match s.dueSlot c odd with
  | none => .next s
  | some n => s.eventAt (slotEnd n) fun s => (s.passSlot n).takeSample c code.toNat

/-- R4: odd slot `n` granted to a channel; with none in VERIFY it stays idle. A slot is granted once. -/
def State.grantSlot (s : State) (n : Nat) (choice : Option Nat) : State :=
  match choice with
  | none => s.setDs { s.ds with nextSlot := n + 1, grant := none }
  | some c =>
    s.setDs { s.ds with
      channels := s.ds.channels.set c { s.channel c with lastOdd := slotStart n }
      nextSlot := n + 1
      grant := some (c, n) }

/-- R4: the grant of an odd slot to the arbiter's choice. -/
def State.grantOdd (s : State) (n : Nat) : State := s.grantSlot n s.arbiterChoice

/-- ODD_SLOT_GRANT (R4): at the start of the next odd slot. -/
def execOddSlotGrant (s : State) : Host.Outcome State Fault Refusal :=
  if s.awake then (s.reach (slotStart s.oddSlot)).own fun t => t.grantOdd s.oddSlot else .next s

/-! ### Timers of the detector scanner -/

/-- R9, R10: one channel's drift step, with its report. -/
def stepDrift (s : State) (c : Nat) : State :=
  let before := s.channel c
  let after := before.driftStep
  (s.setChannel c after).reportIf (after.driftLimit != before.driftLimit) .driftLimit c (bit after.driftLimit)

/-- R2: the drift timer restarted. -/
def State.startDrift (s : State) : State :=
  s.setDs { s.ds with drift := s.after (s.cl.node.driftMinutes * Config.minute) }

/-- DRIFT_TIMER_EXPIRY (R9). Several channels' DRIFT_LIMIT reports come by ascending channel: DESIGN CHOICE, log 31. -/
def execDriftTimerExpiry (s : State) : Host.Outcome State Fault Refusal :=
  s.expiry s.ds.drift fun s => (s.forEach 16 stepDrift).startDrift

/-- R2, R14: every channel's rate step, and the rate timer restarted. -/
def State.stepRates (s : State) : State :=
  s.setDs { s.ds with
    channels := s.ds.channels.map (·.rateStep)
    rate := s.after (s.cl.node.rateSeconds * Config.second) }

/-- RATE_TIMER_EXPIRY (R14). -/
def execRateTimerExpiry (s : State) : Host.Outcome State Fault Refusal := s.expiry s.ds.rate State.stepRates

/-- HOLD_TIMER_EXPIRY (R17). -/
def execHoldTimerExpiry (c : Fin 16) (s : State) : Host.Outcome State Fault Refusal :=
  s.expiry (s.channel c).hold fun s => s.setChannel c (s.channel c).holdExpire

/-! ### Timers of the fire logic -/

/-- R28: the confirm-delay timer has expired: an evaluation at which DELAY holds. -/
def State.confirmExpire (s : State) : State := (s.setFl { s.fl with confirm := none }).evaluate true

/-- CONFIRM_DELAY_EXPIRY (R28). -/
def execConfirmDelayExpiry (s : State) : Host.Outcome State Fault Refusal :=
  s.expiry s.fl.confirm State.confirmExpire

/-- WALK_DURATION_EXPIRY (R39). -/
def execWalkDurationExpiry (s : State) : Host.Outcome State Fault Refusal :=
  s.expiry s.fl.walkTimer fun s => s.endWalk .time

end Sys2Proof.Machine
end

