-- ==== Sys2Proof/Machine/FieldEvents.lean ====
section
/-!
DEFINITION. FieldEvents.lean: what the field lines and the timers behind them do: doors (chapter 6), call points, attendant key and call
timers (chapter 7), timers of the attention list (chapter 8), signals (chapter 9), battery and test timers (chapter 10).
-/

namespace Sys2Proof.Machine

/-! ### Doors -/

/-- An input event of a used door; an UNUSED door's inputs are not read (R90). -/
def State.doorEvent (s : State) (d : Nat) (f : State → State) : Host.Outcome State Fault Refusal :=
  s.event fun s => if (s.door d).cfg.kind = .unused then s else f s

/-- CONTACT_FIRST_QUALIFIED (R91, R95, R106); only an unqualified contact has a first value. -/
def execContactFirstQualified (d : Fin 8) (value : Contact) (s : State) : Host.Outcome State Fault Refusal :=
  s.doorEvent d fun s =>
    if (s.door d).contact.isSome then s
    else s.moveDoorAfresh d fun door => door.firstContact value (s.freeCondition door) s.now

/-- The feedback takes a qualified value and the jam comparison is made afresh (R106). -/
def State.takeFeedback (s : State) (d : Nat) (value : Lock) : State :=
  s.moveDoorAfresh d fun door => { door with feedback := some value }

/-- FEEDBACK_FIRST_QUALIFIED (R91, R106); a door without lock feedback does not read it (R90). -/
def execFeedbackFirstQualified (d : Fin 8) (value : Lock) (s : State) : Host.Outcome State Fault Refusal :=
  s.doorEvent d fun s =>
    if !(s.door d).cfg.feedback || (s.door d).feedback.isSome then s else s.takeFeedback d value

/-- FEEDBACK_CHANGE (R106); a value the feedback already has is no change (log 23). -/
def execFeedbackChange (d : Fin 8) (value : Lock) (s : State) : Host.Outcome State Fault Refusal :=
  s.doorEvent d fun s =>
    if !(s.door d).cfg.feedback || (s.door d).feedback == some value then s else s.takeFeedback d value

/-- R96, R103: the FORCED alarm, DOOR_FORCED first, then the call. -/
def State.raiseForced (s : State) (d : Nat) : State :=
  (s.report .doorForced d s.nt.mode.code).doorAlarm (8 + d) .forced (if s.nt.mode = .night then 0 else 1)

/-- R96: an opening. -/
def State.openDoor (s : State) (d : Nat) : State :=
  let t := s.moveDoorAfresh d fun door => door.opens s.now
  if (s.door d).state = .shutLocked then t.raiseForced d else t

/-- DOOR_OPENING (R96); a contact that is OPEN already does not open (log 23). -/
def execDoorOpening (d : Fin 8) (s : State) : Host.Outcome State Fault Refusal :=
  s.doorEvent d fun s => if (s.door d).contact == some .opened then s else s.openDoor d

/-- DOOR_SHUTTING (R97, R106); a contact that is SHUT already does not shut (log 23). -/
def execDoorShutting (d : Fin 8) (s : State) : Host.Outcome State Fault Refusal :=
  s.doorEvent d fun s => if (s.door d).contact == some .shut then s else s.moveDoorAfresh d Door.shuts

/-- REX_PRESS (R91, R99); how long the input then stays PRESSED is a free value (log 10). -/
def execRexPress (d : Fin 8) (s : State) : Host.Outcome State Fault Refusal :=
  s.doorEvent d fun s =>
    (s.moveDoor d fun door => { door.grant s.now with rex := ⟨some s.now, s.freeCount⟩ }).setFreeCount (s.freeCount + 1)

/-- ACCESS_PULSE_EXPIRY (R98). -/
def execAccessPulseExpiry (d : Fin 8) (s : State) : Host.Outcome State Fault Refusal :=
  s.expiry (s.door d).accessTimer fun s => s.moveDoor d Door.accessExpire

/-- R102, R103: the open timer expires in OPEN_TIMED: OPEN_LONG, DOOR_HELD, then the HELD alarm. -/
def State.holdDoor (s : State) (d : Nat) : State :=
  let t := s.moveDoor d Door.openExpire
  if (s.door d).state = .openTimed then
    (t.report .doorHeld d (s.door d).cfg.limitSeconds).doorAlarm (8 + d) .held 3
  else t

/-- OPEN_TIMER_EXPIRY (R102). -/
def execOpenTimerExpiry (d : Fin 8) (s : State) : Host.Outcome State Fault Refusal :=
  s.expiry (s.door d).openTimer fun s => s.holdDoor d

/-- A qualified feedback, LOCK while it is none (it is qualified whenever the comparison runs, R106). -/
def Door.feedbackCode (d : Door) : Nat := (d.feedback.map (·.code)).getD 0

/-- R107: JAMMED is entered, reported with the drive the feedback disagreed with (log 19). -/
def State.jamDoor (s : State) (d : Nat) : State :=
  (s.moveDoorAfresh d Door.enterJam).report .doorJammed d (pack (s.door d).lock.code (s.door d).feedbackCode)

/-- R107: JAMMED clears and the state is derived afresh. -/
def State.unjamDoor (s : State) (d : Nat) : State :=
  let t := s.moveDoorAfresh d fun door => door.derive (s.freeCondition door) s.now
  t.report .doorJamCleared d (t.door d).state.code

/-- JAM_COMPARISON_EXPIRY (R107). -/
def execJamComparisonExpiry (d : Fin 8) (s : State) : Host.Outcome State Fault Refusal :=
  s.expiry (s.door d).jamTimer fun s => if (s.door d).state = .jammed then s.unjamDoor d else s.jamDoor d

/-! ### Call points, key and call timers -/

/-- A point's qualified input takes a value. -/
def State.qualifyPoint (s : State) (p : Nat) (active : Bool) : State :=
  s.setPoint p { s.point p with input := some active }

/-- The event of a press at a used point: its input takes ACTIVE, and its call is acted on and announced (R116). -/
def State.pressEvent (s : State) (p : Nat) : Host.Outcome State Fault Refusal :=
  .next (if s.awake then settle s ((s.qualifyPoint p true).pressPoint p) none [p] else s)

/-- CALL_POINT_PRESS (R111, R116): a press or an activation. A FIRE point that is ACTIVE already is not activated again
(log 12). -/
def execCallPointPress (p : Fin 8) (s : State) : Host.Outcome State Fault Refusal :=
  if (s.point p).kind = .unused || (s.point p).fireActive then .next s else s.pressEvent p

/-- R111: a qualified value of a point's input is a press: from INACTIVE, or for a LEVEL point from its first value. -/
def Point.pressedBy (p : Point) (active : Bool) : Bool := active && (p.input == some false || (p.input.isNone && p.level))

/-- FIRE_POINT_LEVEL_CHANGE (R111): a qualified value of a point's input; for a FIRE-kind point the fire logic evaluates (log 12). -/
def execFirePointLevelChange (p : Fin 8) (active : Bool) (s : State) : Host.Outcome State Fault Refusal :=
  if (s.point p).kind = .unused then .next s
  else if (s.point p).pressedBy active then s.pressEvent p
  else s.event fun s => s.qualifyPoint p active

/-- ATTENDANT_KEY_TURN (R126). -/
def execAttendantKeyTurn (s : State) : Host.Outcome State Fault Refusal :=
  s.event fun s => (s.setCc { s.cc with keyOn := some true }).turnKey

/-- A timer of the call of a source expires; with no call present there is none. -/
def State.callExpiry (s : State) (src : Nat) (timer : Call → Timer) (f : State → Call → State) :
    Host.Outcome State Fault Refusal :=
  match s.call src with
  | none => .next s
  | some c => s.expiry (timer c) fun s => f s c

/-- UNANSWERED_TIMER_EXPIRY (R120): it acts while the call is PENDING. -/
def execUnansweredTimerExpiry (source : Fin 17) (s : State) : Host.Outcome State Fault Refusal :=
  s.callExpiry source (·.unanswered) fun s c => if c.taker = 0 then s.unansweredExpire source c else s

/-- ATTEND_TIMER_EXPIRY (R121): it acts while the call is TAKEN. -/
def execAttendTimerExpiry (source : Fin 17) (s : State) : Host.Outcome State Fault Refusal :=
  s.callExpiry source (·.attend) fun s c => if c.taker = 0 then s else s.attendExpire source c

/-- REANNOUNCE_TIMER_EXPIRY (R119). -/
def execReannounceTimerExpiry (source : Fin 17) (s : State) : Host.Outcome State Fault Refusal :=
  s.callExpiry source (·.reannounce) fun s _ => s.announce source

/-! ### Timers of the attention list -/

/-- A timer of an entry expires; with no such entry there is none. -/
def State.entryTimer (s : State) (origin source : Nat) (timer : Entry → Timer) (f : State → Entry → State) :
    Host.Outcome State Fault Refusal :=
  match s.entry origin source with
  | none => .next s
  | some e => s.expiry (timer e) fun s => f s e

/-- ENTRY_EXPIRY (R136). -/
def execEntryExpiry (origin : BitVec 6) (source : Fin 17) (s : State) : Host.Outcome State Fault Refusal :=
  s.entryTimer origin.toNat source (·.expiry) State.expireEntry

/-- TAKE_TIMEOUT_EXPIRY (R139): it acts while the entry is TAKING. -/
def execTakeTimeoutExpiry (origin : BitVec 6) (source : Fin 17) (s : State) : Host.Outcome State Fault Refusal :=
  s.entryTimer origin.toNat source (·.takeTimeout) fun s e => if e.state = .taking then s.takeUnanswered e else s

/-! ### Signals -/

/-- SIGN_STEP_EXPIRY (R146, R147). Several signs' SIGN_LAMP_FAULT reports come by ascending sign: DESIGN CHOICE, log 31. -/
def execSignStepExpiry (sense : BitVec 4) (s : State) : Host.Outcome State Fault Refusal :=
  s.expiry s.sd.signTimer fun s =>
    ((s.setPins { s.pins with signSense := sense }).forEach 4 State.stepSign).startSignTimer

/-- STRIP_STEP_EXPIRY (R149 to R153). -/
def execStripStepExpiry (k : Fin 2) (sense : BitVec 32) (s : State) : Host.Outcome State Fault Refusal :=
  s.expiry (s.strip k).timer fun s =>
    (s.setPins { s.pins with stripSense := s.pins.stripSense.set k sense }).stepStrip k (s.strip k) sense

/-- CADENCE_TIMER_EXPIRY (R155). -/
def execCadenceTimerExpiry (s : State) : Host.Outcome State Fault Refusal :=
  s.expiry s.sd.cadenceTimer State.turnCadence

/-! ### Duration test -/

/-- R161: a minute of a RUNNING test has passed. -/
def State.countMinute (s : State) : State :=
  let t := s.setDt { s.dt with completed := some (s.dt.completed.getD 0 + 1), minute := s.after Config.minute }
  if t.dt.completed = t.dt.requested then t.endTest .pass none else t

/-- MINUTE_TIMER_EXPIRY (R161). -/
def execMinuteTimerExpiry (s : State) : Host.Outcome State Fault Refusal := s.expiry s.dt.minute State.countMinute

/-- R161: a qualified value of the battery-low input; LOW fails a RUNNING test. -/
def State.takeBattery (s : State) (low : Bool) : State :=
  let t := s.setDt { s.dt with battery := some low }
  if low && t.dt.state = .running then t.endTest (.fail (t.dt.completed.getD 0)) none else t

/-- BATTERY_LOW_CHANGE (R161). -/
def execBatteryLowChange (low : Bool) (s : State) : Host.Outcome State Fault Refusal :=
  s.event fun s => s.takeBattery low

/-- SUSPEND_TIMER_EXPIRY (R163). -/
def execSuspendTimerExpiry (s : State) : Host.Outcome State Fault Refusal :=
  s.expiry s.dt.suspend fun s => s.endTest (.aborted .suspendTimeout) none

end Sys2Proof.Machine
end

