-- ==== Sys2Proof/WellFormed.lean ====
section
/-!
DEFINITION. WellFormed.lean: what makes a telegram well-formed (R44) and a command's operands those of its row.
-/

namespace Sys2Proof

/-- A header's source id is 1..62 (R44). -/
def wfSource (src : BitVec 6) : Bool := src != 0 && src != 63

/-- H is 1..8 (R44). -/
def StatePayload.wf (p : StatePayload) : Bool := 1 ≤ p.h.toNat && p.h.toNat ≤ 8

/-- R44 for a CALL: source index, kind and taker in range, and taker non-zero exactly when TAKEN. -/
def CallPayload.wf (p : CallPayload) : Bool :=
  p.source.toNat ≤ 16 && p.kind.toNat ≤ 5 && p.taker != 63 && (p.taken == (p.taker != 0))

/-- R44 for a TAKE or GIVEUP. -/
def RefPayload.wf (p : RefPayload) : Bool :=
  (1 ≤ p.origin.toNat && p.origin.toNat ≤ 62) && p.source.toNat ≤ 16 && p.serial.toNat ≤ 15

/-- R44 for a CLEAR. -/
def ClearPayload.wf (p : ClearPayload) : Bool :=
  (1 ≤ p.origin.toNat && p.origin.toNat ≤ 62) && p.source.toNat ≤ 16 && p.serial.toNat ≤ 15 && p.clearedBy.toNat ≤ 62

/-- R44 for an ORDER; the door byte is read for DOOR_PULSE (code 6) only. -/
def OrderPayload.wf (p : OrderPayload) : Bool :=
  p.code.toNat ≤ 6 && (1 ≤ p.target.toNat && p.target.toNat ≤ 63) && (p.code != 6 || p.door.toNat ≤ 7)

/-- R44 for a payload of any kind. -/
def Payload.wf : Payload → Bool
  | .state p => p.wf
  | .call p => p.wf
  | .take p => p.wf
  | .clear p => p.wf
  | .giveup p => p.wf
  | .order p => p.wf

/-- R44: a known kind's payload is well-formed and the source id is 1..62. -/
def Telegram.wf (t : Telegram) : Bool := wfSource t.src && t.body.wf

/-- The length Table 11-1 gives a request code; none for a code that is not in the table. -/
def requestLength (code : Nat) : Option Nat :=
  if code ∈ [0x01, 0x06, 0x07, 0x08, 0x0A, 0x20, 0x24, 0x40, 0x41, 0x43, 0x44, 0x45, 0x7F] then some 0
  else if code ∈ [0x02, 0x03, 0x04, 0x05, 0x09, 0x21, 0x22, 0x23, 0x30, 0x42] then some 1
  else if code ∈ [0x10, 0x11, 0x12] then some 2
  else if code = 0x13 then some 3
  else none

/-- A command's operands are those its row can have. An ill-formed arrival is not refused by `exec`: R44 has it discarded. -/
def Instr.wf : Instr → Bool
  | .configReadComplete bytes _ => bytes.length ≤ 256
  | .unknownRequest code len => requestLength code.toNat != some len.toNat
  | .stateArrival src p => wfSource src && p.wf
  | .callArrival src p => wfSource src && p.wf
  | .clearArrival src p => wfSource src && p.wf && p.origin.toNat == src.toNat
  | .clearRequestArrival src p => wfSource src && p.wf && p.origin.toNat != src.toNat
  | .takeArrival src p => wfSource src && p.wf
  | .giveupArrival src p => wfSource src && p.wf
  | .orderModeDay src target => wfSource src && OrderPayload.wf ⟨0, target, 0⟩
  | .orderModeNight src target => wfSource src && OrderPayload.wf ⟨1, target, 0⟩
  | .orderEvacuateOn src target => wfSource src && OrderPayload.wf ⟨2, target, 0⟩
  | .orderEvacuateOff src target => wfSource src && OrderPayload.wf ⟨3, target, 0⟩
  | .orderSilence src target => wfSource src && OrderPayload.wf ⟨4, target, 0⟩
  | .orderFireReset src target => wfSource src && OrderPayload.wf ⟨5, target, 0⟩
  | .orderDoorPulse src target door => wfSource src && OrderPayload.wf ⟨6, target, door⟩
  | .entryExpiry origin _ => wfSource origin
  | .takeTimeoutExpiry origin _ => wfSource origin
  | .powerUp | .resetPin | .listenTimerExpiry | .transactionEnd | .readNode | .readChannel _ | .readDoor _ | .readCall _
  | .readNeighbour _ | .readRoute | .readSignals | .readTest | .listRead _ | .readReport | .take _ _ | .giveup _ _
  | .clear _ _ | .order _ _ _ | .fireReset | .isolate _ | .restore _ | .walkStart _ | .walkStop | .doorPulse _ | .lampClear
  | .lampCheck | .testStart _ | .testSuspend | .testResume | .testAbort | .restart | .sampleArrival _ _ _ | .oddSlotGrant
  | .driftTimerExpiry | .rateTimerExpiry | .holdTimerExpiry _ | .confirmDelayExpiry | .walkDurationExpiry | .contend | .loss
  | .lineCollision | .transmissionCompletion | .stuckPeriodStart | .stuckPeriodEnd | .stuckClearTimerExpiry | .checkError _
  | .noiseWindowAgeOut | .telegramDiscarded _ | .duplicateId _ | .refreshTimerExpiry | .freshnessDeadlineExpiry _
  | .contactFirstQualified _ _ | .feedbackFirstQualified _ _ | .doorOpening _ | .doorShutting _ | .feedbackChange _ _
  | .rexPress _ | .accessPulseExpiry _ | .openTimerExpiry _ | .jamComparisonExpiry _ | .callPointPress _
  | .firePointLevelChange _ _ | .attendantKeyTurn | .unansweredTimerExpiry _ | .attendTimerExpiry _
  | .reannounceTimerExpiry _ | .signStepExpiry _ | .stripStepExpiry _ _ | .cadenceTimerExpiry | .minuteTimerExpiry
  | .batteryLowChange _ | .suspendTimerExpiry | .resetPinAsserted | .transactionBegin => true

end Sys2Proof
end

