-- ==== Sys2Proof/Machine/Telegrams.lean ====
section
/-!
DEFINITION. Telegrams.lean: a telegram as bits on the line, both ways: fields (R43, Table 3-1), check (R45), stuffing (R42), and
the class a receiver puts it in (R46). A dominant bit is `false`, logical 0 (R41).
-/

namespace Sys2Proof

open Machine (bit)

/-- A number as `n` bits, most significant first (R43). -/
def msbBits : Nat → Nat → List Bool
  | 0, _ => []
  | n + 1, v => (v / 2 ^ n % 2 == 1) :: msbBits n v

/-- Bits, most significant first, as a number. -/
def ofMsb (bits : List Bool) : Nat := bits.foldl (fun a b => 2 * a + bit b) 0

/-- The bytes of a payload (Table 3-1). -/
def Payload.bytes : Payload → List Nat
  | .state p =>
    [ p.f.toNat * 16 + p.x.toNat
    , p.fire.code * 64 + p.role.code * 32 + bit p.testRunning * 16 + p.h.toNat
    , p.mode.code * 128 + bit p.evacuate * 64 ]
  | .call p =>
    [ p.source.toNat * 8 + p.kind.toNat
    , p.serial.toNat * 16 + p.priority.toNat * 4 + bit p.taken * 2 + bit p.overdue
    , bit p.reminder * 128 + p.taker.toNat ]
  | .take p | .giveup p => [p.origin.toNat, p.source.toNat, p.serial.toNat]
  | .clear p => [p.origin.toNat, p.source.toNat, p.serial.toNat, p.clearedBy.toNat]
  | .order p => [p.code.toNat, p.target.toNat, p.door.toNat]

/-- The bits the check covers: precedence field, kind, length, payload (R45). -/
def Telegram.bodyBits (t : Telegram) : List Bool :=
  msbBits 2 t.cls.toNat ++ msbBits 6 t.src.toNat ++ msbBits 4 t.body.kindCode ++ msbBits 4 t.body.bytes.length ++
    t.body.bytes.flatMap (msbBits 8)

/-- One bit into the CRC with generator x^16 + x^12 + x^5 + 1 (R45). -/
def crcStep (r : Nat) (b : Bool) : Nat :=
  if (r / 32768 + bit b) % 2 = 1 then Nat.xor (2 * r % 65536) 0x1021 else 2 * r % 65536

/-- The check over a run of bits: initial value FFFFh, no final inversion (R45). -/
def crc (bits : List Bool) : Nat := bits.foldl crcStep 0xFFFF

/-- A stuff bit of the opposite level after every run of 8 equal bits (R42); `run` bits equal to `last` came before. -/
def stuffFrom (last : Bool) (run : Nat) : List Bool → List Bool
  | [] => []
  | b :: bs =>
    let run' := if b = last then run + 1 else 1
    if run' = 8 then b :: (!b) :: stuffFrom (!b) 1 bs else b :: stuffFrom b run' bs

/-- A bit decoded before what the rest gives. -/
def decoded (b : Bool) (rest : List Bool × Bool) : List Bool × Bool := (b :: rest.1, rest.2)

/-- The bits decoded, with the stuff bits removed, up to the first stuff violation or due stuff bit that is missing; and whether
there was none (R42, R46). -/
def unstuffFrom (last : Bool) (run : Nat) : List Bool → List Bool × Bool
  | [] => ([], true)
  | [b] => ([b], (if b = last then run + 1 else 1) ≠ 8)
  | b :: c :: bs =>
    let run' := if b = last then run + 1 else 1
    if run' = 8 then
      if c = !b then decoded b (unstuffFrom c 1 bs) else ([b], false)
    else decoded b (unstuffFrom b run' (c :: bs))

/-- What a node drives from the start bit to the last bit of the check field, stuff bits included (R42, R43). The line
was recessive before the start bit. -/
def Telegram.frame (t : Telegram) : List Bool :=
  stuffFrom true 0 (false :: (t.bodyBits ++ msbBits 16 (crc t.bodyBits)))

/-- What a receiver makes of a telegram (R46). -/
inductive Reception where
  | framing | badLength | badCheck | unknownKind | malformed
  | good (t : Telegram)
  deriving DecidableEq, Repr

/-- The bytes of a payload as received. -/
def bytesOf : Nat → List Bool → List Nat
  | 0, _ => []
  | n + 1, bits => ofMsb (bits.take 8) :: bytesOf n (bits.drop 8)

/-- A fire state field's meaning (Table 3-1). -/
def fireStateOf (n : Nat) : FireState :=
  if n = 0 then .quiet else if n = 1 then .caution else if n = 2 then .suspect else .fire

/-- The payload of a known kind from its bytes; none when the length is not the kind's. Bits shown as sent as 0 are not
read (R44). -/
def payloadOf (kind : Nat) (bytes : List Nat) : Option Payload :=
  match kind, bytes with
  | 1, [p, q, r] =>
    some (.state
      { f := BitVec.ofNat 4 (p / 16), x := BitVec.ofNat 4 p, fire := fireStateOf (q / 64 % 4)
        role := if q / 32 % 2 = 1 then .station else .gallery, testRunning := q / 16 % 2 == 1, h := BitVec.ofNat 4 q
        mode := if r / 128 % 2 = 1 then .night else .day, evacuate := r / 64 % 2 == 1 })
  | 2, [p, q, r] =>
    some (.call
      { source := BitVec.ofNat 5 (p / 8), kind := BitVec.ofNat 3 p, serial := BitVec.ofNat 4 (q / 16)
        priority := BitVec.ofNat 2 (q / 4), taken := q / 2 % 2 == 1, overdue := q % 2 == 1
        reminder := r / 128 % 2 == 1, taker := BitVec.ofNat 6 r })
  | 3, [p, q, r] => some (.take ⟨BitVec.ofNat 8 p, BitVec.ofNat 8 q, BitVec.ofNat 8 r⟩)
  | 4, [p, q, r, t] => some (.clear ⟨BitVec.ofNat 8 p, BitVec.ofNat 8 q, BitVec.ofNat 8 r, BitVec.ofNat 8 t⟩)
  | 5, [p, q, r] => some (.giveup ⟨BitVec.ofNat 8 p, BitVec.ofNat 8 q, BitVec.ofNat 8 r⟩)
  | 6, [p, q, r] => some (.order ⟨BitVec.ofNat 8 p, BitVec.ofNat 8 q, BitVec.ofNat 8 r⟩)
  | _, _ => none

/-- The length field of the bits after the start bit (R43). -/
def lengthField (bits : List Bool) : Nat := ofMsb ((bits.drop 12).take 4)

/-- The length field has been decoded and holds 13..15 (R46). -/
def lengthBad (bits : List Bool) : Bool := 16 ≤ bits.length && 12 < lengthField bits

/-- A telegram's bits after its start bit, with stuff bits removed, as R46 classes them. -/
def classify (bits : List Bool) : Reception :=
  let len := lengthField bits
  if bits.length < 16 then .framing
  else if lengthBad bits then .badLength
  else if bits.length ≠ 16 + 8 * len + 16 then .framing
  else
    let covered := bits.take (16 + 8 * len)
    if ofMsb (bits.drop (16 + 8 * len)) ≠ crc covered then .badCheck
    else
      let kind := ofMsb ((bits.drop 8).take 4)
      if kind = 0 ∨ 7 ≤ kind then .unknownKind
      else
        match payloadOf kind (bytesOf len (covered.drop 16)) with
        | none => .malformed
        | some body =>
          let t : Telegram :=
            ⟨BitVec.ofNat 2 (ofMsb (bits.take 2)), BitVec.ofNat 6 (ofMsb ((bits.drop 2).take 6)), body⟩
          if t.wf then .good t else .malformed

/-- Reception of the bits from the start bit to the idle gap (R46). Decoding stops at what is seen first: a stuff violation, or a
bad length, whatever follows it. -/
def receive (line : List Bool) : Reception :=
  match unstuffFrom true 0 line with
  | (false :: bits, intact) => if intact || lengthBad bits then classify bits else .framing
  | _ => .framing

end Sys2Proof
end

