-- ==== Sys2Proof/Machine/Image.lean ====
section
/-!
DEFINITION. Image.lean: the configuration image: validation (R174), fields brought into range with their clamps (R175 and the rules
it names), the defaults (R176), and the end of LOADING (R177).
-/

namespace Sys2Proof.Machine

/-! ### Fields and clamps -/

/-- Byte `i` of an image. -/
def imageByte (img : List Byte) (i : Nat) : Nat := (img.getD i 0).toNat

/-- A two-byte field, most significant byte first (section 11.4). -/
def imageWord (img : List Byte) (i : Nat) : Nat := imageByte img i * 256 + imageByte img (i + 1)

/-- Bits hi..lo of a number. -/
def bitField (n hi lo : Nat) : Nat := n / 2 ^ lo % 2 ^ (hi + 1 - lo)

/-- A number brought to the nearest bound of lo..hi (00_scope.md 3.3). -/
def clampTo (lo hi n : Nat) : Nat := max lo (min hi n)

/-- One clamp at a byte offset when a field was changed (R175). -/
def changedAt (offset before after : Nat) : List Nat := if before = after then [] else [offset]

/-- What a record's fields are and the offsets of those that were changed. -/
structure Taken (α : Type) where
  value : α
  clamps : List Nat

/-! ### Node fields (R2, R76, R120, R121, Table 11-2) -/

/-- The ranges of bytes 6 to 13, in order. -/
def nodeRanges : List (Nat × Nat) := [(1, 8), (0, 14), (0, 240), (2, 15), (1, 60), (2, 15), (20, 250), (1, 60)]

/-- Byte 6 + i brought into its range. -/
def nodeByte (img : List Byte) (i : Nat) : Nat :=
  clampTo (nodeRanges.getD i (0, 255)).1 (nodeRanges.getD i (0, 255)).2 (imageByte img (6 + i))

/-- The node fields of a valid image. -/
def takeNode (img : List Byte) : Taken NodeConfig where
  value :=
    { id := imageByte img 4
      role := if bitField (imageByte img 5) 7 7 = 1 then .station else .gallery
      startMode := if bitField (imageByte img 5) 6 6 = 1 then .night else .day
      h := nodeByte img 0
      e := nodeByte img 1
      tc := nodeByte img 2
      v := nodeByte img 3
      driftMinutes := nodeByte img 4
      rateSeconds := nodeByte img 5
      tesc := nodeByte img 6
      tatt := nodeByte img 7
      nightOnly := bitField (imageByte img 5) 5 5 = 1
      autoResume := bitField (imageByte img 5) 4 4 = 1 }
  clamps := (List.range 8).flatMap fun i => changedAt (6 + i) (imageByte img (6 + i)) (nodeByte img i)

/-! ### Slots (R62) -/

/-- The configured neighbour id of slot `s`. -/
def slotId (img : List Byte) (s : Nat) : Nat := imageByte img (14 + 2 * s)

/-- R62, first adjustment: an id above 62 or the node's own makes the slot unused. -/
def slotIdA (img : List Byte) (s : Nat) : Nat :=
  if 62 < slotId img s || slotId img s = imageByte img 4 then 0 else slotId img s

/-- R62, second adjustment: of two slots that name one neighbour the higher is made unused. -/
def slotIdB (img : List Byte) (s : Nat) : Nat :=
  if (List.range s).any (fun j => slotIdA img j = slotIdA img s) then 0 else slotIdA img s

/-- The configured link door field, 15 for NONE. -/
def slotLink (img : List Byte) (s : Nat) : Nat := bitField (imageByte img (15 + 2 * s)) 7 4

/-- R62, third adjustment, first part: a value that is neither 0..7 nor NONE becomes NONE; an unused slot has none. -/
def slotLinkA (img : List Byte) (s : Nat) : Nat :=
  if slotIdB img s = 0 || 7 < slotLink img s then 15 else slotLink img s

/-- R62, third adjustment, second part: of two slots that name one link door the higher has NONE. -/
def slotLinkB (img : List Byte) (s : Nat) : Nat :=
  if (List.range s).any (fun j => slotLinkA img j = slotLinkA img s) then 15 else slotLinkA img s

/-- The configured cost. -/
def slotCost (img : List Byte) (s : Nat) : Nat := bitField (imageByte img (15 + 2 * s)) 3 0

/-- R62: slot `s` with its adjustments; an unused slot's link door and cost are neither adjusted nor counted. -/
def takeSlot (img : List Byte) (s : Nat) : Taken Slot :=
  if slotIdB img s = 0 then ⟨.unused, changedAt (14 + 2 * s) (slotId img s) 0⟩
  else
    ⟨.afterRestart (slotIdB img s) (if slotLinkB img s = 15 then none else some (slotLinkB img s))
        (clampTo 1 3 (slotCost img s)),
      changedAt (15 + 2 * s) (slotLink img s) (slotLinkB img s) ++
        changedAt (15 + 2 * s) (slotCost img s) (clampTo 1 3 (slotCost img s))⟩

/-! ### Channels (R1, R175) -/

/-- R1: a threshold pair: A into 2..255, then P into 1..A-1. -/
def pairA (a : Nat) : Nat := clampTo 2 255 a

def pairP (p a : Nat) : Nat := clampTo 1 (pairA a - 1) p

/-- A SMOKE channel's fields at offset `o`; the fields of the other kind are not used. -/
def takeSmoke (img : List Byte) (o : Nat) : Taken ChannelConfig :=
  let rawMin := bitField (imageWord img o) 9 0
  let rawMax := imageWord img (o + 2)
  let bmin := clampTo 16 1000 rawMin
  let bmax := max bmin (clampTo 16 1000 rawMax)
  let dp := imageByte img (o + 4)
  let da := imageByte img (o + 5)
  let np := imageByte img (o + 6)
  let na := imageByte img (o + 7)
  ⟨⟨.smoke, bmin, bmax, pairP dp da, pairA da, pairP np na, pairA na, 0, 0⟩,
    changedAt o rawMin bmin ++ changedAt (o + 2) rawMax bmax ++ changedAt (o + 4) dp (pairP dp da) ++
      changedAt (o + 5) da (pairA da) ++ changedAt (o + 6) np (pairP np na) ++ changedAt (o + 7) na (pairA na)⟩

/-- A HEAT channel's fields at offset `o`. -/
def takeHeat (img : List Byte) (o : Nat) : Taken ChannelConfig :=
  let th := imageByte img (o + 8)
  let rr := imageByte img (o + 9)
  ⟨⟨.heat, 0, 0, 0, 0, 0, 0, clampTo 40 90 th, clampTo 0 31 rr⟩,
    changedAt (o + 8) th (clampTo 40 90 th) ++ changedAt (o + 9) rr (clampTo 0 31 rr)⟩

/-- Channel `c` (R1); a kind code of 3 becomes SMOKE (R175). -/
def takeChannel (img : List Byte) (c : Nat) : Taken ChannelConfig :=
  let o := 30 + 10 * c
  let kind := bitField (imageByte img o) 7 6
  if kind = 0 then ⟨.unused, []⟩
  else if kind = 2 then takeHeat img o
  else ⟨(takeSmoke img o).value, changedAt o kind 1 ++ (takeSmoke img o).clamps⟩

/-! ### Doors (R90, R175) -/

/-- A door kind code's meaning; 5, 6 and 7 become EXIT (R175). -/
def doorKindOf (n : Nat) : DoorKind :=
  if n = 0 then .unused else if n = 1 then .gallery else if n = 3 then .staff else if n = 4 then .store else .exit

/-- R90: an open limit into 5..600, lowered to a multiple of 5. -/
def openLimitOf (n : Nat) : Nat := clampTo 5 600 n / 5 * 5

/-- Door `d` (R90); an UNUSED door's pulse time and open limit are not adjusted (R175). -/
def takeDoor (img : List Byte) (d : Nat) : Taken DoorConfig :=
  let o := 190 + 4 * d
  let code := bitField (imageByte img o) 7 5
  let kind := doorKindOf code
  let magnet := bitField (imageByte img o) 4 4
  let remote := bitField (imageByte img o) 2 2
  let magnet' := if kind = .gallery then magnet else 0
  let remote' := if kind = .unused then 0 else remote
  let pulse := imageByte img (o + 1)
  let limit := imageWord img (o + 2)
  let pulse' := if kind = .unused then pulse else clampTo 1 30 pulse
  let limit' := if kind = .unused then limit else openLimitOf limit
  ⟨⟨kind, magnet' = 1, bitField (imageByte img o) 3 3 = 1, remote' = 1, pulse', limit'⟩,
    changedAt o code kind.code ++ changedAt o magnet magnet' ++ changedAt o remote remote' ++
      changedAt (o + 1) pulse pulse' ++ changedAt (o + 2) limit limit'⟩

/-! ### Call points (R110) -/

def pointKindOf (n : Nat) : PointKind :=
  if n = 0 then .unused else if n = 1 then .help else if n = 2 then .staff else .fire

/-- Point `p` (R110); an UNUSED point's other fields are not adjusted (R175). -/
def takePoint (img : List Byte) (p : Nat) : Taken Point :=
  let o := 222 + p
  let kind := pointKindOf (bitField (imageByte img o) 7 6)
  let level := bitField (imageByte img o) 5 5
  let priority := bitField (imageByte img o) 3 0
  let level' := if kind = .fire then 1 else level
  let priority' := if kind = .unused then priority else if kind = .fire then 0 else min 3 priority
  ⟨⟨kind, level' = 1, priority', none⟩, changedAt o level level' ++ changedAt o priority priority'⟩

/-! ### Signs and strips (R144, R148) -/

/-- The two-bit map entry of `via` (8 for LOCAL): LOCAL in bits 1..0 of the byte at `own`, slots 0..3 in the byte at
`slots`, slots 4..7 in the next, the lower slot in the higher bits (Table 11-2). -/
def mapEntry (img : List Byte) (own slots via : Nat) : Nat :=
  if via = 8 then bitField (imageByte img own) 1 0
  else bitField (imageByte img (slots + via / 4)) (7 - 2 * (via % 4)) (6 - 2 * (via % 4))

/-- The byte offset of that entry. -/
def mapOffset (own slots via : Nat) : Nat := if via = 8 then own else slots + via / 4

/-- One clamp for each map entry that holds no value (R144, R148). -/
def mapClamps (img : List Byte) (own slots : Nat) : List Nat :=
  (List.range 9).flatMap fun via => if mapEntry img own slots via = 3 then [mapOffset own slots via] else []

/-- An arrow code's meaning; no value becomes AHEAD (R144). -/
def arrowOf (n : Nat) : Arrow := if n = 0 then .left else if n = 1 then .right else .ahead

/-- A direction code's meaning; no value becomes STEADY (R148). -/
def dirOf (n : Nat) : Dir := if n = 0 then .forward else if n = 1 then .reverse else .steady

/-- Sign `n` (R144). -/
def takeSign (img : List Byte) (n : Nat) : Taken Sign :=
  let o := 230 + 3 * n
  let default := bitField (imageByte img o) 5 4
  if bitField (imageByte img o) 7 7 = 0 then ⟨.unused, []⟩
  else
    ⟨.afterRestart true (arrowOf default) ((List.range 9).map fun via => arrowOf (mapEntry img o (o + 1) via)),
      (if default = 3 then [o] else []) ++ mapClamps img o (o + 1)⟩

/-- Strip `k` (R148). -/
def takeStrip (img : List Byte) (k : Nat) : Taken Strip :=
  let o := 242 + 6 * k
  let n := imageByte img o
  let pp := bitField (imageByte img (o + 1)) 7 3
  let w := bitField (imageByte img (o + 1)) 2 0
  let step := bitField (imageByte img (o + 2)) 7 4
  let offset := bitField (imageByte img (o + 2)) 3 0
  let n' := min 32 n
  let pp' := clampTo 2 16 pp
  let w' := min (pp' - 1) (clampTo 1 7 w)
  let step' := clampTo 1 15 step
  if n = 0 then ⟨.unused, []⟩
  else
    ⟨.afterRestart n' w' pp' step' offset
        ((List.range 9).map fun via => dirOf (mapEntry img (o + 3) (o + 4) via)),
      changedAt o n n' ++ changedAt (o + 1) pp pp' ++ changedAt (o + 1) w w' ++ changedAt (o + 2) step step' ++
        mapClamps img (o + 3) (o + 4)⟩

/-! ### Validation and the whole configuration -/

/-- The bits of the bytes the check covers, each byte most significant bit first (Table 11-2). -/
def imageBits (img : List Byte) : List Bool := (img.take 254).flatMap fun b => msbBits 8 b.toNat

/-- R174: the first failure found; none for a valid image. -/
def imageFailure (img : List Byte) : Option ImageReason :=
  if img.length < 256 then some .noAck
  else if imageWord img 0 ≠ 0x4B47 then some .marker
  else if imageWord img 2 ≠ 254 then some .length
  else if imageWord img 254 ≠ crc (imageBits img) then some .crc
  else if imageByte img 4 = 0 ∨ 62 < imageByte img 4 then some .nodeId
  else none

/-- Everything the configuration gives the blocks, and the offsets of the clamps made. -/
structure Configuration where
  node : NodeConfig
  slots : List Slot
  channels : List ChannelConfig
  doors : List DoorConfig
  points : List Point
  signs : List Sign
  strips : List Strip
  clamps : List Nat

/-- R175: the configuration of a valid image. -/
def validConfig (img : List Byte) : Configuration :=
  let node := takeNode img
  let slots := (List.range 8).map (takeSlot img)
  let channels := (List.range 16).map (takeChannel img)
  let doors := (List.range 8).map (takeDoor img)
  let points := (List.range 8).map (takePoint img)
  let signs := (List.range 4).map (takeSign img)
  let strips := (List.range 2).map (takeStrip img)
  { node := node.value
    slots := slots.map (·.value)
    channels := channels.map (·.value)
    doors := doors.map (·.value)
    points := points.map (·.value)
    signs := signs.map (·.value)
    strips := strips.map (·.value)
    clamps := node.clamps ++ slots.flatMap (·.clamps) ++ channels.flatMap (·.clamps) ++ doors.flatMap (·.clamps) ++
      points.flatMap (·.clamps) ++ signs.flatMap (·.clamps) ++ strips.flatMap (·.clamps) }

/-- R176, with R90, R110 and R144: what a node with an invalid image runs on. -/
def defaultConfig (strap : Mode) : Configuration where
  node := .default strap
  slots := List.replicate 8 .unused
  channels := List.replicate 16 ⟨.smoke, 40, 400, 30, 60, 15, 40, 40, 0⟩
  doors := List.replicate 8 ⟨.exit, false, false, false, 5, 60⟩
  points := List.replicate 8 ⟨.help, false, 2, none⟩
  signs := List.replicate 4 (.afterRestart true .ahead (List.replicate 9 .ahead))
  strips := List.replicate 2 .unused
  clamps := []

/-- The configuration taken from what the read gave (R174, R175, R176). -/
def configOf (img : List Byte) (strap : Mode) : Configuration :=
  match imageFailure img with
  | none => validConfig img
  | some _ => defaultConfig strap

/-- The first clamped offset: the least, since the record is in image order (R175). -/
def firstClamped (clamps : List Nat) : Option Nat := clamps.min?

/-- The value of CONFIG (R172, R176): VALID 0, CLAMPED 1 with the count, INVALID 2 with the reason. -/
def configValue (failure : Option ImageReason) (count : Nat) : Nat :=
  match failure with
  | some r => pack 2 r.code
  | none => if count = 0 then pack 0 0 else pack 1 count

/-! ### The end of LOADING (R177) -/

/-- A door as LOADING ends (R109): its state and drives follow its free condition, with evacuating no; `draw` is the free choice of
its REX input (log 10). -/
def doorAtStart (mode : Mode) (draw : Nat) (cfg : DoorConfig) : Door :=
  if cfg.kind = .unused then .idle cfg
  else
    let free := regimeFree cfg.kind mode
    { Door.idle cfg with
      state := if free then .shutFree else .shutLocked
      rex := ⟨none, draw⟩
      lock := if free then .free else .lock
      magnet := if cfg.kind = .gallery && cfg.magnet && mode = .day then .hold else .drop }

/-- R177: LISTEN is entered; every block takes its values after restart from the configuration (R25, R40, R61, R75, R89, R109,
R128, R143, R158, R168); the marker gives the last result and is then cleared. -/
def State.loaded (s : State) (img : List Byte) (strap : Mode) : State :=
  let failure := imageFailure img
  let c := configOf img strap
  { s with
    now := 0
    cl :=
      { phase := .listen
        listen := some (2 * c.node.h * Config.second)
        node := c.node
        invalid := failure
        clampCount := min 255 c.clamps.length
        firstClamp := firstClamped c.clamps }
    ds := .afterRestart c.channels
    fl := .afterRestart
    lc := .afterRestart
    nt := .afterRestart c.slots c.node.startMode
    ru := .afterRestart
    doors := c.doors.map (doorAtStart c.node.startMode s.freeCount)
    cc := .afterRestart c.points
    al := []
    sd := .afterRestart c.signs c.strips (some Config.signStep)
    dt := .afterRestart (if s.marker then .aborted .restart else .none)
    ap := { s.ap with reports := [] }
    marker := false
    pins := { s.pins with strap := strap }
    freeCount := s.freeCount + 1 }

/-- R176: the CONFIG report, the first entry of the report queue. -/
def State.reportConfig (s : State) : State :=
  s.report .config (s.cl.firstClamp.getD noSubject) (configValue s.cl.invalid s.cl.clampCount)

/-- R174, R176, R177: the read of the image ends in LOADING. Until then the summary is empty and there is no call (R173, R128), so the
node-fault call follows when a configuration member holds (R118). -/
def State.leaveLoading (s : State) (img : List Byte) (strap : Mode) : State :=
  let before := State.restarted .loading s.ap.port s.pending s.marker s.pins s.freeCount
  announceFollow before (faultFollow before ((s.loaded img strap).reportConfig)) []

end Sys2Proof.Machine
end

