-- ==== Sys2Proof/Machine/StartUp.lean ====
section
/-!
DEFINITION. StartUp.lean: restart, LOADING, LISTEN and the bounds of a transaction: POWER_UP, RESET_PIN, RESET_PIN_ASSERTED,
CONFIG_READ_COMPLETE, LISTEN_TIMER_EXPIRY, TRANSACTION_BEGIN, TRANSACTION_END (R169, R174, R177, R179).
-/

namespace Sys2Proof.Machine

/-- The port as a restart leaves it: deaf when select is low (R169). -/
def Port.throughRestart (p : Port) : Port := if p = .high then .high else .deaf

/-- R179: every block returns to its value after restart; the marker is kept (R168). -/
def State.restart (s : State) (phase : Phase) (port : Port) : State :=
  State.restarted phase port s.pending s.marker s.pins s.freeCount

/-- POWER_UP (R179): the supply becomes good; a reset pin still asserted goes on holding the node (log 5). -/
def execPowerUp (s : State) : Host.Outcome State Fault Refusal :=
  .next (s.restart (if s.cl.phase = .held then .held else .loading) s.ap.port.throughRestart)

/-- RESET_PIN (R179): the pin is released and LOADING begins. -/
def execResetPin (s : State) : Host.Outcome State Fault Refusal :=
  .next (s.restart .loading s.ap.port.throughRestart)

/-- RESET_PIN_ASSERTED (R179): the node is held in restart. -/
def execResetPinAsserted (s : State) : Host.Outcome State Fault Refusal :=
  .next (s.restart .held s.ap.port.throughRestart)

/-- CONFIG_READ_COMPLETE (R174): the image is validated and the node enters LISTEN. Only LOADING reads it. -/
def execConfigReadComplete (bytes : List Byte) (strap : Mode) (s : State) : Host.Outcome State Fault Refusal :=
  .next (if s.cl.phase = .loading then s.leaveLoading bytes strap else s)

/-- LISTEN_TIMER_EXPIRY (R177): RUN is entered. -/
def execListenTimerExpiry (s : State) : Host.Outcome State Fault Refusal := s.expiry s.cl.listen State.enterRun

/-- The port after an event on select. -/
def State.setPort (s : State) (p : Port) : State := s.setAp { s.ap with port := p, dataOut := [] }

/-- A select rise (R169): it ends the transaction, and restarts the node after a decoded RESTART (R179). -/
def State.selectRise (s : State) : State :=
  if s.ap.port = .restartDecoded then s.restart .loading .high else s.setPort .high

/-- A select fall (R169): a transaction begins; a node held in restart reads nothing of it. -/
def State.selectFall (s : State) : State := s.setPort (if s.cl.phase = .held then .deaf else .begun)

/-- TRANSACTION_END (R169). -/
def execTransactionEnd (s : State) : Host.Outcome State Fault Refusal := .next s.selectRise

/-- TRANSACTION_BEGIN (R169): select falls; where it was low it has risen before (log 4). -/
def execTransactionBegin (s : State) : Host.Outcome State Fault Refusal :=
  .next ((if s.ap.port = .high then s else s.selectRise).selectFall)

end Sys2Proof.Machine
end

