-- ==== Sys2Proof/Machine/Requests.lean ====
section
/-!
DEFINITION. Requests.lean: how a request reaches its block (R169, R170), UNKNOWN_REQUEST, RESTART, and the ten status reads with
their responses (R171 and the rules that name the fields).
-/

namespace Sys2Proof.Machine

/-! ### Decoding (R169, R170) -/

/-- The port reads a request: select is high and the request is a transaction of its own, or a transaction has begun and
nothing is decoded yet (R169, log 4). -/
def State.listens (s : State) : Bool := s.cl.phase != .held && (s.ap.port = .high || s.ap.port = .begun)

/-- The request is decoded and its response stands on data out (R169); a request that came with select high was a whole
transaction, and select is high again after it (log 4). -/
def State.respond (s : State) (r : Response) : State :=
  s.setAp { s.ap with port := if s.ap.port = .high then .high else .decoded, dataOut := r.bytes }

/-- Who may be asked: a status read in every phase after LOADING, any other request in RUN; a station request only at a
station (R170). -/
inductive RequestClass where
  | statusRead | listRead | change | stationChange
  deriving DecidableEq, Repr

/-- R170's tests 2 and 3: phase, then role. -/
def State.portBar (s : State) (k : RequestClass) : Option Response :=
  let gallery := s.cl.node.role = .gallery
  match k with
  | .statusRead => if s.awake then none else some .errPhase
  | .listRead => if !s.awake then some .errPhase else if gallery then some .errRole else none
  | .change => if s.running then none else some .errPhase
  | .stationChange => if !s.running then some .errPhase else if gallery then some .errRole else none

/-- A request with a code and length of Table 11-1: refused by the port, or handed to the block that owns it (R170). -/
def State.request (s : State) (k : RequestClass) (f : State → State × Response) : Host.Outcome State Fault Refusal :=
  if s.listens then
    match s.portBar k with
    | some r => .next (s.respond r)
    | none => .next ((f s).1.respond (f s).2)
  else .next s

/-- A read that changes nothing (R170). -/
def State.read (s : State) (f : State → Response) : Host.Outcome State Fault Refusal :=
  s.request .statusRead fun s => (s, f s)

/-- An accepted request: the owning block acts, then every block on what it changed; DONE. -/
def State.accept (s : State) (f : State → State) : State × Response := (settle s (f s) none [], .ok)

/-- UNKNOWN_REQUEST (R170): a code outside Table 11-1, or a length other than the table's, gives ERR_FORMAT. -/
def execUnknownRequest (code len : Byte) (s : State) : Host.Outcome State Fault Refusal :=
  .next (if s.listens && requestLength code.toNat != some len.toNat then s.respond .errFormat else s)

/-- RESTART (R179): DONE in every phase; the restart happens at the select rise, TRANSACTION_END (log 4). -/
def execRestart (s : State) : Host.Outcome State Fault Refusal :=
  .next (if s.listens then s.setAp { s.ap with port := .restartDecoded, dataOut := Response.ok.bytes } else s)

/-! ### Responses -/

/-- READ_NODE's own fields (R171). -/
def State.nodeFields (s : State) : List Byte :=
  b1 s.nodeId ++ b1 s.cl.node.role.code ++ b1 s.cl.phase.code ++ timeLeft s.now s.cl.listen ++ b2 s.faultSummary ++
    bb s.cl.invalid.isNone ++ o1 (s.cl.invalid.map (·.code)) ++ b1 s.cl.clampCount ++ o1 s.cl.firstClamp

/-- The fields of R31, in R171's order. -/
def State.fireFields (s : State) : List Byte :=
  b1 s.fl.gallery.code ++ b1 s.fl.cause.cause.code ++ o1 s.fl.cause.subject ++ o1 s.fl.cause.slot ++ o4 s.fl.cause.time ++
    timeLeft s.now s.fl.confirm ++ bb s.fl.walkActive ++ timeLeft s.now s.fl.walkTimer ++ b2 (bitsToNat s.fl.tested) ++
    s.fl.lastRecorded.flatMap fun t => o4 (t.map (· / Config.second))

/-- The fields of R60. -/
def State.lineFields (s : State) : List Byte :=
  bb s.lc.lineStuck ++ bb s.lc.lineNoisy ++ bb s.lc.collision ++ bb s.lc.duplicateId ++ bb s.lc.queueDiscard ++
    b1 s.lc.queue.length ++ b1 s.lc.noise.length

/-- The fields of R74 that READ_NODE returns. -/
def State.buildingFields (s : State) : List Byte :=
  b1 s.nt.mode.code ++ bb s.nt.evacuate ++ bb s.nt.orderHeard ++ bb s.nt.latch.isSome ++ o1 s.nt.latch

/-- READ_NODE (R171). -/
def State.nodeResponse (s : State) : Response :=
  .done (s.nodeFields ++ s.fireFields ++ s.lineFields ++ s.buildingFields)

/-- READ_CHANNEL (R24). The count is the good-sample count in FAULT, the sample count otherwise (log 18). d is m - b for a HEAT and an
UNUSED channel too, whose b is 0: DESIGN CHOICE, log 18. -/
def Channel.response (ch : Channel) : Response :=
  .done (b1 ch.cfg.kind.code ++ b1 ch.state.code ++ b2 ch.m4 ++ b2 ch.m ++ b2 ch.b ++ b2 ch.d ++ b1 ch.verify ++
    b1 (if ch.state = .fault then ch.goodCount else ch.sampleCount) ++ b1 ch.ring.length ++ o2 ch.ring.head? ++
    bb ch.driftLimit ++ bb ch.faultInAlarm)

/-- READ_DOOR (R104) of door `i`; an UNUSED door's state is coded 8 (R171). A contact, a feedback or a REX input that is still
unqualified is shown as FFh, as an absent field is: DESIGN CHOICE, log 15. -/
def Door.response (d : Door) (i now : Nat) : Response :=
  .done (b1 d.cfg.kind.code ++ bb d.cfg.magnet ++ bb d.cfg.feedback ++ bb d.cfg.remote ++ b1 d.cfg.pulseSeconds ++
    b2 d.cfg.limitSeconds ++ b1 (if d.cfg.kind = .unused then 8 else d.state.code) ++ o1 (d.contact.map (·.code)) ++
    o1 (d.feedback.map (·.code)) ++ o1 ((d.rexLevel i now).map fun p => if p then 0 else 1) ++ b1 d.lock.code ++
    b1 d.magnet.code ++ bb d.accessMark ++ timeLeft now d.accessTimer ++ timeLeft now d.openTimer ++
    timeLeft now d.jamTimer)

/-- The fields of a call in R112's order. -/
def Call.fields (c : Call) (src now : Nat) : List Byte :=
  b1 src ++ b1 c.kind.code ++ b1 c.base ++ b1 c.escalated ++ b1 c.current ++ b1 c.serial ++ bb (c.taker != 0) ++
    b1 c.taker ++ bb c.overdue ++ bb c.reminder ++ timeLeft now c.unanswered ++ timeLeft now c.attend ++
    timeLeft now c.reannounce

/-- A point's configuration and input; an UNUSED point reads INACTIVE (R110, R127). ACTIVE is 0, INACTIVE 1 (R111's order,
log 14); an unqualified input is FFh, as an absent field is (DESIGN CHOICE, log 15). -/
def Point.fields (p : Point) : List Byte :=
  b1 p.kind.code ++ bb p.level ++ b1 p.priority ++
    (if p.kind = .unused then b1 1 else o1 (p.input.map fun a => if a then 0 else 1))

/-- READ_CALL (R127). For a source that is no point, 8..16, the point's bytes are left out: DESIGN CHOICE, log 15.
The position in table order is counted from 0: DESIGN CHOICE, log 14. -/
def State.callResponse (s : State) (src : Nat) : Response :=
  .done ((match s.call src with
      | some c => bb true ++ c.fields src s.now
      | none => bb false ++ absent 16) ++
    b1 (s.serial src) ++ (if src < 8 then (s.point src).fields else []) ++ o1 (s.tableOrder.findIdx? (· = src)))

/-- READ_NEIGHBOUR (R74); a link door of NONE is coded 8, after 0..7 (log 14). -/
def Slot.response (k : Slot) (now : Nat) : Response :=
  if k.used then
    .done (b1 k.id ++ b1 (k.link.getD 8) ++ b1 k.cost ++ b1 k.presence.code ++ b1 k.offeredFire.code ++ b1 k.offeredF ++
      b1 k.offeredX ++ o1 k.h ++ bb k.offeredTest ++ timeLeft now k.deadline)
  else .done (b1 0 ++ absent 2 ++ b1 Presence.absent.code ++ absent 7)

/-- READ_ROUTE (R88). The two sums stand one pair after the other for the used slots alone, by ascending slot, without a slot's index and
with no place for an unused slot; before RUN they are those of the slots as they then stand: DESIGN CHOICE, log 33. -/
def State.routeResponse (s : State) : Response :=
  .done (b1 s.ru.f ++ b1 s.ru.xLocal ++ b1 s.ru.via.code ++ o1 s.ru.exitDoor ++ b1 s.ru.announcedX ++ bb s.isEvacuating ++
    o1 (evacCode s.ru.evacuating) ++ b1 s.cl.node.e ++
    (s.nt.slots.filter (·.used)).flatMap fun k => b1 k.fireSum ++ b1 (s.exitSum k))

/-- One sign in READ_SIGNALS (R157); an unused one is all ones after its first field (log 15). -/
def Sign.fields (g : Sign) : List Byte :=
  if g.used then
    bb true ++ b1 g.display.code ++ o1 (g.shown.map (·.code)) ++ bb g.lampLit ++ o2 g.flash ++ b1 g.noCurrent ++ bb g.fault
  else bb false ++ absent 7

/-- One strip in READ_SIGNALS (R157). The direction is absent in every mode but CHASE, in STEADY too: DESIGN CHOICE, log 36. -/
def Strip.fields (p : Strip) : List Byte :=
  if p.used then
    bb true ++ b1 p.mode.code ++ o1 (p.dir.map (·.code)) ++ b1 p.phase ++ o2 p.flash ++ o1 p.check ++ b4 (bitsToNat p.lit) ++
      o1 p.latch
  else bb false ++ absent 11

/-- READ_SIGNALS (R157). -/
def State.signalsResponse (s : State) : Response :=
  .done (s.sd.signs.flatMap (·.fields) ++ s.sd.strips.flatMap (·.fields) ++ b1 s.sd.sounder.code ++
    o1 (s.sd.cadence.map bit) ++ bb s.sounderOn ++ bb s.nt.latch.isSome)

/-- The second byte of a last result: the minute of a FAIL, the reason of an ABORTED (log 17). -/
def TestResult.detail : TestResult → Option Nat
  | .none | .pass => Option.none
  | .fail m => some m
  | .aborted reason => some reason.code

/-- READ_TEST (R167): battery LOW 0, GOOD 1; relay open 0, closed 1 (R159's orders, log 14); an
unqualified battery input is FFh, as an absent field is (DESIGN CHOICE, log 15). -/
def State.testResponse (s : State) : Response :=
  .done (b1 s.dt.state.code ++ o1 s.dt.requested ++ o1 s.dt.completed ++ timeLeft s.now s.dt.minute ++
    o1 (s.dt.cause.map (·.code)) ++ timeLeft s.now s.dt.suspend ++ b1 s.dt.last.code ++ o1 s.dt.last.detail ++
    bb s.dt.batteryFault ++ o1 (s.dt.battery.map fun low => if low then 0 else 1) ++ b1 (if s.relayOpen then 0 else 1) ++
    bb s.cl.node.nightOnly ++ bb s.cl.node.autoResume)

/-- An entry in R129's order, with the time left on its timers (R142). -/
def Entry.fields (e : Entry) (s : State) : List Byte :=
  b1 e.origin ++ b1 e.source ++ b1 e.kind.code ++ b1 e.priority ++ b1 e.serial ++ b1 e.state.code ++ b1 e.taker ++
    bb e.overdue ++ bb e.reminder ++ b4 e.inserted ++ b2 (e.age s.seconds) ++ timeLeft s.now e.expiry ++
    timeLeft s.now e.takeTimeout

/-- LIST_READ (R142). -/
def State.listResponse (s : State) (pos : Nat) : Response :=
  if 23 < pos then .errRange
  else
    .done (b1 s.al.length ++ match s.al[pos]? with
      | some e => e.fields s
      | none => absent 19)

/-- The entry of R172 as READ_REPORT returns it. -/
def Report.fields (r : Report) : List Byte :=
  b1 r.kind.code ++ b2 r.subject.toNat ++ b2 r.value.toNat ++ b4 r.time ++ bb r.overflow

/-- READ_REPORT (R172): the oldest entry is removed and returned. -/
def State.takeReport (s : State) : State × Response :=
  match s.ap.reports with
  | [] => (s, .done (absent 10))
  | r :: rs => (s.setAp { s.ap with reports := rs }, .done r.fields)

/-! ### The status reads -/

/-- READ_NODE (R171): the read clears QUEUE_DISCARD (R56). -/
def execReadNode (s : State) : Host.Outcome State Fault Refusal :=
  s.request .statusRead fun s => (s.setLc { s.lc with queueDiscard := false }, s.nodeResponse)

/-- READ_CHANNEL (R24). -/
def execReadChannel (c : Byte) (s : State) : Host.Outcome State Fault Refusal :=
  s.read fun s => if c.toNat < 16 then (s.channel c.toNat).response else .errRange

/-- READ_DOOR (R104). -/
def execReadDoor (d : Byte) (s : State) : Host.Outcome State Fault Refusal :=
  s.read fun s => if d.toNat < 8 then (s.door d.toNat).response d.toNat s.now else .errRange

/-- READ_CALL (R127). -/
def execReadCall (source : Byte) (s : State) : Host.Outcome State Fault Refusal :=
  s.read fun s => if source.toNat ≤ 16 then s.callResponse source.toNat else .errRange

/-- READ_NEIGHBOUR (R74). -/
def execReadNeighbour (slot : Byte) (s : State) : Host.Outcome State Fault Refusal :=
  s.read fun s => if slot.toNat < 8 then (s.slot slot.toNat).response s.now else .errRange

/-- READ_ROUTE (R88). -/
def execReadRoute (s : State) : Host.Outcome State Fault Refusal := s.read State.routeResponse

/-- READ_SIGNALS (R157). -/
def execReadSignals (s : State) : Host.Outcome State Fault Refusal := s.read State.signalsResponse

/-- READ_TEST (R167). -/
def execReadTest (s : State) : Host.Outcome State Fault Refusal := s.read State.testResponse

/-- LIST_READ (R142). -/
def execListRead (pos : Byte) (s : State) : Host.Outcome State Fault Refusal :=
  s.request .listRead fun s => (s, s.listResponse pos.toNat)

/-- READ_REPORT (R172). -/
def execReadReport (s : State) : Host.Outcome State Fault Refusal := s.request .statusRead State.takeReport

end Sys2Proof.Machine
end

