-- ==== Sys2Proof/Machine/HostChanges.lean ====
section
/-!
DEFINITION. HostChanges.lean: the requests that change state: station requests (R137 to R141), fire reset (R32), isolation (R21,
R22), walk test (R35, R38), door pulse (R100), lamps (R153, R154), duration test (R160 to R165).
-/

namespace Sys2Proof.Machine

/-! ### Station requests -/

/-- The entry a station request names, in the state it needs; or the refusal (R137, R138, R140). -/
def State.namedEntry (s : State) (origin source : Nat) (need : EntryState) : Entry ⊕ Response :=
  if origin = 0 ∨ 62 < origin ∨ 16 < source then .inr .errRange
  else
    match s.entry origin source with
    | none => .inr (.errState .noEntry)
    | some e => if e.state = need then .inl e else .inr (.errState e.state.reason)

/-- R137: the telegram is offered; when it is entered the entry becomes as given, else it is left and QUEUE_FULL answered. An
answer other than entered or discarded cannot come in RUN (log 25). -/
def State.offerFor (s : State) (body : Payload) (cls : Nat) (entered : State → State) : State × Response :=
  let r := s.offer body cls
  if r.2 = .entered then (entered r.1, .ok) else (r.1, .errState .queueFull)

/-- A TAKE or GIVEUP payload for an entry. -/
def Entry.ref (e : Entry) : RefPayload :=
  ⟨BitVec.ofNat 8 e.origin, BitVec.ofNat 8 e.source, BitVec.ofNat 8 e.serial⟩

/-- TAKE (R138). -/
def execTake (origin source : Byte) (s : State) : Host.Outcome State Fault Refusal :=
  s.request .stationChange fun s =>
    match s.namedEntry origin.toNat source.toNat .opened with
    | .inr r => (s, r)
    | .inl e => s.offerFor (.take e.ref) 1 fun t => t.relist { e with state := .taking }

/-- GIVEUP (R140). -/
def execGiveup (origin source : Byte) (s : State) : Host.Outcome State Fault Refusal :=
  s.request .stationChange fun s =>
    match s.namedEntry origin.toNat source.toNat .mine with
    | .inr r => (s, r)
    | .inl e => s.offerFor (.giveup e.ref) 1 fun t => t.relist { e with state := .opened }

/-- CLEAR (R140): the entry stays MINE. -/
def execClear (origin source : Byte) (s : State) : Host.Outcome State Fault Refusal :=
  s.request .stationChange fun s =>
    match s.namedEntry origin.toNat source.toNat .mine with
    | .inr r => (s, r)
    | .inl e =>
      s.offerFor (.clear ⟨e.ref.origin, e.ref.source, e.ref.serial, BitVec.ofNat 8 s.nodeId⟩) 1 fun t => t

/-- The operands of an ORDER request are in range (R141). -/
def orderInRange (code target door : Byte) : Bool :=
  code.toNat ≤ 6 && (1 ≤ target.toNat && target.toNat ≤ 63) && (code.toNat != 6 || door.toNat ≤ 7)

/-- The payload of an ORDER request: the door parameter is carried for DOOR_PULSE only (R141). -/
def orderPayload (code target door : Byte) : OrderPayload :=
  ⟨code, target, if code.toNat = 6 then door else 0⟩

/-- A flag order applied by the station to its own flags; any other code does nothing there (R70). -/
def State.applyOwnOrder (s : State) (code : Nat) : State :=
  match flagOrderOf code with
  | some o => s.applyFlag o s.nodeId
  | none => s

/-- ORDER (R141, R70). -/
def execOrder (code target door : Byte) (s : State) : Host.Outcome State Fault Refusal :=
  s.request .stationChange fun s =>
    if orderInRange code target door then
      s.offerFor (.order (orderPayload code target door)) 0 fun t => settle s (t.applyOwnOrder code.toNat) none []
    else (s, .errRange)

/-! ### Fire reset, channels, walk test -/

/-- R32: refused while a FIRE-kind point is active, else accepted; `source` is HOST (0) or the sender. -/
def State.decideReset (s : State) (source target : Nat) (clearsHeld : Bool) : State :=
  match s.activeFirePoint with
  | some p => s.report .resetRefused p source
  | none => s.acceptReset source target clearsHeld

/-- FIRE_RESET (R32). -/
def execFireReset (s : State) : Host.Outcome State Fault Refusal :=
  s.request .change fun s =>
    (settle s (s.decideReset 0 s.nodeId false) none [], if s.activeFirePoint.isSome then .errActive else .ok)

/-- R21: a channel enters ISOLATED; a DRIFT_LIMIT it held is reported cleared (R10). -/
def State.isolateChannel (s : State) (c : Nat) : State :=
  let ch := s.channel c
  ((s.setChannel c ch.isolate).reportIf ch.driftLimit .driftLimit c 0).report .channelIsolated c ch.state.code

/-- ISOLATE (R21). -/
def execIsolate (c : Byte) (s : State) : Host.Outcome State Fault Refusal :=
  s.request .change fun s =>
    if 15 < c.toNat then (s, .errRange)
    else
      let ch := s.channel c.toNat
      if ch.cfg.kind = .unused || ch.state = .alarm then (s, .errState .none)
      else if ch.state = .isolated then (s, .ok)
      else s.accept fun s => s.isolateChannel c.toNat

/-- R22: a channel is restored. -/
def State.restoreChannel (s : State) (c : Nat) : State :=
  let ch := (s.channel c).restore s.now
  (s.setChannel c ch).report .channelRestored c ch.state.code

/-- RESTORE (R22). -/
def execRestore (c : Byte) (s : State) : Host.Outcome State Fault Refusal :=
  s.request .change fun s =>
    if 15 < c.toNat then (s, .errRange)
    else if (s.channel c.toNat).cfg.kind = .unused || (s.channel c.toNat).state != .isolated then (s, .errState .none)
    else s.accept fun s => s.restoreChannel c.toNat

/-- R35: the duration of an active walk test is restarted. -/
def State.extendWalk (s : State) (min : Nat) : State :=
  s.setFl { s.fl with walkTimer := s.after (min * Config.minute) }

/-- WALK_START (R35). -/
def execWalkStart (min : Byte) (s : State) : Host.Outcome State Fault Refusal :=
  s.request .change fun s =>
    if min.toNat = 0 ∨ 60 < min.toNat then (s, .errRange)
    else if s.ru.f != 15 then (s, .errState .none)
    else if s.fl.walkActive then (s.extendWalk min.toNat, .ok)
    else if s.fl.gallery != .quiet then (s, .errState .none)
    else s.accept fun s => s.beginWalk min.toNat

/-- WALK_STOP (R38). -/
def execWalkStop (s : State) : Host.Outcome State Fault Refusal :=
  s.request .change fun s => s.accept fun s => s.endWalk .host

/-! ### Doors and lamps -/

/-- R100: an access pulse at a door that is neither UNUSED nor JAMMED. -/
def State.pulseDoor (s : State) (d : Nat) : State := s.moveDoor d fun door => door.grant s.now

/-- DOOR_PULSE (R100). -/
def execDoorPulse (d : Byte) (s : State) : Host.Outcome State Fault Refusal :=
  s.request .change fun s =>
    if 7 < d.toNat then (s, .errRange)
    else if (s.door d.toNat).cfg.kind = .unused || (s.door d.toNat).state = .jammed then (s, .errState .none)
    else (s.pulseDoor d.toNat, .ok)

/-- LAMP_CLEAR (R154). -/
def execLampClear (s : State) : Host.Outcome State Fault Refusal :=
  s.request .change fun s => (s.clearLamps, .ok)

/-- LAMP_CHECK (R153). Strip 0 begins its step, and reports, before strip 1: DESIGN CHOICE, log 31. -/
def execLampCheck (s : State) : Host.Outcome State Fault Refusal :=
  s.request .change fun s =>
    if s.isEvacuating then (s, .errState .none) else s.accept fun s => s.forEach 2 checkStrip

/-! ### Duration test -/

/-- TEST_START (R160). -/
def execTestStart (min : Byte) (s : State) : Host.Outcome State Fault Refusal :=
  s.request .change fun s =>
    if min.toNat = 0 ∨ 180 < min.toNat then (s, .errRange)
    else
      match s.startBar with
      | some r => (s, .errState r)
      | none => s.accept fun s => s.startTest min.toNat

/-- TEST_SUSPEND (R162). -/
def execTestSuspend (s : State) : Host.Outcome State Fault Refusal :=
  s.request .change fun s =>
    match s.dt.state with
    | .idle => (s, .errState .idle)
    | .suspended => (s, .ok)
    | .running => s.accept fun s => s.suspendTest .host

/-- TEST_RESUME (R164). -/
def execTestResume (s : State) : Host.Outcome State Fault Refusal :=
  s.request .change fun s =>
    match s.resumeBar with
    | some r => (s, .errState r)
    | none => s.accept fun s => s.resumeTest .host

/-- TEST_ABORT (R165). -/
def execTestAbort (s : State) : Host.Outcome State Fault Refusal :=
  s.request .change fun s =>
    if s.dt.state = .idle then (s, .errState .idle)
    else s.accept fun s => s.endTest (.aborted .host) none

end Sys2Proof.Machine
end

