-- ==== Sys2Proof/Machine/LineEvents.lean ====
section
/-!
DEFINITION. LineEvents.lean: sending (CONTEND, LOSS, LINE_COLLISION, TRANSMISSION_COMPLETION), line faults, the arrivals of telegrams
with their dispatch (R59), REFRESH_TIMER_EXPIRY and FRESHNESS_DEADLINE_EXPIRY (chapters 3 and 4).
-/

namespace Sys2Proof.Machine

/-! ### Sending -/

/-- CONTEND (R49): at an idle, the head of the queue is sent. -/
def execContend (s : State) : Host.Outcome State Fault Refusal :=
  s.own fun s => if s.mayContend then s.setLc (s.lc.begin s.nodeId) else s

/-- LOSS (R50); without a telegram of its own on the line there is nothing to lose (log 26). -/
def execLoss (s : State) : Host.Outcome State Fault Refusal :=
  s.own fun s => if s.lc.sending.isSome then s.setLc s.lc.lose else s

/-- LINE_COLLISION (R51). -/
def execLineCollision (s : State) : Host.Outcome State Fault Refusal :=
  s.event fun s => if s.lc.sending.isSome then s.collide else s

/-- R52: a completion handed on by kind. -/
def State.handCompletion (s : State) (body : Payload) : State :=
  match body with
  | .state _ => s.startRefresh
  | .take p => s.takeCompleted p.origin.toNat p.source.toNat p.serial.toNat
  | .order p => s.applyOwnOrder p.code.toNat
  | .call _ | .clear _ | .giveup _ => s

/-- TRANSMISSION_COMPLETION (R52). -/
def execTransmissionCompletion (s : State) : Host.Outcome State Fault Refusal :=
  s.event fun s =>
    match s.lc.sending with
    | some t => s.completeSending.handCompletion t.body
    | none => s

/-! ### Line faults -/

/-- What the telegram that ends at this idle brings: nothing while the node sends (R46), and nothing before LOADING has ended (R61). A deaf
node receives it if its start bit came when the node hears one again, and ignores it if it was in progress when the node left LOADING (R61) or
is the rest of the traffic in which the node collided (R51). The clock at its end and its span tell which; between the span's bounds it is a
free value (log 38). Either way the line is now idle (R46). -/
def State.reception (s : State) (span : Span) (brought : State → State) : Host.Outcome State Fault Refusal :=
  .next
    (if !s.awake || s.lc.sending.isSome then s
    else
      match s.lc.deaf with
      | none => brought s
      | some hears =>
        if hears + span.most * Config.bitTime ≤ s.now then brought s.idle
        else if s.now < hears + span.fewest * Config.bitTime then s.idle
        else if Config.freeIdle s.freeCount then brought s.idleChosen
        else s.idleChosen)

/-- STUCK_PERIOD_START (R48). -/
def execStuckPeriodStart (s : State) : Host.Outcome State Fault Refusal := s.event State.stuckBegin

/-- STUCK_PERIOD_END (R48). -/
def execStuckPeriodEnd (s : State) : Host.Outcome State Fault Refusal := s.own State.stuckEnd

/-- STUCK_CLEAR_TIMER_EXPIRY (R48). -/
def execStuckClearTimerExpiry (s : State) : Host.Outcome State Fault Refusal := s.expiry s.lc.stuckClear State.stuckExpire

/-- CHECK_ERROR (R46, R47): whatever its cause, the telegram is discarded and the error entered in the noise window; a node that does
not receive the telegram finds no error in it. -/
def execCheckError (_why : CheckErrorCause) (s : State) : Host.Outcome State Fault Refusal :=
  s.reception errorSpan fun s => settle s s.noteCheckError none []

/-- NOISE_WINDOW_AGE_OUT (R47). -/
def execNoiseWindowAgeOut (s : State) : Host.Outcome State Fault Refusal := s.expiry s.noiseDeadline State.ageNoise

/-- TELEGRAM_DISCARDED (R44, R46): discarded without dispatch, and no check error. -/
def execTelegramDiscarded (_why : DiscardCause) (s : State) : Host.Outcome State Fault Refusal := s.reception discardSpan id

/-- DUPLICATE_ID (R53); a node with id 0 receives no such telegram. -/
def execDuplicateId (kind : TelegramKind) (s : State) : Host.Outcome State Fault Refusal :=
  s.reception (telegramSpan kind.length) fun s => if s.nodeId = 0 then s else settle s (s.noteDuplicate kind.code) none []

/-! ### Dispatch (R59) -/

/-- An ORDER is for this node: its target is this node's id or 63 (R59). -/
def State.addressed (s : State) (target : Nat) : Bool := target = s.nodeId || target = 63

/-- R101: the reasons of PULSE_DENIED, coded in the order of R101's table. -/
inductive PulseDenial where
  | notPermitted | jammed
  deriving DecidableEq, Repr

def PulseDenial.code : PulseDenial → Nat
  | .notPermitted => 0 | .jammed => 1

/-- R101: why an ORDER DOOR_PULSE cannot act on a door. -/
def Door.pulseDenial (d : Door) : Option PulseDenial :=
  if d.cfg.kind = .unused || !d.cfg.remote then some .notPermitted
  else if d.state = .jammed then some .jammed
  else none

/-- R101: an ORDER DOOR_PULSE dispatched to the doors. -/
def State.orderPulse (s : State) (src door : Nat) : State :=
  match (s.door door).pulseDenial with
  | some r => s.report .pulseDenied door (pack src r.code)
  | none => s.pulseDoor door

/-- An ORDER dispatched by its code and target (R59, R68, R72, R32, R101). -/
def State.hearDirected (s : State) (src : Nat) (p : OrderPayload) : State :=
  match flagOrderOf p.code.toNat with
  | some o => s.applyFlag o src
  | none =>
    if s.addressed p.target.toNat then
      match p.code.toNat with
      | 4 => s.silence src
      | 5 => s.decideReset src p.target.toNat (p.target.toNat = 63)
      | _ => s.orderPulse src p.door.toNat
    else s

/-- R59: a good telegram dispatched by kind. A STATE that fills a slot and is adopted reports the slot first: DESIGN CHOICE, log 31. -/
def State.dispatch (s : State) (src : Nat) (body : Payload) : State :=
  match body with
  | .state p => (s.takeState src p).adopt src p
  | .call p => if s.cl.node.role = .station then s.hearCall src p else s
  | .clear p =>
    if p.origin.toNat = src then
      if s.cl.node.role = .station then s.hearClear src p.source.toNat p.serial.toNat p.clearedBy.toNat else s
    else if p.origin.toNat = s.nodeId then s.decideClear src p.source.toNat p.serial.toNat
    else s
  | .take p => if p.origin.toNat = s.nodeId then s.decideTake src p.source.toNat p.serial.toNat else s
  | .giveup p => if p.origin.toNat = s.nodeId then s.decideGiveup src p.source.toNat p.serial.toNat else s
  | .order p => s.hearDirected src p

/-- R66: the neighbour id handed to the duration tester with a STATE that carries TEST_RUNNING true into a slot. -/
def State.testingPeer (s : State) (src : Nat) (body : Payload) : Option Nat :=
  match body with
  | .state p => if p.testRunning && (s.slotOf src).isSome then some src else none
  | _ => none

/-- A telegram arrives with a good check and a known kind: a malformed one is discarded (R44), one with this node's own id is a
duplicate (R53), any other is dispatched (R59), whatever row brought it (log 9). -/
def State.arrival (s : State) (src : BitVec 6) (body : Payload) : Host.Outcome State Fault Refusal :=
  s.reception (telegramSpan body.length) fun s =>
    if !(wfSource src && body.wf) then s
    else if src.toNat = s.nodeId then settle s (s.noteDuplicate body.kindCode) none []
    else settle s (s.dispatch src.toNat body) (s.testingPeer src.toNat body) []

/-! ### Arrivals -/

/-- STATE_ARRIVAL (R64, R69). -/
def execStateArrival (src : BitVec 6) (p : StatePayload) (s : State) : Host.Outcome State Fault Refusal :=
  s.arrival src (.state p)

/-- CALL_ARRIVAL (R131 to R134). -/
def execCallArrival (src : BitVec 6) (p : CallPayload) (s : State) : Host.Outcome State Fault Refusal :=
  s.arrival src (.call p)

/-- CLEAR_ARRIVAL (R135): an origin's clearing. -/
def execClearArrival (src : BitVec 6) (p : ClearPayload) (s : State) : Host.Outcome State Fault Refusal :=
  s.arrival src (.clear p)

/-- CLEAR_REQUEST_ARRIVAL (R125): a station's request. -/
def execClearRequestArrival (src : BitVec 6) (p : ClearPayload) (s : State) : Host.Outcome State Fault Refusal :=
  s.arrival src (.clear p)

/-- TAKE_ARRIVAL (R122). -/
def execTakeArrival (src : BitVec 6) (p : RefPayload) (s : State) : Host.Outcome State Fault Refusal :=
  s.arrival src (.take p)

/-- GIVEUP_ARRIVAL (R123). -/
def execGiveupArrival (src : BitVec 6) (p : RefPayload) (s : State) : Host.Outcome State Fault Refusal :=
  s.arrival src (.giveup p)

/-- ORDER_MODE_DAY (R68). -/
def execOrderModeDay (src : BitVec 6) (target : Byte) (s : State) : Host.Outcome State Fault Refusal :=
  s.arrival src (.order ⟨0, target, 0⟩)

/-- ORDER_MODE_NIGHT (R68). -/
def execOrderModeNight (src : BitVec 6) (target : Byte) (s : State) : Host.Outcome State Fault Refusal :=
  s.arrival src (.order ⟨1, target, 0⟩)

/-- ORDER_EVACUATE_ON (R68). -/
def execOrderEvacuateOn (src : BitVec 6) (target : Byte) (s : State) : Host.Outcome State Fault Refusal :=
  s.arrival src (.order ⟨2, target, 0⟩)

/-- ORDER_EVACUATE_OFF (R68). -/
def execOrderEvacuateOff (src : BitVec 6) (target : Byte) (s : State) : Host.Outcome State Fault Refusal :=
  s.arrival src (.order ⟨3, target, 0⟩)

/-- ORDER_SILENCE (R72). -/
def execOrderSilence (src : BitVec 6) (target : Byte) (s : State) : Host.Outcome State Fault Refusal :=
  s.arrival src (.order ⟨4, target, 0⟩)

/-- ORDER_FIRE_RESET (R32). -/
def execOrderFireReset (src : BitVec 6) (target : Byte) (s : State) : Host.Outcome State Fault Refusal :=
  s.arrival src (.order ⟨5, target, 0⟩)

/-- ORDER_DOOR_PULSE (R101). -/
def execOrderDoorPulse (src : BitVec 6) (target door : Byte) (s : State) : Host.Outcome State Fault Refusal :=
  s.arrival src (.order ⟨6, target, door⟩)

/-! ### Timers of the line and the neighbour table -/

/-- REFRESH_TIMER_EXPIRY (R58). -/
def execRefreshTimerExpiry (s : State) : Host.Outcome State Fault Refusal :=
  s.expiry s.lc.refresh fun s => (s.offerState s.refreshClass).startRefresh

/-- R65: a slot falls silent, and is reported with its held fire state. -/
def State.loseSlot (s : State) (k : Nat) : State :=
  (s.setSlot k (s.slot k).fallSilent).report .neighbourSilent k (s.slot k).fire.code

/-- FRESHNESS_DEADLINE_EXPIRY (R65). -/
def execFreshnessDeadlineExpiry (slot : Fin 8) (s : State) : Host.Outcome State Fault Refusal :=
  s.expiry (s.slot slot).deadline fun s => s.loseSlot slot

end Sys2Proof.Machine
end

