-- ==== Sys2Proof/Machine/Dispatch.lean ====
section
/-! DEFINITION. Dispatch.lean: one arm per command, each a direct call of its meaning. -/

namespace Sys2Proof.Machine

/-- A command's effect on everything but the queue. -/
def exec (i : Instr) (s : State) : Host.Outcome State Fault Refusal :=
  match i with
  | .powerUp => Sys2Proof.Machine.execPowerUp s
  | .resetPin => Sys2Proof.Machine.execResetPin s
  | .configReadComplete bytes strap => Sys2Proof.Machine.execConfigReadComplete bytes strap s
  | .listenTimerExpiry => Sys2Proof.Machine.execListenTimerExpiry s
  | .transactionEnd => Sys2Proof.Machine.execTransactionEnd s
  | .unknownRequest code len => Sys2Proof.Machine.execUnknownRequest code len s
  | .readNode => Sys2Proof.Machine.execReadNode s
  | .readChannel c => Sys2Proof.Machine.execReadChannel c s
  | .readDoor d => Sys2Proof.Machine.execReadDoor d s
  | .readCall source => Sys2Proof.Machine.execReadCall source s
  | .readNeighbour slot => Sys2Proof.Machine.execReadNeighbour slot s
  | .readRoute => Sys2Proof.Machine.execReadRoute s
  | .readSignals => Sys2Proof.Machine.execReadSignals s
  | .readTest => Sys2Proof.Machine.execReadTest s
  | .listRead pos => Sys2Proof.Machine.execListRead pos s
  | .readReport => Sys2Proof.Machine.execReadReport s
  | .take origin source => Sys2Proof.Machine.execTake origin source s
  | .giveup origin source => Sys2Proof.Machine.execGiveup origin source s
  | .clear origin source => Sys2Proof.Machine.execClear origin source s
  | .order code target door => Sys2Proof.Machine.execOrder code target door s
  | .fireReset => Sys2Proof.Machine.execFireReset s
  | .isolate c => Sys2Proof.Machine.execIsolate c s
  | .restore c => Sys2Proof.Machine.execRestore c s
  | .walkStart min => Sys2Proof.Machine.execWalkStart min s
  | .walkStop => Sys2Proof.Machine.execWalkStop s
  | .doorPulse d => Sys2Proof.Machine.execDoorPulse d s
  | .lampClear => Sys2Proof.Machine.execLampClear s
  | .lampCheck => Sys2Proof.Machine.execLampCheck s
  | .testStart min => Sys2Proof.Machine.execTestStart min s
  | .testSuspend => Sys2Proof.Machine.execTestSuspend s
  | .testResume => Sys2Proof.Machine.execTestResume s
  | .testAbort => Sys2Proof.Machine.execTestAbort s
  | .restart => Sys2Proof.Machine.execRestart s
  | .sampleArrival c code odd => Sys2Proof.Machine.execSampleArrival c code odd s
  | .oddSlotGrant => Sys2Proof.Machine.execOddSlotGrant s
  | .driftTimerExpiry => Sys2Proof.Machine.execDriftTimerExpiry s
  | .rateTimerExpiry => Sys2Proof.Machine.execRateTimerExpiry s
  | .holdTimerExpiry c => Sys2Proof.Machine.execHoldTimerExpiry c s
  | .confirmDelayExpiry => Sys2Proof.Machine.execConfirmDelayExpiry s
  | .walkDurationExpiry => Sys2Proof.Machine.execWalkDurationExpiry s
  | .contend => Sys2Proof.Machine.execContend s
  | .loss => Sys2Proof.Machine.execLoss s
  | .lineCollision => Sys2Proof.Machine.execLineCollision s
  | .transmissionCompletion => Sys2Proof.Machine.execTransmissionCompletion s
  | .stuckPeriodStart => Sys2Proof.Machine.execStuckPeriodStart s
  | .stuckPeriodEnd => Sys2Proof.Machine.execStuckPeriodEnd s
  | .stuckClearTimerExpiry => Sys2Proof.Machine.execStuckClearTimerExpiry s
  | .checkError why => Sys2Proof.Machine.execCheckError why s
  | .noiseWindowAgeOut => Sys2Proof.Machine.execNoiseWindowAgeOut s
  | .telegramDiscarded why => Sys2Proof.Machine.execTelegramDiscarded why s
  | .duplicateId kind => Sys2Proof.Machine.execDuplicateId kind s
  | .stateArrival src p => Sys2Proof.Machine.execStateArrival src p s
  | .callArrival src p => Sys2Proof.Machine.execCallArrival src p s
  | .clearArrival src p => Sys2Proof.Machine.execClearArrival src p s
  | .clearRequestArrival src p => Sys2Proof.Machine.execClearRequestArrival src p s
  | .takeArrival src p => Sys2Proof.Machine.execTakeArrival src p s
  | .giveupArrival src p => Sys2Proof.Machine.execGiveupArrival src p s
  | .orderModeDay src target => Sys2Proof.Machine.execOrderModeDay src target s
  | .orderModeNight src target => Sys2Proof.Machine.execOrderModeNight src target s
  | .orderEvacuateOn src target => Sys2Proof.Machine.execOrderEvacuateOn src target s
  | .orderEvacuateOff src target => Sys2Proof.Machine.execOrderEvacuateOff src target s
  | .orderSilence src target => Sys2Proof.Machine.execOrderSilence src target s
  | .orderFireReset src target => Sys2Proof.Machine.execOrderFireReset src target s
  | .orderDoorPulse src target door => Sys2Proof.Machine.execOrderDoorPulse src target door s
  | .refreshTimerExpiry => Sys2Proof.Machine.execRefreshTimerExpiry s
  | .freshnessDeadlineExpiry slot => Sys2Proof.Machine.execFreshnessDeadlineExpiry slot s
  | .contactFirstQualified d value => Sys2Proof.Machine.execContactFirstQualified d value s
  | .feedbackFirstQualified d value => Sys2Proof.Machine.execFeedbackFirstQualified d value s
  | .doorOpening d => Sys2Proof.Machine.execDoorOpening d s
  | .doorShutting d => Sys2Proof.Machine.execDoorShutting d s
  | .feedbackChange d value => Sys2Proof.Machine.execFeedbackChange d value s
  | .rexPress d => Sys2Proof.Machine.execRexPress d s
  | .accessPulseExpiry d => Sys2Proof.Machine.execAccessPulseExpiry d s
  | .openTimerExpiry d => Sys2Proof.Machine.execOpenTimerExpiry d s
  | .jamComparisonExpiry d => Sys2Proof.Machine.execJamComparisonExpiry d s
  | .callPointPress p => Sys2Proof.Machine.execCallPointPress p s
  | .firePointLevelChange p active => Sys2Proof.Machine.execFirePointLevelChange p active s
  | .attendantKeyTurn => Sys2Proof.Machine.execAttendantKeyTurn s
  | .unansweredTimerExpiry source => Sys2Proof.Machine.execUnansweredTimerExpiry source s
  | .attendTimerExpiry source => Sys2Proof.Machine.execAttendTimerExpiry source s
  | .reannounceTimerExpiry source => Sys2Proof.Machine.execReannounceTimerExpiry source s
  | .entryExpiry origin source => Sys2Proof.Machine.execEntryExpiry origin source s
  | .takeTimeoutExpiry origin source => Sys2Proof.Machine.execTakeTimeoutExpiry origin source s
  | .signStepExpiry sense => Sys2Proof.Machine.execSignStepExpiry sense s
  | .stripStepExpiry k sense => Sys2Proof.Machine.execStripStepExpiry k sense s
  | .cadenceTimerExpiry => Sys2Proof.Machine.execCadenceTimerExpiry s
  | .minuteTimerExpiry => Sys2Proof.Machine.execMinuteTimerExpiry s
  | .batteryLowChange low => Sys2Proof.Machine.execBatteryLowChange low s
  | .suspendTimerExpiry => Sys2Proof.Machine.execSuspendTimerExpiry s
  | .resetPinAsserted => Sys2Proof.Machine.execResetPinAsserted s
  | .transactionBegin => Sys2Proof.Machine.execTransactionBegin s

end Sys2Proof.Machine
end

