-- ==== Sys2Proof/Machine/Step.lean ====
section
/-! DEFINITION. Step.lean: the command at the front of the queue is taken; with none waiting the part's clock runs on. -/

namespace Sys2Proof.Machine

/-- One unit of the part's time passes; in restart and in LOADING no time since restart is counted (R177; log 1). -/
def State.tick (s : State) : State := if s.awake then s.setNow (s.now + 1) else s

/-- The front command is executed on the state with the queue's rest; an empty queue lets time pass (DESIGN CHOICE, log 1). -/
def step (s : State) : Host.Outcome State Fault Refusal :=
  match s.pending with
  | [] => .next s.tick
  | c :: cs => exec c (s.setPending cs)

/-- The state with the command that a word spells at the front of its queue; no word spells one (log 29). -/
def State.withFetchWord (s : State) (nbits w : Nat) : State :=
  match decodeTableWord nbits w with
  | none => s
  | some c => s.setPending (c :: s.pending)

end Sys2Proof.Machine
end

