-- ==== Sys2Proof/Safety.lean ====
section
/-!
DEFINITION. Safety.lean: what stays true of the block whatever is commanded (sizes, bounds, the line controller, the gallery fire state, the
route record, the door drives, the signals, the silence latch, call priorities, the duration test, the last STATE offered), and the words in which a
command's effect is stated: that it completes, what its consequences in other blocks may touch, what it reports.
-/

namespace Sys2Proof.Machine

/-! ### Effects -/

/-- Command `c` completes at `s`, in a next state of which `P` holds. -/
def Completes (c : Instr) (s : State) (P : State → Prop) : Prop := ∃ t, exec c s = .next t ∧ P t

/-- Telegrams offered one after another with their classes, each entered, collapsed or discarded as R54 to R56 decide. -/
def LineController.offerAll (lc : LineController) (offered : List (Payload × Nat)) : LineController :=
  offered.foldl (fun lc o => (lc.offer true o.1 o.2).1) lc

/-- `t` is `u` but for what the other blocks do on the changes handed to them at the same event (00_scope.md 3.5): phase, fire logic,
route, last STATE offered and refresh timer, silence latch, doors, calls, signals, duration test. The transmit queue is `u`'s after
offers, the report queue `u`'s after reports. Channels, slots, building flags, line conditions, inputs, attention list, configuration,
clock, port and queue are those of `u`. -/
def Consequent (u t : State) : Prop :=
  ∃ phase listen drift rate fl ru offered last refresh latch doors calls serials sd dt marker reported free,
    t = { u with
      cl := { u.cl with phase := phase, listen := listen }
      ds := { u.ds with drift := drift, rate := rate }
      fl := fl
      ru := ru
      lc := { u.lc.offerAll offered with lastState := last, refresh := refresh }
      nt := { u.nt with latch := latch }
      doors := doors
      cc := { u.cc with calls := calls, serials := serials }
      sd := sd
      dt := dt
      marker := marker
      ap := { u.ap with reports := List.foldl queueReport u.ap.reports reported }
      freeCount := free }

/-- `t` is `u` but for calls, offers to the line and reports: a door alarm's call (R117), the node-fault call where a first fault
member was set (R118), a STATE where the duration test's state changed (R57). -/
def CallConsequent (u t : State) : Prop :=
  ∃ calls serials offered last reported,
    t = { u with
      cc := { u.cc with calls := calls, serials := serials }
      lc := { u.lc.offerAll offered with lastState := last }
      ap := { u.ap with reports := List.foldl queueReport u.ap.reports reported } }

/-- Queue `q` became `r` by offers of reports alone (R172). -/
def Extends (q r : List Report) : Prop := ∃ offered : List Report, r = offered.foldl queueReport q

/-- From `u` to `t` reports were offered, this one first. Where other blocks report at the same event too, that the owner of the
event comes first is the model's order (log 7). -/
def Reports (u : State) (kind : ReportKind) (subject value : Nat) (t : State) : Prop :=
  Extends (u.report kind subject value).ap.reports t.ap.reports

/-- From `u` to `t` reports were offered, the first of them being this one where `c` holds; as first, by the model's order (log 7). -/
def ReportsIf (c : Bool) (u : State) (kind : ReportKind) (subject value : Nat) (t : State) : Prop :=
  Extends (u.reportIf c kind subject value).ap.reports t.ap.reports

/-- From `s` to `t` reports were offered, this one among them, whatever its place, with the time at which `t` stands. -/
def Reported (s : State) (kind : ReportKind) (subject value : Nat) (t : State) : Prop :=
  ∃ before, Extends s.ap.reports before ∧
    Extends
      (queueReport before ⟨kind, BitVec.ofNat 16 subject, BitVec.ofNat 16 value, t.now / Config.second, false⟩)
      t.ap.reports

/-- Converter slot `n` has ended with channel `c`'s record as given (R3, log 3). -/
def State.sampledAs (s : State) (c n : Nat) (ch : Channel) : State :=
  { s with
    now := max s.now (slotEnd n)
    ds := { s.ds with channels := s.ds.channels.set c ch, nextSlot := n + 1, grant := none } }

/-- A record entering REFILL, or SETTLE when it has never settled (R8). -/
def Channel.Refilled (ch after : Channel) : Prop :=
  after = { ch with
    state := if ch.settled = true then .refill else .settle
    sampleCount := 0
    ring := []
    hold := none
    verify := 0 }

/-- Call `c` stands in the table at its source and has been announced: a CALL of class 1 with its fields has been offered, and its
re-announce timer runs from 16 s while PENDING and 32 s while TAKEN (R119). -/
def State.announced (s : State) (src : Nat) (c : Call) : State :=
  { s with
    cc := { s.cc with
      calls := s.cc.calls.set src
        (some { c with reannounce := some (s.now + (if c.taker = 0 then 16 else 32) * Config.second) }) }
    lc := (s.lc.offer s.offersOpen (.call (c.payload src)) 1).1 }

/-- What a command is to the port and to LOADING (R169, R170, R177). -/
inductive CommandGroup where
  /-- Restarts, the end of the image's read, the bounds of a transaction, RESTART and UNKNOWN_REQUEST. -/
  | start
  /-- A status read of any node. -/
  | statusRead
  /-- LIST_READ, the status read of a station. -/
  | stationRead
  /-- Any other request of any node. -/
  | change
  /-- Any other request of a station. -/
  | stationChange
  /-- An event of the line, the field or the part's timers. -/
  | event
  deriving DecidableEq, Repr

/-- The group of each command. -/
def commandGroup : Instr → CommandGroup
  | .powerUp | .resetPin | .configReadComplete _ _ | .transactionEnd | .unknownRequest _ _ | .restart
  | .resetPinAsserted | .transactionBegin => .start
  | .readNode | .readChannel _ | .readDoor _ | .readCall _ | .readNeighbour _ | .readRoute | .readSignals
  | .readTest | .readReport => .statusRead
  | .listRead _ => .stationRead
  | .fireReset | .isolate _ | .restore _ | .walkStart _ | .walkStop | .doorPulse _ | .lampClear | .lampCheck
  | .testStart _ | .testSuspend | .testResume | .testAbort => .change
  | .take _ _ | .giveup _ _ | .clear _ _ | .order _ _ _ => .stationChange
  | .listenTimerExpiry | .sampleArrival _ _ _ | .oddSlotGrant | .driftTimerExpiry | .rateTimerExpiry
  | .holdTimerExpiry _ | .confirmDelayExpiry | .walkDurationExpiry | .contend | .loss | .lineCollision
  | .transmissionCompletion | .stuckPeriodStart | .stuckPeriodEnd | .stuckClearTimerExpiry | .checkError _
  | .noiseWindowAgeOut | .telegramDiscarded _ | .duplicateId _ | .stateArrival _ _ | .callArrival _ _
  | .clearArrival _ _ | .clearRequestArrival _ _ | .takeArrival _ _ | .giveupArrival _ _ | .orderModeDay _ _
  | .orderModeNight _ _ | .orderEvacuateOn _ _ | .orderEvacuateOff _ _ | .orderSilence _ _ | .orderFireReset _ _
  | .orderDoorPulse _ _ _ | .refreshTimerExpiry | .freshnessDeadlineExpiry _ | .contactFirstQualified _ _
  | .feedbackFirstQualified _ _ | .doorOpening _ | .doorShutting _ | .feedbackChange _ _ | .rexPress _
  | .accessPulseExpiry _ | .openTimerExpiry _ | .jamComparisonExpiry _ | .callPointPress _
  | .firePointLevelChange _ _ | .attendantKeyTurn | .unansweredTimerExpiry _ | .attendTimerExpiry _
  | .reannounceTimerExpiry _ | .entryExpiry _ _ | .takeTimeoutExpiry _ _ | .signStepExpiry _
  | .stripStepExpiry _ _ | .cadenceTimerExpiry | .minuteTimerExpiry | .batteryLowChange _ | .suspendTimerExpiry => .event

/-- The commands of the door inputs, the door timers and the access pulses: what they do to a door is their own. -/
def actsOnDoors : Instr → Bool
  | .contactFirstQualified _ _ | .feedbackFirstQualified _ _ | .doorOpening _ | .doorShutting _ | .feedbackChange _ _
  | .rexPress _ | .accessPulseExpiry _ | .openTimerExpiry _ | .jamComparisonExpiry _ | .doorPulse _
  | .orderDoorPulse _ _ _ => true
  | _ => false

/-! ### Invariants -/

/-- Every fixed-length list has the length the spec gives it; a rotation order is a list of all sources without duplicates (R115); a
priority is 0..3 (R110, R112). -/
structure State.Shaped (s : State) : Prop where
  channels : s.ds.channels.length = 16
  tested : s.fl.tested.length = 16
  recorded : s.fl.lastRecorded.length = 16
  slots : s.nt.slots.length = 8
  doors : s.doors.length = 8
  points : s.cc.points.length = 8
  calls : s.cc.calls.length = 17
  serials : s.cc.serials.length = 17
  rotations : s.cc.rotations.length = 4
  signs : s.sd.signs.length = 4
  strips : s.sd.strips.length = 2
  sense : s.pins.stripSense.length = 2
  orders : ∀ order ∈ s.cc.rotations, order.Perm (List.range 17)
  priorities : ∀ place ∈ s.cc.calls, ∀ c ∈ place, c.base ≤ 3 ∧ c.escalated ≤ 3 ∧ c.current ≤ 3
  pointPriorities : ∀ p ∈ s.cc.points, p.kind ≠ .unused → p.priority ≤ 3

/-- The line controller between CONTEND and the end of what it sent: while a telegram of its own is on the line its entry is queued and the
node is not deaf; a deaf node that may send at all has a telegram waiting, so R49 lets it contend at the next idle, unless the line is stuck
or another node's start bit comes first (R41, R50, R51, R61). -/
structure State.LineFollows (s : State) : Prop where
  sending : s.lc.sending ≠ none → s.running = true ∧ s.nodeId ≠ 0 ∧ s.lc.deaf = none ∧ ∃ e ∈ s.lc.queue, e.onLine = true
  deaf : s.lc.deaf ≠ none → s.running = true → s.nodeId ≠ 0 → s.lc.queue ≠ []

/-- What is held in a bounded place fits in it: the report queue (R172), the transmit queue (R54), the noise window (R47), the
attention list (R129), every ring (R14). -/
structure State.Bounded (s : State) : Prop where
  reports : s.ap.reports.length ≤ 16
  queue : s.lc.queue.length ≤ 8
  noise : s.lc.noise.length ≤ 9
  list : s.al.length ≤ 24
  rings : ∀ ch ∈ s.ds.channels, ch.ring.length ≤ 8

/-- The transmit queue stands in R54's order, by class and then by age, every age below the next; at most one STATE, and at most one
CALL of a source, is queued (R54, R55). -/
def State.QueueOrdered (s : State) : Prop :=
  s.lc.queue.Pairwise (fun a b => a.cls < b.cls ∨ (a.cls = b.cls ∧ a.age < b.age)) ∧
    s.lc.queue.Pairwise (fun a b => a.age ≠ b.age ∧ collapsesInto a.body b = false) ∧
    ∀ e ∈ s.lc.queue, e.age < s.lc.nextAge

/-- The attention list stands in R130's order, and no two entries share origin and source (R129). -/
def State.ListOrdered (s : State) : Prop :=
  s.al.Pairwise fun a b => keysBefore a.keys b.keys = true ∧ (a.origin, a.source) ≠ (b.origin, b.source)

/-- The gallery fire state is the one its inputs give: outside FIRE no FIRE condition holds but by a running confirm delay, and
the state is R29's; the confirm-delay timer runs exactly in SUSPECT (R28). -/
def State.GalleryFollows (s : State) : Prop :=
  s.awake = true →
    (s.fl.confirm ≠ none ↔ s.fl.gallery = .suspect) ∧
      (s.fl.gallery ≠ .fire → s.fireCondition false = none ∧ s.fl.gallery = s.derivedState)

/-- The route record is the one its inputs give: in LISTEN R86's, in RUN that of R77 to R84, with via a slot that achieves the
exit distance where there is no own exit. -/
def State.RouteFollows (s : State) : Prop :=
  (∀ k ∈ s.nt.slots, 1 ≤ k.cost) ∧
    (s.cl.phase = .listen →
      s.ru = { Route.afterRestart with evacuating := if s.nt.evacuate = true then some .building else none }) ∧
    (s.cl.phase = .run →
      s.ru.f = s.fireDistance ∧ (s.ru.f = 0 ↔ s.fl.gallery = .fire) ∧
        s.ru.exitDoor = s.exitDoor ∧
        s.ru.xLocal = (if s.exitDoor.isSome = true then 0 else s.exitByNeighbours) ∧
        s.ru.announcedX = (if s.fl.gallery = .fire then 15 else s.ru.xLocal) ∧
        s.ru.evacuating = evacCause s.ru.f s.cl.node.e s.nt.evacuate ∧
        (s.exitDoor.isSome = true → s.ru.via = .own) ∧
        (s.exitDoor = none → s.ru.xLocal = 15 → s.ru.via = .none) ∧
        (s.exitDoor = none → s.ru.xLocal < 15 → ∃ i < 8, s.ru.via = .slot i ∧ s.achieves s.ru.xLocal i = true))

/-- Door `d`'s drives are those of R94 and R93; an UNUSED door is driven FREE and DROP (R90). -/
def State.DriveFollows (s : State) (d : Nat) : Prop :=
  if (s.door d).cfg.kind = .unused then (s.door d).lock = .free ∧ (s.door d).magnet = .drop
  else
    (s.door d).lock = lockDrive (s.freeCondition (s.door d)) (s.door d) ∧
      (s.door d).magnet = s.magnetDrive d (s.door d)

/-- Every door's drives follow their inputs; in LOADING every door is driven FREE and DROP (R177), and so it is while the reset pin holds the
node in restart (DESIGN CHOICE, log 6). -/
def State.DrivesFollow (s : State) : Prop :=
  ∀ d < 8, if s.awake then s.DriveFollows d else (s.door d).lock = .free ∧ (s.door d).magnet = .drop

/-- Every sign's display, every strip's mode with its direction, and the sounder mode are those the route record gives (R145, R149,
R155); a strip's step timer runs outside OFF alone, and no lamp check runs while the node is evacuating (R149, R153). -/
def State.SignalsFollow (s : State) : Prop :=
  (∀ g ∈ s.sd.signs, g.used = true → g.display = s.ru.display ∧ g.shown = g.arrowFor s.ru) ∧
    (∀ p ∈ s.sd.strips, p.used = true →
      (p.mode, p.dir) = p.modeFor s.ru ∧ (p.check ≠ none → s.ru.evacuating = none) ∧
        (p.timer = none ↔ p.mode = .off)) ∧
    s.sd.sounder = s.ru.sounderMode

/-- A set silence latch holds an f_s that f has not gone below, and f is 15 only under an f_s of 15 (R72, R73). -/
def State.LatchFollows (s : State) : Prop :=
  ∀ stored, s.nt.latch = some stored → stored ≤ s.ru.f ∧ (s.ru.f = 15 → stored = 15)

/-- Every call's current priority is its escalated priority, but 0 for a HELP call while the node is evacuating (R114). -/
def State.PrioritiesFollow (s : State) : Prop :=
  ∀ place ∈ s.cc.calls, ∀ c ∈ place,
    c.current = if c.kind = .help ∧ s.ru.evacuating ≠ none then 0 else c.escalated

/-- The duration test in LISTEN and RUN: under way in RUN alone; RUNNING only while the gallery is QUIET, f is 15 and evacuate is OFF
(R160, R162, R164); the marker set, and the minutes held, exactly outside IDLE; the minute timer running exactly while RUNNING, the
suspend timer exactly while SUSPENDED (R159, R168). -/
def State.TestFollows (s : State) : Prop :=
  s.awake = true →
    (s.dt.state ≠ .idle → s.cl.phase = .run) ∧
      (s.dt.state = .running → s.fl.gallery = .quiet ∧ s.ru.f = 15 ∧ s.nt.evacuate = false) ∧
      (s.marker = true ↔ s.dt.state ≠ .idle) ∧ (s.dt.requested = none ↔ s.dt.state = .idle) ∧
      (s.dt.completed = none ↔ s.dt.state = .idle) ∧ (s.dt.minute ≠ none ↔ s.dt.state = .running) ∧
      (s.dt.suspend ≠ none ↔ s.dt.state = .suspended)

/-- In RUN, at a node with an id, the last STATE offered has the contents of the moment (R57). -/
def State.LastStateFollows (s : State) : Prop :=
  s.running = true → s.nodeId ≠ 0 → s.lc.lastState = some s.statePayload

end Sys2Proof.Machine
end

