-- ==== Sys2Proof/Certificates/Slice0/Obligations.lean ====
section
/-!
DEFINITION. Obligations.lean: the statements for the provers, chapter by chapter of the spec.
-/

section

open Sys2Proof Sys2Proof.Machine

/-! ### The queue of commands, the clock, reset, and the invariants -/

/-- Step takes the command at the front of the queue and answers what `exec` answers with the queue's rest; with no command waiting,
one unit of the part's time passes after LOADING and nothing happens before (the model's choice, log 1). -/
def Obligations.StepTakesFrontCommand : Prop :=
  (∀ (c : Instr) (s : State) (rest : List Instr), s.pending = c :: rest → step s = exec c { s with pending := rest }) ∧
    ∀ s : State, s.pending = [] →
      (s.awake = true → step s = .next { s with now := s.now + 1 }) ∧ (s.awake = false → step s = .next s)

/-- An expiry of a timer that is stopped changes nothing (log 2); before LOADING has ended no event of the line, the field or the
part's timers reaches a block (R177). -/
def Obligations.NothingToActOn : Prop :=
  ∀ s : State,
    (s.cl.listen = none → exec .listenTimerExpiry s = .next s) ∧
    (s.ds.drift = none → exec .driftTimerExpiry s = .next s) ∧
    (s.ds.rate = none → exec .rateTimerExpiry s = .next s) ∧
    (∀ c : Fin 16, (s.channel c).hold = none → exec (.holdTimerExpiry c) s = .next s) ∧
    (s.fl.confirm = none → exec .confirmDelayExpiry s = .next s) ∧
    (s.fl.walkTimer = none → exec .walkDurationExpiry s = .next s) ∧
    (s.lc.stuckClear = none → exec .stuckClearTimerExpiry s = .next s) ∧
    (s.lc.noise = [] → exec .noiseWindowAgeOut s = .next s) ∧
    (s.lc.refresh = none → exec .refreshTimerExpiry s = .next s) ∧
    (∀ k : Fin 8, (s.slot k).deadline = none → exec (.freshnessDeadlineExpiry k) s = .next s) ∧
    (∀ d : Fin 8, (s.door d).accessTimer = none → exec (.accessPulseExpiry d) s = .next s) ∧
    (∀ d : Fin 8, (s.door d).openTimer = none → exec (.openTimerExpiry d) s = .next s) ∧
    (∀ d : Fin 8, (s.door d).jamTimer = none → exec (.jamComparisonExpiry d) s = .next s) ∧
    (∀ i : Fin 17, (s.call i).all (fun c => decide (c.unanswered = none)) = true →
      exec (.unansweredTimerExpiry i) s = .next s) ∧
    (∀ i : Fin 17, (s.call i).all (fun c => decide (c.attend = none)) = true → exec (.attendTimerExpiry i) s = .next s) ∧
    (∀ i : Fin 17, (s.call i).all (fun c => decide (c.reannounce = none)) = true →
      exec (.reannounceTimerExpiry i) s = .next s) ∧
    (∀ (origin : BitVec 6) (i : Fin 17),
      (s.entry origin.toNat i).all (fun e => decide (e.expiry = none)) = true → exec (.entryExpiry origin i) s = .next s) ∧
    (∀ (origin : BitVec 6) (i : Fin 17),
      (s.entry origin.toNat i).all (fun e => decide (e.takeTimeout = none)) = true →
        exec (.takeTimeoutExpiry origin i) s = .next s) ∧
    (s.sd.signTimer = none → ∀ sense, exec (.signStepExpiry sense) s = .next s) ∧
    (∀ (k : Fin 2) (sense : BitVec 32), (s.strip k).timer = none → exec (.stripStepExpiry k sense) s = .next s) ∧
    (s.sd.cadenceTimer = none → exec .cadenceTimerExpiry s = .next s) ∧
    (s.dt.minute = none → exec .minuteTimerExpiry s = .next s) ∧
    (s.dt.suspend = none → exec .suspendTimerExpiry s = .next s) ∧
    (s.awake = false → ∀ c : Instr, commandGroup c = .event → exec c s = .next s)

/-- The machine right after reset: the LOADING of R177, no command waiting, no start bit received before the line has been seen idle (R61; its
moment: log 38), and every invariant below. The values of R177's LOADING that no rule gives are the model's (log 6), and so is the clause that
select is high, `s.ap.port = .high`: the spec names no level (DESIGN CHOICE, log 4). -/
def Obligations.ResetState : Prop :=
  let s := State.reset
  s.pending = [] ∧ s.cl.phase = .loading ∧ s.ap.port = .high ∧ s.attn = false ∧ s.ap.reports = [] ∧ s.lc.queue = [] ∧
    s.lc.sending = none ∧ s.lc.deaf = some 22 ∧ s.al = [] ∧ (∀ c ∈ s.cc.calls, c = none) ∧
    (∀ d ∈ s.doors, d.lock = .free ∧ d.magnet = .drop) ∧ s.sounderOn = false ∧
    (∀ g ∈ s.sd.signs, g.lampLit = false) ∧ (∀ p ∈ s.sd.strips, ∀ b ∈ p.lit, b = false) ∧ s.relayOpen = false ∧
    s.marker = false ∧ s.hasFault = false ∧
    s.Shaped ∧ s.Bounded ∧ s.QueueOrdered ∧ s.LineFollows ∧ s.ListOrdered ∧ s.GalleryFollows ∧ s.RouteFollows ∧ s.DrivesFollow ∧
    s.SignalsFollow ∧ s.LatchFollows ∧ s.PrioritiesFollow ∧ s.TestFollows ∧ s.LastStateFollows

/-- R14, R47, R54, R55, R110, R112, R115, R129, R130, R172: every step keeps the lengths, the bounds, the priorities 0..3, every rotation
order a list of all sources without duplicates, and the orders of the transmit queue and of the attention list.
R172: a report offered joins a queue of fewer than 16 as it is, and is dropped by a queue of 16, whose newest entry is then marked OVERFLOW; it
carries kind, subject, value and the seconds since restart. ATTN is asserted exactly while the queue holds an entry, and before LOADING has
ended the queue stays empty.
R129, R130: what the order of the attention list is: by priority, then OPEN and TAKING before MINE and OTHERS, then by insertion time, origin and
source. -/
def Obligations.StepKeepsBounds : Prop :=
  (∀ s t : State, s.Shaped → s.Bounded → s.QueueOrdered → s.ListOrdered → step s = .next t →
    t.Shaped ∧ t.Bounded ∧ t.QueueOrdered ∧ t.ListOrdered) ∧
  (∀ (queue : List Report) (offered : Report),
    (queue.length < 16 → queueReport queue offered = queue ++ [offered]) ∧
      (∀ older newest, queue = older ++ [newest] → 16 ≤ queue.length →
        queueReport queue offered = older ++ [{ newest with overflow := true }])) ∧
  (∀ (s : State) (kind : ReportKind) (subject value : Nat),
    s.report kind subject value = { s with
      ap := { s.ap with
        reports :=
          let offered : Report :=
            { kind := kind
              subject := BitVec.ofNat 16 subject
              value := BitVec.ofNat 16 value
              time := s.now / Config.second
              overflow := false }
          queueReport s.ap.reports offered } }) ∧
  (∀ s : State, s.attn = true ↔ s.ap.reports ≠ []) ∧
  (∀ s t : State, (s.awake = false → s.ap.reports = []) → step s = .next t → t.awake = false →
    t.ap.reports = [] ∧ t.attn = false) ∧
  (∀ s : State, s.ListOrdered →
    let rank (e : Entry) : Nat := match e.state with
      | .opened | .taking => 0
      | .mine | .others => 1
    s.al.Pairwise fun a b =>
      (a.origin ≠ b.origin ∨ a.source ≠ b.source) ∧
        (a.priority < b.priority ∨ a.priority = b.priority ∧
          (rank a < rank b ∨ rank a = rank b ∧
            (a.inserted < b.inserted ∨ a.inserted = b.inserted ∧
              (a.origin < b.origin ∨ a.origin = b.origin ∧ a.source < b.source)))))

/-- R26 to R29: every step keeps the gallery fire state the one its inputs give.
R28: the confirm-delay timer runs exactly in SUSPECT: whatever command enters SUSPECT starts it at the time of the event, for Tc; it stays as it
is while the state stays SUSPECT, and is stopped in every other state.
R27, R29: what a gallery fire state in step with its inputs is below FIRE, line by line of R29's table, with no condition of R27's table. -/
def Obligations.StepKeepsGalleryState : Prop :=
  (∀ s t : State, s.Shaped → s.GalleryFollows → step s = .next t → t.GalleryFollows) ∧
  (∀ (c : Instr) (s t : State), s.awake = true → t.awake = true → s.Shaped → s.GalleryFollows → exec c s = .next t →
    (s.fl.gallery ≠ .suspect → t.fl.gallery = .suspect →
      t.fl.confirm = some (t.now + s.cl.node.tc * Config.second)) ∧
    (s.fl.gallery = .suspect → t.fl.gallery = .suspect → t.fl.confirm = s.fl.confirm) ∧
    (t.fl.gallery ≠ .suspect → t.fl.confirm = none)) ∧
  (∀ s : State, s.awake = true → s.Shaped → s.GalleryFollows → s.fl.gallery ≠ .fire →
    let inAlarm (i : Nat) : Prop := (s.channel i).state = .alarm
    let smokeAlarm (i : Nat) : Prop := (s.channel i).cfg.kind = .smoke ∧ inAlarm i
    let nearAlarm (i : Nat) : Prop := (s.channel i).state = .prealarm ∨ (s.channel i).state = .verify
    let used (k : Nat) : Prop := (s.slot k).id ≠ 0
    let holdsFire (k : Nat) : Prop :=
      used k ∧ ((s.slot k).presence = .fresh ∨ (s.slot k).presence = .silent) ∧ (s.slot k).fire = .fire
    let agrees (k : Nat) : Prop :=
      used k ∧ (s.slot k).presence = .fresh ∧ ((s.slot k).fire = .suspect ∨ (s.slot k).fire = .fire)
    let lone : Prop := ∃ i < 16, smokeAlarm i ∧ ∀ j < 16, smokeAlarm j → j = i
    let caution : Prop :=
      (∀ i < 16, ¬inAlarm i) ∧ ((∃ i < 16, nearAlarm i) ∨ ∃ k < 8, holdsFire k)
    (∀ i < 16, (s.channel i).cfg.kind = .heat → ¬inAlarm i) ∧
      (∀ p < 8, (s.point p).kind = .fire → (s.point p).input ≠ some true) ∧
      (∀ i < 16, ∀ j < 16, smokeAlarm i → smokeAlarm j → i = j) ∧
      (lone → s.cl.node.tc ≠ 0 ∧ ∀ k < 8, ¬agrees k) ∧
      (s.fl.gallery = .suspect ↔ lone) ∧
      (s.fl.gallery = .caution ↔ ¬lone ∧ caution) ∧
      (s.fl.gallery = .quiet ↔ ¬lone ∧ ¬caution))

/-- R77 to R86: every step keeps the route record, and with it the evacuating condition, the one its inputs give.
R84, R86: what the evacuating condition and its cause then are, by the fire distance, E and the building's flag in RUN, by the flag alone in
LISTEN. -/
def Obligations.StepKeepsRoute : Prop :=
  (∀ s t : State, s.Shaped → s.RouteFollows → step s = .next t → t.RouteFollows) ∧
  (∀ s : State, s.RouteFollows →
    let within := s.ru.f ≤ s.cl.node.e
    (s.cl.phase = .run →
      (s.ru.evacuating = some .both ↔ within ∧ s.nt.evacuate = true) ∧
        (s.ru.evacuating = some .radius ↔ within ∧ s.nt.evacuate = false) ∧
        (s.ru.evacuating = some .building ↔ ¬within ∧ s.nt.evacuate = true) ∧
        (s.ru.evacuating = none ↔ ¬within ∧ s.nt.evacuate = false)) ∧
    (s.cl.phase = .listen →
      (s.ru.evacuating = some .building ↔ s.nt.evacuate = true) ∧
        (s.ru.evacuating = none ↔ s.nt.evacuate = false)))

/-- R90, R92, R93, R94: every step keeps every lock and magnet drive the one its inputs give: while evacuating every GALLERY, EXIT and STAFF
door is driven FREE.
That every door is driven FREE and DROP before LISTEN is R177's for LOADING, and log 6's (DESIGN CHOICE) while the reset pin holds the node.
R92, R93, R94: what the drives of a used door then are: the lists of R92 and R94 for the lock, the list of R93 for the magnet. -/
def Obligations.StepKeepsDoorDrives : Prop :=
  (∀ s t : State, s.Shaped → s.DrivesFollow → step s = .next t → t.DrivesFollow) ∧
  (∀ (s : State) (d : Nat), s.awake = true → s.Shaped → s.DrivesFollow → d < 8 → (s.door d).cfg.kind ≠ .unused →
    let door := s.door d
    let linkFire : Prop := ∃ k < 8, (s.slot k).id ≠ 0 ∧ (s.slot k).link = some d ∧
      ((s.slot k).presence = .fresh ∨ (s.slot k).presence = .silent) ∧ (s.slot k).fire = .fire
    let holds : Prop :=
      door.cfg.kind = .gallery ∧ door.cfg.magnet = true ∧ s.fl.gallery ≠ .fire ∧ ¬linkFire ∧
        s.ru.evacuating = none ∧ s.nt.mode = .day
    let free : Prop :=
      (s.nt.mode = .day ∧ (door.cfg.kind = .gallery ∨ door.cfg.kind = .exit)) ∨
        (s.ru.evacuating ≠ none ∧ door.cfg.kind ≠ .store)
    (door.magnet = .hold ↔ holds) ∧ (door.magnet = .drop ↔ ¬holds) ∧
      (door.lock = .free ↔ free ∨ door.state = .access ∨ (door.state = .openTimed ∧ door.accessMark = true)) ∧
      (door.lock = .lock ↔ ¬free ∧ door.state ≠ .access ∧ ¬(door.state = .openTimed ∧ door.accessMark = true)))

/-- R145, R149, R153, R155: every step keeps every sign's display, every strip's mode and direction, and the sounder mode the ones the route
record gives, a strip's step timer running outside OFF alone, and no lamp check beside an evacuation.
R73: every step keeps the f_s of a set silence latch at most f, and f below 15 unless that f_s is 15.
R145, R146, R149 to R151, R155: what any command that is no step of theirs makes of signs, strips and sounder. A sign's flash count begins
again at a change of its display or arrow, and stays as it is without one; a strip that enters a mode, or chases on under another via,
begins a step with phase and flash count 0, and is else as it was but for its latch; the cadence is on at an entry to ALERT.
R145, R149, R155: what display and arrow, strip mode and direction and sounder mode then are, line by line of the three tables.
That a strip has no direction outside CHASE, in STEADY too, is the model's (DESIGN CHOICE, log 36): SignalsFollow and the lines of R149's table
here fix it, and no rule does. -/
def Obligations.StepKeepsSignals : Prop :=
  (∀ s t : State, s.Shaped → s.SignalsFollow → step s = .next t → t.SignalsFollow) ∧
  (∀ s t : State, s.LatchFollows → step s = .next t → t.LatchFollows) ∧
  (∀ (c : Instr) (s t : State), s.awake = true → t.awake = true → s.Shaped → s.SignalsFollow → exec c s = .next t →
    ((∀ sense, c ≠ .signStepExpiry sense) → ∀ n < 4, (s.sign n).used = true →
      let before := s.sign n
      let after := t.sign n
      let changed := after.display ≠ before.display ∨ after.shown ≠ before.shown
      (changed → after.flash = if after.display = .plain then none else some 0) ∧ (¬changed → after.flash = before.flash)) ∧
    (c ≠ .lampCheck → (∀ k sense, c ≠ .stripStepExpiry k sense) → ∀ k < 2, (s.strip k).n ≠ 0 →
      let p := s.strip k
      let q := t.strip k
      let begins := q.mode ≠ p.mode ∨ (q.mode = .chase ∧ t.ru.via ≠ s.ru.via)
      let lit (i : Nat) : Bool :=
        match q.mode, q.dir with
        | .off, _ => false
        | .chase, some .forward => decide ((i + p.offset) % p.pp < p.w)
        | .chase, some .reverse => decide ((i + p.offset + p.pp) % p.pp < p.w)
        | .chase, _ => false
        | _, _ => true
      (begins → q = { p with
        mode := q.mode
        dir := q.dir
        phase := 0
        flash := if q.mode = .noRoute then some 0 else none
        check := none
        lit := (List.range p.n).map lit
        timer := if q.mode = .off then none else some (t.now + p.step * 5000)
        latch := q.latch }) ∧
      (¬begins → q = { p with latch := q.latch })) ∧
    (t.sd.sounder ≠ s.sd.sounder →
      (t.sd.sounder = .alert → t.sd.cadence = some true ∧ t.sd.cadenceTimer = some (t.now + Config.second)) ∧
        (t.sd.sounder ≠ .alert → t.sd.cadence = none ∧ t.sd.cadenceTimer = none)) ∧
    (t.sd.sounder = s.sd.sounder → c ≠ .cadenceTimerExpiry →
      t.sd.cadence = s.sd.cadence ∧ t.sd.cadenceTimer = s.sd.cadenceTimer)) ∧
  (∀ s : State, s.SignalsFollow →
    let evacuating := s.ru.evacuating ≠ none
    let entry : Nat := match s.ru.via with
      | .slot i => i
      | .own => 8
      | .none => 9
    (∀ n < 4, (s.sign n).used = true →
      let g := s.sign n
      (¬evacuating → g.display = .plain ∧ g.shown = some g.default) ∧
        (evacuating → s.ru.xLocal < 15 → g.display = .arrow ∧ g.shown = some (g.map.getD entry .ahead)) ∧
        (evacuating → ¬s.ru.xLocal < 15 → g.display = .cross ∧ g.shown = none)) ∧
    (∀ k < 2, (s.strip k).n ≠ 0 →
      let p := s.strip k
      let way := p.map.getD entry .steady
      (p.check ≠ none → ¬evacuating ∧ p.mode = .check ∧ p.dir = none) ∧
        (p.check = none → ¬evacuating → p.mode = .off ∧ p.dir = none) ∧
        (p.check = none → evacuating → s.ru.xLocal < 15 → way = .forward ∨ way = .reverse →
          p.mode = .chase ∧ p.dir = some way) ∧
        (p.check = none → evacuating → s.ru.xLocal < 15 → way = .steady → p.mode = .steady ∧ p.dir = none) ∧
        (p.check = none → evacuating → ¬s.ru.xLocal < 15 → p.mode = .noRoute ∧ p.dir = none)) ∧
    (evacuating → s.sd.sounder = .evac) ∧
    (¬evacuating → s.ru.f < 15 → s.sd.sounder = .alert) ∧
    (¬evacuating → ¬s.ru.f < 15 → s.sd.sounder = .off))

/-! ### Chapter 1: detector channels -/

/-- R11 to R15: what a filtered sample meets. Day and night pairs of R11, the reduction of R12 (here as an argument), fixed and rate
conditions of R13 and R15. -/
def Obligations.ThresholdConditions : Prop :=
  ∀ (ch : Channel) (mode : Mode) (fireHeld : Bool),
    (ch.cfg.kind = .smoke →
      let p := if mode = .day then ch.cfg.dayP else ch.cfg.nightP
      let a := if mode = .day then ch.cfg.dayA else ch.cfg.nightA
      let pEff := if fireHeld then max 1 (p - p / 4) else p
      let aEff := if fireHeld then max (pEff + 1) (a - a / 4) else a
      1 ≤ p → p < a →
        1 ≤ pEff ∧ pEff < aEff ∧
          (ch.band mode fireHeld = .alarm ↔ aEff ≤ ch.m4 / 4 - ch.b) ∧
          (ch.band mode fireHeld = .prealarm ↔ pEff ≤ ch.m4 / 4 - ch.b ∧ ch.m4 / 4 - ch.b < aEff)) ∧
    (ch.cfg.kind = .heat →
      let m := ch.m4 / 4
      let rate (k : Nat) : Prop := 0 < ch.cfg.rr ∧ ch.ring.length = 8 ∧ ch.ring.headD 0 + k * ch.cfg.rr ≤ m
      (ch.band mode fireHeld = .alarm ↔ 256 + 8 * ch.cfg.th ≤ m ∨ rate 8) ∧
        (ch.band mode fireHeld ≠ .clear ↔
          ch.band mode fireHeld = .alarm ∨ 256 + 8 * ch.cfg.th - 80 ≤ m ∨ rate 4))

/-- R16: a good sample in NORMAL. An odd-slot sample does not reach a channel that is not in VERIFY (R4). That the sample arrives at the
end of the channel's even slot, and which slot that is, is the model's reading (log 3). -/
def Obligations.SampleInNormal : Prop :=
  ∀ (s : State) (c : Fin 16) (code : BitVec 10), s.awake = true → (s.channel c).state = .normal →
    16 ≤ code.toNat → code.toNat ≤ 1007 →
    let n := s.evenSlot c
    let now := max s.now (slotEnd n)
    let ch := s.channel c
    let g : Channel := { ch with m4 := ch.m4 - ch.m4 / 4 + code.toNat }
    exec (.sampleArrival c code true) s = .next s ∧
    Completes (.sampleArrival c code false) s fun t =>
      Consequent
        (s.sampledAs c n
          (match g.band s.nt.mode s.slotHoldsFire with
          | .alarm => { g with state := .verify, verify := s.cl.node.v, lastOdd := now }
          | .prealarm => { g with state := .prealarm, hold := some (now + 10 * Config.second) }
          | .clear => g)) t

/-- R18: a good sample in VERIFY that does not complete the burst, from the even slot or from a granted odd slot.
R19, R36: the sample that brings the verify count to 0. Without a walk test the channel enters ALARM and CHANNEL_ALARM is
reported; in a walk test with no recording of the last 30 s it is a recording: the channel's mark joins the tested set, its
last-recorded time is the completion's, WALK_TESTED is reported, and the channel refills.
That the verify count is 0 after a burst abandoned and in a channel that refills is log 18's (DESIGN CHOICE), which slot a sample ends
(dueSlot, slotEnd) log 3's, that the channel's report comes before what the change brings from other blocks log 7's order. -/
def Obligations.SampleInVerify : Prop :=
  (∀ (s : State) (c : Fin 16) (code : BitVec 10) (odd : Bool) (n : Nat), s.awake = true →
      (s.channel c).state = .verify → 16 ≤ code.toNat → code.toNat ≤ 1007 → s.dueSlot c odd = some n →
      let now := max s.now (slotEnd n)
      let ch := s.channel c
      let g : Channel := { ch with m4 := ch.m4 - ch.m4 / 4 + code.toNat }
      let band := g.band s.nt.mode s.slotHoldsFire
      ¬(band = .alarm ∧ ch.verify ≤ 1) →
      Completes (.sampleArrival c code odd) s fun t =>
        Consequent
          (s.sampledAs c n
            (match band with
            | .alarm => { g with verify := ch.verify - 1 }
            | .prealarm => { g with verify := s.cl.node.v }
            | .clear => { g with
                state := .prealarm
                verify := 0
                hold := if ch.hold = none then some (now + 10 * Config.second) else ch.hold })) t) ∧
  (∀ (s : State) (c : Fin 16) (code : BitVec 10) (odd : Bool) (n : Nat), s.awake = true → s.Shaped →
      (s.channel c).state = .verify → 16 ≤ code.toNat → code.toNat ≤ 1007 → s.dueSlot c odd = some n →
      let now := max s.now (slotEnd n)
      let ch := s.channel c
      let g : Channel := { ch with m4 := ch.m4 - ch.m4 / 4 + code.toNat }
      let reading := if ch.cfg.kind = .smoke then g.m4 / 4 - ch.b else g.m4 / 4
      let alarm : Channel := { g with state := .alarm, hold := none, verify := 0 }
      g.band s.nt.mode s.slotHoldsFire = .alarm → ch.verify ≤ 1 →
      (s.fl.walkActive = false →
        Completes (.sampleArrival c code odd) s fun t =>
          Consequent (s.sampledAs c n alarm) t ∧
            Reports (s.sampledAs c n alarm) .channelAlarm c reading t) ∧
      (s.fl.walkActive = true →
        (∀ i < 16, ∀ r, s.fl.lastRecorded.getD i none = some r → 30 * Config.second ≤ now - r) →
        ∃ after, g.Refilled after ∧
        Completes (.sampleArrival c code odd) s fun t =>
          Consequent (s.sampledAs c n after) t ∧ Reports (s.sampledAs c n after) .walkTested c reading t ∧
            t.fl.walkActive = true ∧ t.fl.walkTimer = s.fl.walkTimer ∧ t.fl.tested = s.fl.tested.set c true ∧
            t.fl.lastRecorded = s.fl.lastRecorded.set c (some now)) ∧
      (s.fl.walkActive = true →
        (∃ i < 16, ∃ r, s.fl.lastRecorded.getD i none = some r ∧ now < r + 30 * Config.second) →
        Completes (.sampleArrival c code odd) s fun t =>
          Consequent (s.sampledAs c n alarm) t ∧ t.fl.walkActive = false ∧
            Extends
              (((s.sampledAs c n alarm).report .walkEnd 5 (bitsToNat s.fl.tested)).report .channelAlarm c reading).ap.reports
              t.ap.reports))

/-- R7, R8, R19: a good sample in SETTLE and REFILL is filtered and counted, the sixteenth or fourth enters NORMAL; in ALARM it is
filtered only.
R17: a good sample in PREALARM, and the expiry of the hold timer in PREALARM and in VERIFY.
R10: whatever command changes DRIFT_LIMIT of a channel, the change is reported.
That the verify count is 0 at an entry to NORMAL is log 18's (DESIGN CHOICE), and that the sample is that of the channel's even slot, at
its end (evenSlot, slotEnd), log 3's. -/
def Obligations.SampleOutsideNormal : Prop :=
  (∀ (s : State) (c : Fin 16) (code : BitVec 10), s.awake = true → 16 ≤ code.toNat → code.toNat ≤ 1007 →
      let n := s.evenSlot c
      let ch := s.channel c
      let g : Channel := { ch with m4 := if ch.sampleCount = 0 then 4 * code.toNat else ch.m4 - ch.m4 / 4 + code.toNat }
      let clamped := max ch.cfg.bmin (min ch.cfg.bmax (g.m4 / 4))
      let settledNow : Channel := { g with
        state := .normal
        sampleCount := 16
        settled := true
        hold := none
        verify := 0
        b := if ch.cfg.kind = .smoke then clamped else 0
        driftLimit := ch.driftLimit || decide (ch.cfg.kind = .smoke ∧ clamped ≠ g.m4 / 4) }
      let run (after : Channel) : Prop :=
        Completes (.sampleArrival c code false) s fun t => Consequent (s.sampledAs c n after) t
      (ch.state = .settle → ch.sampleCount ≠ 15 → run { g with sampleCount := ch.sampleCount + 1 }) ∧
      (ch.state = .settle → ch.sampleCount = 15 → run settledNow) ∧
      (ch.state = .refill → ch.sampleCount ≠ 3 → run { g with sampleCount := ch.sampleCount + 1 }) ∧
      (ch.state = .refill → ch.sampleCount = 3 →
        run { g with state := .normal, sampleCount := 4, hold := none, verify := 0 }) ∧
      (ch.state = .alarm → run { ch with m4 := ch.m4 - ch.m4 / 4 + code.toNat })) ∧
  (∀ (s : State) (c : Fin 16) (code : BitVec 10), s.awake = true →
      let ch := s.channel c
      (ch.state = .prealarm → 16 ≤ code.toNat → code.toNat ≤ 1007 →
        let n := s.evenSlot c
        let now := max s.now (slotEnd n)
        let g : Channel := { ch with m4 := ch.m4 - ch.m4 / 4 + code.toNat }
        Completes (.sampleArrival c code false) s fun t =>
          Consequent
            (s.sampledAs c n
              (match g.band s.nt.mode s.slotHoldsFire with
              | .alarm => { g with state := .verify, verify := s.cl.node.v, lastOdd := now }
              | .prealarm => { g with hold := some (now + 10 * Config.second) }
              | .clear => g)) t) ∧
      (∀ deadline, ch.hold = some deadline →
        let after (v : Channel) : State :=
          { s with now := max s.now deadline, ds := { s.ds with channels := s.ds.channels.set c v } }
        (ch.state = .prealarm →
          Completes (.holdTimerExpiry c) s fun t =>
            Consequent (after { ch with state := .normal, hold := none, verify := 0 }) t) ∧
        (ch.state = .verify → exec (.holdTimerExpiry c) s = .next (after { ch with hold := none })))) ∧
  (∀ (c : Instr) (s t : State) (i : Nat), s.awake = true → t.awake = true → exec c s = .next t → i < 16 →
      (t.channel i).driftLimit ≠ (s.channel i).driftLimit →
      Reported s .driftLimit i (if (t.channel i).driftLimit = true then 1 else 0) t)

/-- R20: fault samples in every sampled state, and good samples in FAULT. That the verify count is 0 in FAULT and in a channel that refills
is log 18's (DESIGN CHOICE), which slot a sample ends (dueSlot) log 3's, that the channel's report comes before a call's log 7's order. -/
def Obligations.SampleFaults : Prop :=
  ∀ (s : State) (c : Fin 16) (code : BitVec 10) (odd : Bool) (n : Nat), s.awake = true → s.Shaped →
    s.dueSlot c odd = some n →
    let ch := s.channel c
    let isFault := code.toNat < 16 ∨ 1007 < code.toNat
    let value := if code.toNat < 16 then 0 else 1
    let faulted : Channel := { ch with state := .fault, verify := 0, hold := none, ring := [], goodCount := 0 }
    let run (after : Channel) (P : State → Prop) : Prop :=
      Completes (.sampleArrival c code odd) s fun t => Consequent (s.sampledAs c n after) t ∧ P t
    (isFault → ch.state ∈ [.settle, .refill, .normal, .prealarm, .verify] →
      run faulted fun t => Reports (s.sampledAs c n faulted) .channelFault c value t ∧ t.hasFault = true) ∧
    (isFault → ch.state = .alarm →
      run { ch with faultInAlarm := true } fun t =>
        ReportsIf (!ch.faultInAlarm) (s.sampledAs c n ch) .faultInAlarm c value t ∧ t.hasFault = true) ∧
    (isFault → ch.state = .fault → run { ch with goodCount := 0 } fun _ => True) ∧
    (¬isFault → ch.state = .fault → ch.goodCount ≠ 3 → run { ch with goodCount := ch.goodCount + 1 } fun _ => True) ∧
    (¬isFault → ch.state = .fault → ch.goodCount = 3 →
      ∃ after, Channel.Refilled { ch with goodCount := 4 } after ∧
        run after fun t => Reports (s.sampledAs c n after) .channelRecovered c after.state.code t)

/-- R4: the grant of an odd slot. The slot granted is the first odd one not yet passed or granted (log 3). -/
def Obligations.OddSlotGranted : Prop :=
  ∀ s : State, s.awake = true → s.Shaped →
    let start := slotStart s.oddSlot
    let now := max s.now start
    s.oddSlot % 2 = 1 ∧
    (∀ c : Fin 16, (s.channel c).state = .verify →
      (∀ j : Fin 16, (s.channel j).state = .verify →
        (s.channel c).lastOdd < (s.channel j).lastOdd ∨
          ((s.channel c).lastOdd = (s.channel j).lastOdd ∧ c.val ≤ j.val)) →
      exec .oddSlotGrant s = .next { s with
        now := now
        ds := { s.ds with
          channels := s.ds.channels.set c { s.channel c with lastOdd := start }
          nextSlot := s.oddSlot + 1
          grant := some (c.val, s.oddSlot) } }) ∧
    ((∀ j : Fin 16, (s.channel j).state ≠ .verify) →
      exec .oddSlotGrant s = .next { s with
        now := now, ds := { s.ds with nextSlot := s.oddSlot + 1, grant := none } })

/-- R9: the drift timer's expiry, row by row of its table, and the timer started again (R2). -/
def Obligations.DriftSteps : Prop :=
  ∀ (s : State) (deadline : Nat), s.awake = true → s.ds.drift = some deadline →
    let now := max s.now deadline
    Completes .driftTimerExpiry s fun t =>
      (∃ channels,
        CallConsequent
          { s with
            now := now
            ds := { s.ds with
              channels := channels, drift := some (now + s.cl.node.driftMinutes * (60 * Config.second)) } } t) ∧
      ∀ c < 16,
        let ch := s.channel c
        (¬(ch.cfg.kind = .smoke ∧ ch.state = .normal) → t.channel c = ch) ∧
        (ch.cfg.kind = .smoke → ch.state = .normal →
          (ch.b < ch.m → ch.b < ch.cfg.bmax → t.channel c = { ch with b := ch.b + 1 }) ∧
          (ch.b < ch.m → ch.b = ch.cfg.bmax → t.channel c = { ch with driftLimit := true }) ∧
          (ch.m = ch.b → t.channel c = { ch with driftLimit := ch.driftLimit && !decide (ch.b < ch.cfg.bmax) }) ∧
          (ch.m < ch.b → ch.cfg.bmin < ch.b → t.channel c = { ch with b := ch.b - 1, driftLimit := false }) ∧
          (ch.m < ch.b → ch.b = ch.cfg.bmin →
            t.channel c = { ch with driftLimit := ch.driftLimit && !decide (ch.b < ch.cfg.bmax) }) ∧
          (ch.cfg.bmin ≤ ch.b → ch.b ≤ ch.cfg.bmax →
            ch.cfg.bmin ≤ (t.channel c).b ∧ (t.channel c).b ≤ ch.cfg.bmax))

/-- R14: the rate timer's expiry, and the timer started again (R2). Nothing else changes. -/
def Obligations.RateSteps : Prop :=
  ∀ (s : State) (deadline : Nat), s.awake = true → s.Bounded → s.ds.rate = some deadline →
    let now := max s.now deadline
    exec .rateTimerExpiry s = .next { s with
      now := now
      ds := { s.ds with
        rate := some (now + s.cl.node.rateSeconds * Config.second)
        channels := s.ds.channels.map fun ch =>
          if ch.cfg.kind = .heat ∧ ch.state ∈ [ChannelState.normal, .prealarm, .verify] then
            { ch with ring := (if ch.ring.length = 8 then ch.ring.tail else ch.ring) ++ [ch.m4 / 4] }
          else ch } }

/-- R21 and R22: ISOLATE and RESTORE decided in RUN. That the verify count is 0 in an isolated channel and in one that refills is log 18's
(DESIGN CHOICE), the moment from which a restored channel is sampled (inService) log 3's, that the channel's reports come before what
other blocks report log 7's order. -/
def Obligations.IsolateAndRestore : Prop :=
  ∀ (s : State) (c : Byte), s.running = true → s.listens = true →
    let ch := s.channel c.toNat
    let put (v : Channel) : State :=
      State.respond { s with ds := { s.ds with channels := s.ds.channels.set c.toNat v } } .ok
    let isolated : Channel :=
      { ch with state := .isolated, verify := 0, hold := none, ring := [], driftLimit := false, goodCount := 0 }
    (16 ≤ c.toNat → exec (.isolate c) s = .next (s.respond .errRange) ∧ exec (.restore c) s = .next (s.respond .errRange)) ∧
    (c.toNat < 16 → ch.cfg.kind = .unused ∨ ch.state = .alarm →
      exec (.isolate c) s = .next (s.respond (.errState .none))) ∧
    (c.toNat < 16 → ch.cfg.kind ≠ .unused → ch.state = .isolated → exec (.isolate c) s = .next (s.respond .ok)) ∧
    (c.toNat < 16 → ch.cfg.kind ≠ .unused → ch.state ≠ .alarm → ch.state ≠ .isolated →
      Completes (.isolate c) s fun t =>
        Consequent (put isolated) t ∧
          Extends
            (((put isolated).reportIf ch.driftLimit .driftLimit c.toNat 0).report .channelIsolated c.toNat
              ch.state.code).ap.reports
            t.ap.reports) ∧
    (c.toNat < 16 → ch.cfg.kind = .unused ∨ ch.state ≠ .isolated →
      exec (.restore c) s = .next (s.respond (.errState .none))) ∧
    (c.toNat < 16 → ch.cfg.kind ≠ .unused → ch.state = .isolated →
      ∃ after, ch.Refilled after ∧
        Completes (.restore c) s fun t =>
          Consequent (put { after with inService := s.now }) t ∧
            Reports (put after) .channelRestored c.toNat after.state.code t)

/-! ### Chapter 2: gallery fire state and walk test -/

/-- R30: FIRE stays, and its cause record with it, until a fire reset is accepted here or the node restarts. -/
def Obligations.FireLatches : Prop :=
  ∀ (c : Instr) (s t : State), s.awake = true → s.fl.gallery = .fire → exec c s = .next t →
    c ∉ [Instr.powerUp, .resetPin, .resetPinAsserted] →
    (c ∈ [Instr.transactionEnd, .transactionBegin] → s.ap.port ≠ .restartDecoded) →
    ((c = .fireReset ∨ ∃ src target, c = .orderFireReset src target) → ∃ p, s.activeFirePoint = some p) →
    t.fl.gallery = .fire ∧ t.fl.cause = s.fl.cause

/-- R28: the confirm delay of a lone smoke alarm runs out: FIRE by DELAY, with the channel as subject. The premise is the invariant
of the gallery fire state.
R39: the duration of a walk test runs out: it ends with reason TIME, its tested set reported and then emptied.
That the fire logic's report comes first is log 7's order.
R27, R31: whatever command changes the gallery fire state, the change is reported as GALLERY_STATE; a change to FIRE stops the confirm
delay and writes the cause record with the first condition of R27's table that holds, its subject, its slot and the time, and is reported
as FIRE_CAUSE too.
R39: whatever command makes a FIRE-kind point active, or else lets a used slot come to hold FIRE, FRESH or SILENT, an active walk test ends
at it with reason POINT (2) or NEIGHBOUR (3; the codes: log 16); POINT where one command did both. -/
def Obligations.FireTimersExpire : Prop :=
  (∀ (s : State) (deadline : Nat), s.awake = true → s.GalleryFollows → s.fl.gallery = .suspect →
      s.fl.confirm = some deadline →
      let now := max s.now deadline
      ∃ c, s.ds.channels.findIdx? (fun ch => decide (ch.cfg.kind = .smoke ∧ ch.state = .alarm)) = some c ∧
        Completes .confirmDelayExpiry s fun t =>
          Consequent { s with now := now } t ∧
            t.fl = { s.fl with
              gallery := .fire, confirm := none, cause := ⟨.delay, some c, none, some (now / Config.second)⟩ } ∧
            Reports { s with now := now } .galleryState 2 3 t) ∧
  (∀ (s : State) (deadline : Nat), s.awake = true → s.fl.walkActive = true → s.fl.walkTimer = some deadline →
      Completes .walkDurationExpiry s fun t =>
        Consequent { s with now := max s.now deadline } t ∧
          t.fl.walkActive = false ∧ t.fl.walkTimer = none ∧ t.fl.tested = List.replicate 16 false ∧
          t.fl.lastRecorded = List.replicate 16 none ∧
          Reports { s with now := max s.now deadline } .walkEnd 0 (bitsToNat s.fl.tested) t) ∧
  (∀ (c : Instr) (s t : State), s.awake = true → t.awake = true → s.Shaped → exec c s = .next t →
      t.fl.gallery ≠ s.fl.gallery →
      Reported s .galleryState s.fl.gallery.code t.fl.gallery.code t ∧
        (t.fl.gallery = .fire →
          let alarm (kind : ChannelKind) (i : Nat) : Prop := (t.channel i).cfg.kind = kind ∧ (t.channel i).state = .alarm
          let active (p : Nat) : Prop := (t.point p).kind = .fire ∧ (t.point p).input = some true
          let agrees (k : Nat) : Prop :=
            (t.slot k).id ≠ 0 ∧ (t.slot k).presence = .fresh ∧ ((t.slot k).fire = .suspect ∨ (t.slot k).fire = .fire)
          let recorded (cause : Cause) (subject : Nat) (slot : Option Nat) : Prop :=
            t.fl.cause = ⟨cause, some subject, slot, some (t.now / Config.second)⟩ ∧
              Reported s .fireCause subject (slot.getD 0xFF * 256 + cause.code) t
          let noHeat := ∀ i < 16, ¬alarm .heat i
          let noPoint := ∀ p < 8, ¬active p
          t.fl.confirm = none ∧ (noHeat → noPoint → ∃ i < 16, alarm .smoke i) ∧
            (∀ i < 16, alarm .heat i → (∀ j < i, ¬alarm .heat j) → recorded .heat i none) ∧
            (noHeat → ∀ p < 8, active p → (∀ q < p, ¬active q) → recorded .point p none) ∧
            (noHeat → noPoint → ∀ i < 16, alarm .smoke i → (∀ j < i, ¬alarm .smoke j) →
              let second := ∃ j < 16, i < j ∧ alarm .smoke j
              (second → recorded .double i none) ∧
                (¬second → ∀ k < 8, agrees k → (∀ m < k, ¬agrees m) → recorded .neighbour i (some k)) ∧
                (¬second → (∀ k < 8, ¬agrees k) → recorded .delay i none)))) ∧
  (∀ (c : Instr) (s t : State), s.awake = true → t.awake = true → s.Shaped → s.fl.walkActive = true → exec c s = .next t →
      let active (u : State) (p : Nat) : Prop := (u.point p).kind = .fire ∧ (u.point p).input = some true
      let burns (u : State) (k : Nat) : Prop :=
        (u.slot k).id ≠ 0 ∧ ((u.slot k).presence = .fresh ∨ (u.slot k).presence = .silent) ∧ (u.slot k).fire = .fire
      let ended (reason : Nat) : Prop :=
        t.fl.walkActive = false ∧ t.fl.walkTimer = none ∧ t.fl.tested = List.replicate 16 false ∧
          t.fl.lastRecorded = List.replicate 16 none ∧ Reported s .walkEnd reason (bitsToNat s.fl.tested) t
      ((∃ p < 8, active t p ∧ ¬active s p) → ended 2) ∧
        ((∀ p < 8, active t p → active s p) → (∃ k < 8, burns t k ∧ ¬burns s k) → ended 3))

/-- R35: WALK_START, row by row of its table. That WALK_BEGIN comes before what other blocks report is log 7's order. -/
def Obligations.WalkStartDecided : Prop :=
  ∀ (s : State) (min : Byte), s.listens = true →
    let timer : Timer := some (s.now + min.toNat * (60 * Config.second))
    (s.running = false → exec (.walkStart min) s = .next (s.respond .errPhase)) ∧
    (s.running = true → ¬(1 ≤ min.toNat ∧ min.toNat ≤ 60) → exec (.walkStart min) s = .next (s.respond .errRange)) ∧
    (s.running = true → 1 ≤ min.toNat → min.toNat ≤ 60 →
      (s.fl.walkActive = false → s.fl.gallery = .quiet → s.ru.f = 15 →
        Completes (.walkStart min) s fun t =>
          Consequent (s.respond .ok) t ∧ t.fl.walkActive = true ∧ t.fl.walkTimer = timer ∧
            t.fl.tested = List.replicate 16 false ∧ t.fl.lastRecorded = List.replicate 16 none ∧
            Reports s .walkBegin 0xFFFF min.toNat t) ∧
      (s.fl.walkActive = false → s.fl.gallery ≠ .quiet ∨ s.ru.f < 15 →
        exec (.walkStart min) s = .next (s.respond (.errState .none))) ∧
      (s.fl.walkActive = true → s.ru.f = 15 →
        exec (.walkStart min) s = .next (State.respond { s with fl := { s.fl with walkTimer := timer } } .ok)) ∧
      (s.fl.walkActive = true → s.ru.f < 15 → exec (.walkStart min) s = .next (s.respond (.errState .none))))

/-- R38, R39: WALK_STOP. That the reason HOST of WALK_END is coded 0 is log 16's, that WALK_END comes before what other blocks report log 7's order. -/
def Obligations.WalkStopEndsWalkTest : Prop :=
  ∀ s : State, s.listens = true →
    (s.running = false → exec .walkStop s = .next (s.respond .errPhase)) ∧
    (s.running = true → s.fl.walkActive = false → exec .walkStop s = .next (s.respond .ok)) ∧
    (s.running = true → s.fl.walkActive = true →
      Completes .walkStop s fun t =>
        Consequent (s.respond .ok) t ∧ t.fl.walkActive = false ∧ t.fl.walkTimer = none ∧
          t.fl.tested = List.replicate 16 false ∧ t.fl.lastRecorded = List.replicate 16 none ∧
          Reports s .walkEnd 0 (bitsToNat s.fl.tested) t)

/-- R23, R32, R33, R34: a fire reset asked for by the host or by a station's ORDER; an accepted one is reported as FIRE_RESET with its
source, 0 for HOST, and its target.
R33, R39: an accepted one ends an active walk test: the duration timer is stopped, WALK_END is reported with reason RESET (4) and the tested set,
which is then emptied, and every last-recorded time becomes absent. With no walk test active these stay. The code 4 is log 16's, that WALK_END
is the first report of its event log 7's order.
R67: each SILENT slot whose held values a reset with target 63 clears is reported as NEIGHBOUR_CLEARED.
That the verify count is 0 in a channel that refills is log 18's (DESIGN CHOICE). -/
def Obligations.FireResetDecided : Prop :=
  ∀ (s : State) (src : BitVec 6) (target : Byte), s.Shaped →
    let reset (ch : Channel) : Channel :=
      if ch.state ∈ [ChannelState.prealarm, .verify, .alarm, .refill] then
        { ch with
          faultInAlarm := false
          state := if ch.settled = true then .refill else .settle
          sampleCount := 0
          ring := []
          hold := none
          verify := 0 }
      else { ch with faultInAlarm := false }
    let after (base : State) (slots : List Slot) (source target : Nat) (t : State) : Prop :=
      Reported base .fireReset target source t ∧ Consequent
          { base with
            ds := { s.ds with channels := s.ds.channels.map reset }
            nt := { s.nt with slots := slots } } t ∧
        t.fl.gallery = (if slots.any (fun k => decide (k.offeredFire = .fire)) then .caution else .quiet) ∧
        t.fl.cause = ⟨.none, none, none, none⟩ ∧ t.fl.confirm = none ∧ t.nt.latch = none ∧
        t.fl.walkActive = false ∧
        (s.fl.walkActive = true →
          Reports base .walkEnd 4 (bitsToNat s.fl.tested) t ∧ t.fl.walkTimer = none ∧
            t.fl.tested = List.replicate 16 false ∧ t.fl.lastRecorded = List.replicate 16 none) ∧
        (s.fl.walkActive = false →
          t.fl.walkTimer = s.fl.walkTimer ∧ t.fl.tested = s.fl.tested ∧ t.fl.lastRecorded = s.fl.lastRecorded)
    let cleared := s.nt.slots.map fun k =>
      if k.id ≠ 0 ∧ k.presence = .silent then { k with fire := .quiet, f := 15 } else k
    (s.listens = true → s.running = true →
      (∀ p, s.activeFirePoint = some p →
        exec .fireReset s = .next ((s.report .resetRefused p 0).respond .errActive)) ∧
      (s.activeFirePoint = none → Completes .fireReset s fun t => after (s.respond .ok) s.nt.slots 0 s.nodeId t)) ∧
    (s.awake = true → s.receives = true → wfSource src = true → src.toNat ≠ s.nodeId → 1 ≤ target.toNat →
      target.toNat ≤ 63 →
      (target.toNat ≠ s.nodeId → target.toNat ≠ 63 → exec (.orderFireReset src target) s = .next s) ∧
      (∀ p, s.activeFirePoint = some p → target.toNat = s.nodeId ∨ target.toNat = 63 →
        exec (.orderFireReset src target) s = .next (s.report .resetRefused p src.toNat)) ∧
      (s.activeFirePoint = none → target.toNat = s.nodeId → target.toNat ≠ 63 →
        Completes (.orderFireReset src target) s fun t => after s s.nt.slots src.toNat s.nodeId t) ∧
      (s.activeFirePoint = none → target.toNat = 63 →
        Completes (.orderFireReset src target) s fun t =>
          after s cleared src.toNat 63 t ∧
            ∀ k < 8, (s.slot k).id ≠ 0 → (s.slot k).presence = .silent → (s.slot k).fire ≠ .quiet ∨ (s.slot k).f ≠ 15 →
              Reported s .neighbourCleared k (s.slot k).fire.code t))

/-! ### Chapter 3: the node line -/

/-- R42 to R46: a well-formed telegram put on the line, with its check and its stuff bits, is received as that telegram. That the frame is a
codec beside the commands is the model's choice (log 27). -/
def Obligations.TelegramReceivedAsSent : Prop := ∀ t : Telegram, t.wf = true → receive t.frame = .good t

/-- R54, R55, R56: how an offer is decided. The order of the queue is a statement of its own.
R55: what collapses: a STATE into a queued STATE, a CALL into a queued CALL of the same source index, and nothing else. -/
def Obligations.OfferDecided : Prop :=
  (∀ (body : Payload) (e : TxEntry), collapsesInto body e = true ↔
    (∃ p q, body = .state p ∧ e.body = .state q) ∨ ∃ p q, body = .call p ∧ e.body = .call q ∧ p.source = q.source) ∧
  ∀ (s : State) (body : Payload) (cls : Nat), s.Bounded → s.QueueOrdered →
    let q := s.lc.queue
    let r := s.lc.offer s.offersOpen body cls
    let joined : TxEntry := ⟨body, cls, s.lc.nextAge, 0, false, false⟩
    (s.running = false ∨ s.nodeId = 0 → r = (s.lc, .notEntered)) ∧
    (s.running = true → s.nodeId ≠ 0 →
      (∀ e ∈ q, collapsesInto body e = true →
        r.2 = .collapsed ∧ r.1.queueDiscard = s.lc.queueDiscard ∧
          r.1.queue.Perm
            ({ e with body := body, cls := min e.cls cls, replaced := e.replaced || e.onLine } :: q.erase e)) ∧
      ((∀ e ∈ q, collapsesInto body e = false) → q.length < 8 →
        r.2 = .entered ∧ r.1.queueDiscard = s.lc.queueDiscard ∧ r.1.queue.Perm (joined :: q)) ∧
      ((∀ e ∈ q, collapsesInto body e = false) → q.length = 8 →
        (∀ v ∈ q, v.onLine = false → (∀ e ∈ q, e.onLine = true ∨ e = v ∨ e.cls < v.cls ∨ (e.cls = v.cls ∧ e.age < v.age)) →
          r.1.queueDiscard = true ∧
          (cls < v.cls → r.2 = .entered ∧ r.1.queue.Perm (joined :: q.erase v)) ∧
          (v.cls ≤ cls → r.2 = .discarded ∧ r.1.queue = q))))

/-- R49, R50: the head of the queue is sent at an idle, and a loss leaves it queued.
R51: a collision counts at the entry on the line; the fourth sets COLLISION (at exactly the fourth, no loss or collision without a telegram
of the node's own on the line, and no second one beside it: log 26), and the node is deaf to the rest of the line's traffic, whose start bit came
before the collision, until the next idle: the one at which it contends again, at which a stuck period ends, or which the clock and the next
telegram of another node show (log 26, 38; the last of them is TelegramsNotDispatched's). Where it is the first fault member the node-fault call is offered
to the line next, and nothing else is. That COLLISION is reported before the node-fault call is (CALL_RAISED or CALL_REMINDER) is log 7's order.
R50, R51, R61: every step keeps the entry of a telegram on the line queued, and a telegram waiting at a deaf node that is in RUN with an id. -/
def Obligations.ContentionDecided : Prop :=
  (∀ s : State,
      (∀ e rest, s.lc.queue = e :: rest → s.running = true → s.nodeId ≠ 0 → s.lc.stuckPeriod = false →
        s.lc.sending = none →
        exec .contend s = .next { s with
          lc := { s.lc with
            queue := { e with onLine := true } :: rest
            sending := some ⟨BitVec.ofNat 2 e.cls, BitVec.ofNat 6 s.nodeId, e.body⟩
            deaf := none } }) ∧
      (s.running = false ∨ s.nodeId = 0 ∨ s.lc.queue = [] ∨ s.lc.stuckPeriod = true ∨ s.lc.sending ≠ none →
        exec .contend s = .next s) ∧
      (s.awake = true → s.lc.sending ≠ none →
        exec .loss s = .next { s with
          lc := { s.lc with
            queue := s.lc.queue.map fun e => { e with onLine := false, replaced := false }
            sending := none } })) ∧
  (∀ (s : State) (before after : List TxEntry) (e : TxEntry), s.awake = true → s.Shaped → s.lc.sending ≠ none →
      s.lc.queue = before ++ e :: after → e.onLine = true → (∀ x ∈ before ++ after, x.onLine = false) →
      let fourth := decide (e.collisions = 3)
      let u : State := { s with
        lc := { s.lc with
          queue := before ++ { e with onLine := false, replaced := false, collisions := e.collisions + 1 } :: after
          sending := none
          deaf := some s.now
          collision := s.lc.collision || fourth } }
      let reported := u.reportIf (fourth && !s.lc.collision) .collision e.body.kindCode (e.cls * 256 + 1)
      (s.hasFault = true ∨ fourth = false → exec .lineCollision s = .next reported) ∧
      (s.hasFault = false → fourth = true →
        Completes .lineCollision s fun t =>
          CallConsequent reported t ∧
            ∃ c, t.call 16 = some c ∧ t.lc = (u.lc.offer u.offersOpen (.call (c.payload 16)) 1).1)) ∧
  (∀ s t : State, s.LineFollows → step s = .next t → t.LineFollows)

/-- R52, R58, R70, R139: a telegram sent leaves the queue, or stays with the contents it was given meanwhile; COLLISION is cleared and
that reported; the completion is handed on by kind. A flag code of an ORDER is applied again, EVACUATE_ON clearing the silence latch (R73);
what follows makes offers to the queue as it then stands. That the clearing of COLLISION is reported before the flag is, and the flag before what
other blocks report, is log 7's order. -/
def Obligations.TransmissionCompletes : Prop :=
  ∀ (s : State) (before after : List TxEntry) (e : TxEntry) (sent : Telegram), s.running = true → s.nodeId ≠ 0 →
    s.lc.sending = some sent → s.lc.queue = before ++ e :: after → e.onLine = true → (∀ x ∈ before, x.onLine = false) →
    let kept := if e.replaced = true then [{ e with onLine := false, replaced := false, collisions := 0 }] else []
    let freed : State := State.reportIf
      { s with lc := { s.lc with queue := before ++ kept ++ after, sending := none, collision := false } }
      s.lc.collision .collision 0xFFFF 0xFF00
    ((∃ p, sent.body = .call p) ∨ (∃ p, sent.body = .clear p) ∨ (∃ p, sent.body = .giveup p) →
      exec .transmissionCompletion s = .next freed) ∧
    ((∃ p, sent.body = .state p) →
      exec .transmissionCompletion s = .next { freed with
        lc := { freed.lc with refresh := some (s.now + s.cl.node.h * Config.second) } }) ∧
    (∀ p x, sent.body = .take p → s.entry p.origin.toNat p.source.toNat = some x → x.state = .taking →
      x.serial = p.serial.toNat →
      exec .transmissionCompletion s =
        .next (freed.relist { x with takeTimeout := some (s.now + 5 * Config.second) })) ∧
    (∀ p, sent.body = .take p →
      (∀ x, s.entry p.origin.toNat p.source.toNat = some x → x.state ≠ .taking ∨ x.serial ≠ p.serial.toNat) →
      exec .transmissionCompletion s = .next freed) ∧
    (∀ p, sent.body = .order p → 4 ≤ p.code.toNat → exec .transmissionCompletion s = .next freed) ∧
    (∀ p, sent.body = .order p → p.code.toNat ≤ 3 →
      let flagged : State := { freed with
        nt := { s.nt with
          mode := if p.code = 0 then .day else if p.code = 1 then .night else s.nt.mode
          evacuate := if p.code = 2 then true else if p.code = 3 then false else s.nt.evacuate
          orderHeard := true } }
      Completes .transmissionCompletion s fun t =>
        Consequent flagged t ∧ (p.code = 2 → t.nt.latch = none) ∧
          ReportsIf (decide (flagged.nt.mode ≠ s.nt.mode)) flagged .buildingMode s.nodeId flagged.nt.mode.code t ∧
          ReportsIf (decide (flagged.nt.evacuate ≠ s.nt.evacuate)) flagged .buildingEvacuate s.nodeId
            (if flagged.nt.evacuate = true then 1 else 0) t)

/-- R48, R51, R61: a stuck period begins and ends, the idle at its end ending the deafness too, since restart or after a collision, and the
episode is over when the stuck-clear timer expires.
That the line's report comes before a call's is log 7's order. -/
def Obligations.StuckPeriods : Prop :=
  ∀ s : State, s.awake = true →
    (let u : State := { s with lc := { s.lc with stuckPeriod := true, lineStuck := true, stuckClear := none } }
     Completes .stuckPeriodStart s fun t =>
        CallConsequent u t ∧ ReportsIf (!s.lc.lineStuck) u .lineStuck 0xFFFF 1 t ∧ t.hasFault = true) ∧
    (s.lc.stuckPeriod = true →
      exec .stuckPeriodEnd s = .next { s with
        lc := { s.lc with stuckPeriod := false, stuckClear := some (s.now + Config.second), deaf := none } }) ∧
    (∀ deadline, s.lc.stuckClear = some deadline →
      exec .stuckClearTimerExpiry s = .next
        (State.reportIf
          { s with now := max s.now deadline, lc := { s.lc with lineStuck := false, stuckClear := none } }
          s.lc.lineStuck .lineStuck 0xFFFF 0))

/-- R47: a check error of any cause, in a telegram that the node receives, enters the noise window; a time leaves it when it is 60 s old. Where
the error finds the newest of the window's times as old as that and LINE_NOISY set, the clearing is reported, and no setting.
That the line's report comes before a call's is log 7's order. -/
def Obligations.NoiseWindow : Prop :=
  ∀ (s : State) (why : CheckErrorCause), s.awake = true → s.Bounded →
    (let kept := s.lc.noise.filter fun t => decide (s.now < t + 60 * Config.second)
      let quiet := s.lc.lineNoisy && decide (kept = []) && decide (s.lc.noise ≠ [])
      let window := (if kept.length = 9 then kept.tail else kept) ++ [s.now]
      let u : State := { s with
        lc := { s.lc with
          noise := window, lineNoisy := (s.lc.lineNoisy && !quiet) || decide (window.length = 9) } }
      s.receives = true →
      Completes (.checkError why) s fun t =>
        CallConsequent u t ∧
          (quiet = false →
            ReportsIf (decide (window.length = 9) && !s.lc.lineNoisy) u .lineNoisy 0xFFFF 1 t) ∧
          (quiet = true → u.lc.lineNoisy = false ∧ t.ap.reports = (u.report .lineNoisy 0xFFFF 0).ap.reports)) ∧
    (∀ first rest, s.lc.noise = first :: rest →
      exec .noiseWindowAgeOut s = .next
        (State.reportIf
          { s with
            now := max s.now (first + 60 * Config.second)
            lc := { s.lc with noise := rest, lineNoisy := s.lc.lineNoisy && decide (rest ≠ []) } }
          (s.lc.lineNoisy && decide (rest = [])) .lineNoisy 0xFFFF 0))

/-- R46: no telegram and no check error is received while the node sends one that it has not lost.
R41, R51, R61: at a deaf node a telegram is received in full where its start bit came when the node hears one again, and ignored where it came
before: in progress when the node left LOADING, or the rest of the traffic in which it collided. The clock at its end tells which, given how
many bits a telegram has at the fewest and at the most (DEDUCED, log 38); between the two it is a free value, and this holds for either; that
the free choice is counted is the model's. The idle at its end ends the deafness, but within the first 11 bit times after LOADING, in which the
node cannot have seen it (log 38).
R53: another node's telegram bears this node's id, in the row of its own and in an arrival of every kind.
R44, R46: a telegram of an unknown kind, and a malformed one of each kind, is discarded without any effect (at a deaf node: none but the end
of the deafness and the count of a free choice, as above).
That DUPLICATE_ID comes before a call's report is log 7's order. -/
def Obligations.TelegramsNotDispatched : Prop :=
  (∀ (s : State) (kind : TelegramKind) (why : CheckErrorCause) (what : DiscardCause) (src : BitVec 6) (st : StatePayload)
      (ca : CallPayload) (cl : ClearPayload) (re : RefPayload) (target door : Byte),
      (s.receives = true ↔ s.lc.sending = none ∧ s.lc.deaf = none) ∧
      (∀ row ∈ [(Instr.checkError why, 12, 185), (.telegramDiscarded what, 37, 158),
          (.duplicateId kind, if kind = .clear then (69, 85) else (61, 75)), (.clearArrival src cl, 69, 85),
          (.clearRequestArrival src cl, 69, 85), (.stateArrival src st, 61, 75), (.callArrival src ca, 61, 75),
          (.takeArrival src re, 61, 75), (.giveupArrival src re, 61, 75), (.orderModeDay src target, 61, 75),
          (.orderModeNight src target, 61, 75), (.orderEvacuateOn src target, 61, 75), (.orderEvacuateOff src target, 61, 75),
          (.orderSilence src target, 61, 75), (.orderFireReset src target, 61, 75), (.orderDoorPulse src target door, 61, 75)],
        let c := row.1
        let fewest : Nat := row.2.1 * 2
        let most : Nat := row.2.2 * 2
        (s.lc.sending ≠ none → exec c s = .next s) ∧
        (∀ hears, s.awake = true → s.lc.sending = none → s.lc.deaf = some hears →
          let idle : State := { s with lc := { s.lc with deaf := none } }
          let chosen : State := { idle with freeCount := s.freeCount + 1 }
          (s.now < hears → exec c s = .next s) ∧
          (hears ≤ s.now → s.now < hears + fewest → exec c s = .next idle) ∧
          (hears + fewest ≤ s.now → s.now < hears + most →
            exec c s = if Config.freeIdle s.freeCount = true then exec c chosen else .next chosen) ∧
          (hears + most ≤ s.now → exec c s = exec c idle)))) ∧
  (∀ (s : State) (kind : TelegramKind) (src : BitVec 6) (st : StatePayload) (ca : CallPayload) (cl : ClearPayload)
      (re : RefPayload) (target door : Byte), s.awake = true → s.receives = true →
      let u : State := { s with lc := { s.lc with duplicateId := true } }
      let duplicate (c : Instr) (kindCode : Nat) : Prop :=
        Completes c s fun t =>
          CallConsequent u t ∧ ReportsIf (!s.lc.duplicateId) u .duplicateId s.nodeId kindCode t ∧ t.hasFault = true
      (s.nodeId = 0 → exec (.duplicateId kind) s = .next s) ∧
      (s.nodeId ≠ 0 → duplicate (.duplicateId kind) kind.code) ∧
      (wfSource src = true → src.toNat = s.nodeId →
        (st.wf = true → duplicate (.stateArrival src st) 1) ∧
        (ca.wf = true → duplicate (.callArrival src ca) 2) ∧
        (re.wf = true → duplicate (.takeArrival src re) 3 ∧ duplicate (.giveupArrival src re) 5) ∧
        (cl.wf = true → duplicate (.clearArrival src cl) 4 ∧ duplicate (.clearRequestArrival src cl) 4) ∧
        (1 ≤ target.toNat → target.toNat ≤ 63 →
          duplicate (.orderModeDay src target) 6 ∧ duplicate (.orderModeNight src target) 6 ∧
            duplicate (.orderEvacuateOn src target) 6 ∧ duplicate (.orderEvacuateOff src target) 6 ∧
            duplicate (.orderSilence src target) 6 ∧ duplicate (.orderFireReset src target) 6 ∧
            (door.toNat ≤ 7 → duplicate (.orderDoorPulse src target door) 6)))) ∧
  (∀ (s : State) (why : DiscardCause) (src : BitVec 6) (st : StatePayload) (ca : CallPayload) (cl : ClearPayload)
      (re : RefPayload) (target door : Byte), s.lc.deaf = none →
      let badSource := src = 0 ∨ src = 63
      exec (.telegramDiscarded why) s = .next s ∧
      (badSource ∨ st.h.toNat = 0 ∨ 8 < st.h.toNat → exec (.stateArrival src st) s = .next s) ∧
      (badSource ∨ 16 < ca.source.toNat ∨ 5 < ca.kind.toNat ∨ ca.taker = 63 ∨ (ca.taken = true ∧ ca.taker = 0) ∨
          (ca.taken = false ∧ ca.taker ≠ 0) →
        exec (.callArrival src ca) s = .next s) ∧
      (badSource ∨ cl.origin = 0 ∨ 62 < cl.origin.toNat ∨ 16 < cl.source.toNat ∨ 15 < cl.serial.toNat ∨
          62 < cl.clearedBy.toNat →
        exec (.clearArrival src cl) s = .next s ∧ exec (.clearRequestArrival src cl) s = .next s) ∧
      (badSource ∨ re.origin = 0 ∨ 62 < re.origin.toNat ∨ 16 < re.source.toNat ∨ 15 < re.serial.toNat →
        exec (.takeArrival src re) s = .next s ∧ exec (.giveupArrival src re) s = .next s) ∧
      (badSource ∨ target = 0 ∨ 63 < target.toNat →
        exec (.orderModeDay src target) s = .next s ∧ exec (.orderModeNight src target) s = .next s ∧
          exec (.orderEvacuateOn src target) s = .next s ∧ exec (.orderEvacuateOff src target) s = .next s ∧
          exec (.orderSilence src target) s = .next s ∧ exec (.orderFireReset src target) s = .next s) ∧
      (badSource ∨ target = 0 ∨ 63 < target.toNat ∨ 7 < door.toNat → exec (.orderDoorPulse src target door) s = .next s))

/-- R58: the refresh timer's expiry offers a STATE of class 0 in FIRE and of class 3 otherwise.
R57: whatever command changes the contents of the STATE in RUN, a STATE with the new contents stands in the queue, of class 0 in FIRE or
where f has changed and of class 2 at most otherwise, or a discard has been marked (R56); and every step keeps the last STATE offered the one
of the moment. -/
def Obligations.RefreshOffersState : Prop :=
  let contents (s : State) : StatePayload :=
    { f := BitVec.ofNat 4 s.ru.f
      x := BitVec.ofNat 4 s.ru.announcedX
      fire := s.fl.gallery
      role := s.cl.node.role
      testRunning := decide (s.dt.state = .running)
      h := BitVec.ofNat 4 s.cl.node.h
      mode := s.nt.mode
      evacuate := s.nt.evacuate }
  (∀ (s : State) (deadline : Nat), s.running = true → s.nodeId ≠ 0 → s.lc.refresh = some deadline →
      let now := max s.now deadline
      exec .refreshTimerExpiry s = .next { s with
        now := now
        lc := { (s.lc.offer true (.state (contents s)) (if s.fl.gallery = .fire then 0 else 3)).1 with
          lastState := some (contents s)
          refresh := some (now + s.cl.node.h * Config.second) } }) ∧
  (∀ (c : Instr) (s t : State), s.running = true → s.nodeId ≠ 0 → s.LastStateFollows → exec c s = .next t →
      t.running = true → contents t ≠ contents s →
      (∃ e ∈ t.lc.queue, e.body = .state (contents t) ∧
        e.cls ≤ (if t.fl.gallery = .fire ∨ (contents t).f ≠ (contents s).f then 0 else 2)) ∨
      t.lc.queueDiscard = true) ∧
  (∀ s t : State, s.TestFollows → s.LastStateFollows → step s = .next t → t.LastStateFollows)

/-! ### Chapter 4: neighbour table and building flags -/

/-- R64, R69: a STATE is taken into the slot of its source id, and a station's flags are adopted while none have been heard.
R71: a flag that an adoption changes is reported with the station's id under the mark ADOPTED, 1 in the high byte.
That the slot's report comes before those of the flags is log 31's order, that it comes before those of other blocks log 7's. -/
def Obligations.StateArrives : Prop :=
  ∀ (s : State) (src : BitVec 6) (p : StatePayload), s.awake = true → s.receives = true → s.Shaped → wfSource src = true →
    p.wf = true → src.toNat ≠ s.nodeId →
    let adopts := s.nt.orderHeard = false ∧ p.role = .station
    let flags (slots : List Slot) : State := { s with
      nt := { s.nt with
        slots := slots
        mode := if adopts then p.mode else s.nt.mode
        evacuate := if adopts then p.evacuate else s.nt.evacuate
        orderHeard := if adopts then true else s.nt.orderHeard } }
    let adopted (t : State) : Prop :=
      adopts →
        (p.mode ≠ s.nt.mode → Reported s .buildingMode (256 + src.toNat) p.mode.code t) ∧
          (p.evacuate ≠ s.nt.evacuate →
            Reported s .buildingEvacuate (256 + src.toNat) (if p.evacuate = true then 1 else 0) t)
    ((∀ k : Fin 8, (s.slot k).id ≠ src.toNat) →
      Completes (.stateArrival src p) s fun t => Consequent (flags s.nt.slots) t ∧ adopted t) ∧
    (∀ k : Fin 8, (s.slot k).id = src.toNat → (∀ j : Fin 8, j < k → (s.slot j).id ≠ src.toNat) →
      let heard := flags (s.nt.slots.set k { s.slot k with
        presence := .fresh
        fire := p.fire
        f := p.f.toNat
        x := p.x.toNat
        h := some p.h.toNat
        test := p.testRunning
        deadline := some (s.now + 3 * p.h.toNat * Config.second) })
      Completes (.stateArrival src p) s fun t =>
        Consequent heard t ∧ adopted t ∧
          ((s.slot k).presence = .absent → Reports heard .neighbourHeard k p.fire.code t) ∧
          ((s.slot k).presence = .silent → Reports heard .neighbourBack k p.fire.code t))

/-- R65: a freshness deadline expires. That NEIGHBOUR_SILENT comes before what other blocks report is log 7's order. -/
def Obligations.SlotFallsSilent : Prop :=
  ∀ (s : State) (k : Fin 8) (deadline : Nat), s.awake = true → s.Shaped → (s.slot k).deadline = some deadline →
    let u : State := { s with
      now := max s.now deadline
      nt := { s.nt with
        slots := s.nt.slots.set k { s.slot k with presence := .silent, x := 15, test := false, deadline := none } } }
    Completes (.freshnessDeadlineExpiry k) s fun t =>
      Consequent u t ∧ Reports u .neighbourSilent k (s.slot k).fire.code t ∧ ((s.slot k).id ≠ 0 → t.hasFault = true)

/-- R68, R71: the four flag orders, whatever their target.
R72: a SILENCE for this node or for all sets the latch with the fire distance of the moment; any other leaves it. That a SILENCE which
finds the latch set is reported too is log 34's reading.
R73: whatever command clears a set latch, this is reported with the reason: RESET (3) at a fire reset, EVACUATE (2) where an EVACUATE_ON is
taken, else NEARER (0) where f is below f_s and NO_FIRE (1) where it is 15 (the codes: the order of R73's table, log 14); but for a SILENCE
no command changes the f_s of a latch that stays set.
That the flag's report comes before what other blocks report is log 7's order. -/
def Obligations.OrdersTaken : Prop :=
  (∀ (s : State) (src : BitVec 6) (target : Byte), s.awake = true → s.receives = true → wfSource src = true →
      src.toNat ≠ s.nodeId → 1 ≤ target.toNat → target.toNat ≤ 63 →
      let mode (m : Mode) : State := { s with nt := { s.nt with mode := m, orderHeard := true } }
      let evacuate (on : Bool) : State := { s with nt := { s.nt with evacuate := on, orderHeard := true } }
      (Completes (.orderModeDay src target) s fun t =>
        Consequent (mode .day) t ∧ ReportsIf (decide (s.nt.mode = .night)) (mode .day) .buildingMode src.toNat 0 t) ∧
      (Completes (.orderModeNight src target) s fun t =>
        Consequent (mode .night) t ∧ ReportsIf (decide (s.nt.mode = .day)) (mode .night) .buildingMode src.toNat 1 t) ∧
      (Completes (.orderEvacuateOn src target) s fun t =>
        Consequent (evacuate true) t ∧ t.nt.latch = none ∧
          ReportsIf (!s.nt.evacuate) (evacuate true) .buildingEvacuate src.toNat 1 t) ∧
      (Completes (.orderEvacuateOff src target) s fun t =>
        Consequent (evacuate false) t ∧ ReportsIf s.nt.evacuate (evacuate false) .buildingEvacuate src.toNat 0 t)) ∧
  (∀ (s : State) (src : BitVec 6) (target : Byte), s.awake = true → s.receives = true → wfSource src = true →
      src.toNat ≠ s.nodeId → 1 ≤ target.toNat → target.toNat ≤ 63 →
      (target.toNat = s.nodeId ∨ target.toNat = 63 →
        exec (.orderSilence src target) s =
          .next (State.report { s with nt := { s.nt with latch := some s.ru.f } } .silenceLatch src.toNat
            (s.ru.f * 256 + 1))) ∧
      (target.toNat ≠ s.nodeId → target.toNat ≠ 63 → exec (.orderSilence src target) s = .next s)) ∧
  (∀ (c : Instr) (s t : State) (stored : Nat), s.awake = true → t.awake = true → s.RouteFollows → s.nt.latch = some stored →
      exec c s = .next t → (∀ src target, c ≠ .orderSilence src target) →
      let reset := c = .fireReset ∨ ∃ src target, c = .orderFireReset src target
      let evacuates := c = .transmissionCompletion ∨ (∃ src target, c = .orderEvacuateOn src target) ∨
        ∃ target door, c = .order 2 target door
      (t.nt.latch = none ∨ t.nt.latch = some stored) ∧
        (t.nt.latch = none →
          (reset → Reported s .silenceLatch 3 0xFF00 t) ∧
            (evacuates → Reported s .silenceLatch 2 0xFF00 t) ∧
            (¬reset → ¬evacuates →
              (t.ru.f < stored → Reported s .silenceLatch 0 0xFF00 t) ∧
                (stored ≤ t.ru.f → t.ru.f = 15 ∧ Reported s .silenceLatch 1 0xFF00 t))))

/-! ### Chapter 5: fire and exit distances -/

/-- R77 to R83: the distances and the via that a computation finds.
R85: after whatever command in RUN, the one that enters it among them, the route record is the one a computation finds there, the via before the
command being the present one.
R84, R88: whatever command changes the evacuating condition, this is reported as EVACUATING, and a change of x_local to 15 or from 15 in
RUN as NO_ROUTE, the first computation taking the x_local before it as below 15 and via NONE. That a via LOCAL is coded 8 in NO_ROUTE's
subject is log 35's. -/
def Obligations.RouteComputed : Prop :=
  (∀ s : State, s.Shaped → (∀ k ∈ s.nt.slots, 1 ≤ k.cost) →
    let r := s.computedRoute
    let used (i : Nat) : Prop := (s.slot i).id ≠ 0
    let fireSum (i : Nat) : Nat :=
      if (s.slot i).presence = .absent then 15 else min 15 ((s.slot i).f + (s.slot i).cost)
    let exitAt (d : Nat) : Prop := (s.door d).cfg.kind = .exit ∧ (s.door d).state ≠ .jammed
    let usable (i : Nat) : Prop :=
      used i ∧ (s.slot i).presence = .fresh ∧
        ∀ d, (s.slot i).link = some d → (s.door d).cfg.kind = .gallery ∧ (s.door d).state ≠ .jammed
    let exitSum (i : Nat) : Nat := min 15 ((s.slot i).x + (s.slot i).cost)
    let achieves (i : Nat) : Prop := i < 8 ∧ usable i ∧ exitSum i = r.xLocal
    (s.fl.gallery = .fire → r.f = 0) ∧
    (s.fl.gallery ≠ .fire →
      r.f ≤ 15 ∧ (∀ i < 8, used i → r.f ≤ fireSum i) ∧ (r.f = 15 ∨ ∃ i < 8, used i ∧ r.f = fireSum i)) ∧
    (∀ d < 8, exitAt d → (∀ j < d, ¬exitAt j) → r.xLocal = 0 ∧ r.via = .own ∧ r.exitDoor = some d) ∧
    ((∀ d < 8, ¬exitAt d) →
      r.exitDoor = none ∧ r.xLocal ≤ 15 ∧ (∀ i < 8, usable i → r.xLocal ≤ exitSum i) ∧
        (r.xLocal = 15 → r.via = .none) ∧
        (r.xLocal < 15 →
          (∀ i, s.ru.via = .slot i → achieves i → r.via = .slot i) ∧
          ((∀ i, s.ru.via = .slot i → ¬achieves i) →
            ∃ i, r.via = .slot i ∧ achieves i ∧
              ∀ j, achieves j → (s.slot i).cost < (s.slot j).cost ∨ ((s.slot i).cost = (s.slot j).cost ∧ i ≤ j)))) ∧
    r.announcedX = if s.fl.gallery = .fire then 15 else r.xLocal) ∧
  (∀ (c : Instr) (s t : State), s.awake = true → t.running = true → s.Shaped → s.RouteFollows → exec c s = .next t →
    t.ru = State.computedRoute { t with ru := s.ru }) ∧
  (∀ (c : Instr) (s t : State), s.awake = true → t.awake = true → s.RouteFollows → exec c s = .next t →
    let before := if s.running = true then s.ru.xLocal else 0
    let via := if s.running = true then s.ru.via.code else 9
    (∀ cause, s.ru.evacuating = none → t.ru.evacuating = some cause →
      Reported s .evacuating t.ru.f (cause.code * 256 + 1) t) ∧
    (s.ru.evacuating ≠ none → t.ru.evacuating = none → Reported s .evacuating t.ru.f 0xFF00 t) ∧
    (t.running = true → before < 15 → t.ru.xLocal = 15 → Reported s .noRoute via 0xFF01 t) ∧
    (t.running = true → before = 15 → t.ru.xLocal < 15 → Reported s .noRoute via (t.ru.via.code * 256) t))

/-- R2, R58, R86, R177, R178: RUN is entered at the LISTEN timer's expiry and at a change of the gallery fire state to FIRE in LISTEN, and at no
other command: the LISTEN timer stops, the detector timers start, the route is computed, and at a node with an id the first STATE is offered
with the computed values, of class 0 in FIRE or with f below 15 and else of class 2 (R57), the refresh timer is started, and then a CALL of
every call present is offered in table order (R115, R119). Every re-announce timer is started afresh. Of the line controller nothing else
changes, but that a telegram whose end brings FIRE ends the deafness since restart (R61). At the timer's expiry nothing else changes but what
other blocks make of the route.
That a node with id 0 leaves its line controller as it is, with no last STATE, is log 32's (DESIGN CHOICE), the order of what the blocks do at
an event that enters RUN by FIRE log 7's outside R178's list. -/
def Obligations.ListenEnds : Prop :=
  let again (t : State) (c : Call) : Timer := some (t.now + (if c.taker = 0 then 16 else 32) * Config.second)
  let entered (s t : State) : Prop :=
    let contents : StatePayload :=
      { f := BitVec.ofNat 4 t.ru.f
        x := BitVec.ofNat 4 t.ru.announcedX
        fire := t.fl.gallery
        role := s.cl.node.role
        testRunning := decide (s.dt.state = .running)
        h := BitVec.ofNat 4 s.cl.node.h
        mode := t.nt.mode
        evacuate := t.nt.evacuate }
    let cls := if t.fl.gallery = .fire ∨ t.ru.f < 15 then 0 else 2
    let before : LineController := { s.lc with deaf := t.lc.deaf }
    let first : LineController := { (before.offer true (.state contents) cls).1 with
      lastState := some contents, refresh := some (t.now + s.cl.node.h * Config.second) }
    let offerCall (lc : LineController) (source : Nat) : LineController :=
      match t.call source with
      | some c => (lc.offer true (.call (c.payload source)) 1).1
      | none => lc
    t.cl.phase = .run ∧ t.cl.listen = none ∧
      t.ds.drift = some (t.now + s.cl.node.driftMinutes * (60 * Config.second)) ∧
      t.ds.rate = some (t.now + s.cl.node.rateSeconds * Config.second) ∧
      t.ru = State.computedRoute { t with ru := s.ru } ∧
      (s.nodeId ≠ 0 → t.lc = t.tableOrder.foldl offerCall first) ∧ (s.nodeId = 0 → t.lc = before) ∧
      (t.lc.deaf ≠ none → t.lc.deaf = s.lc.deaf) ∧
      ∀ source < 17, ∀ c, t.call source = some c → c.reannounce = again t c
  (∀ (s : State) (deadline : Nat), s.Shaped → s.PrioritiesFollow → s.cl.phase = .listen → s.cl.listen = some deadline →
    let now := max s.now deadline
    Completes .listenTimerExpiry s fun t =>
      Consequent { s with now := now } t ∧ entered s t ∧ t.lc.deaf = s.lc.deaf ∧ t.ru = s.computedRoute ∧ t.fl = s.fl ∧
        ∀ source < 16,
          t.call source = (s.call source).map fun c => { c with
            current := if c.kind = .help ∧ t.ru.evacuating ≠ none then 0 else c.escalated, reannounce := again t c }) ∧
  (∀ (c : Instr) (s t : State), s.Shaped → s.LineFollows → s.cl.phase = .listen → exec c s = .next t → t.awake = true →
    (s.fl.gallery ≠ .fire → t.fl.gallery = .fire → entered s t ∧ t.ru.f = 0 ∧ t.ru.evacuating ≠ none) ∧
      (t.running = true →
        c = .listenTimerExpiry ∨ (s.fl.gallery ≠ .fire ∧ t.fl.gallery = .fire)))

/-! ### Chapter 6: doors -/

/-- R92, R94, R106: the lock drive of a used door, and its jam comparison: made afresh at a change of the drive, and where the event asks
for it.
R93, R105: what a command that is none of the door's own makes of a used door: the table of R105 where its free condition begins or ends,
then the drives. -/
def Obligations.LockDriveAndJamComparison : Prop :=
  (∀ (s : State) (d : Door) (now : Nat), d.cfg.kind ≠ .unused →
      let free := s.freeCondition d
      let drive : Lock :=
        if free = true ∨ d.state = .access ∨ (d.state = .openTimed ∧ d.accessMark = true) then .free else .lock
      let runs : Prop :=
        d.cfg.feedback = true ∧ d.contact = some .shut ∧
          ∃ v, d.feedback = some v ∧ (d.state = .jammed ↔ v = drive)
      (free = true ↔
        (s.nt.mode = .day ∧ (d.cfg.kind = .gallery ∨ d.cfg.kind = .exit)) ∨
          (s.ru.evacuating ≠ none ∧ d.cfg.kind ≠ .store)) ∧
      (d.lock = drive → d.drive free now = d) ∧
      (d.lock ≠ drive → d.drive free now = d.driveAfresh free now) ∧
      (runs → d.driveAfresh free now = { d with lock := drive, jamTimer := some (now + 3 * Config.second) }) ∧
      (¬runs → d.driveAfresh free now = { d with lock := drive, jamTimer := none })) ∧
  (∀ (c : Instr) (s t : State) (d : Nat), s.awake = true → s.Shaped → s.DrivesFollow → actsOnDoors c = false →
      exec c s = .next t → t.awake = true → d < 8 → (s.door d).cfg.kind ≠ .unused →
      let door := s.door d
      let before := s.freeCondition door
      let free := t.freeCondition door
      let moved : Door :=
        match before, free, door.state with
        | false, true, .shutLocked => { door with state := .shutFree }
        | false, true, .access => { door with state := .shutFree, accessTimer := none }
        | false, true, .openTimed => { door with state := .openFree, openTimer := none, accessMark := false }
        | false, true, .openLong => { door with state := .openFree }
        | false, true, .forced => { door with state := .openFree }
        | true, false, .shutFree => { door with state := .shutLocked }
        | true, false, .openFree =>
          { door with
            state := .openTimed
            accessMark := false
            openTimer := some (t.now + door.cfg.limitSeconds * Config.second) }
        | _, _, _ => door
      t.door d = { moved.drive free t.now with magnet := t.magnetDrive d door })

/-- R91, R95, R96: the contact's first qualified value, and an opening (of an unqualified contact: log 23).
R102, R103: the open timer expires.
R113, R117: the alarm's call by the call of its source: raised, replaced, or announced again (a REMINDER set by a replacement is reported:
log 20; a replacement restarts the re-announce timer as every announcement does: log 37). That the door's report comes before the call's is log 7's order. -/
def Obligations.DoorOpensAndIsHeld : Prop :=
  let alarmed (u : State) (source : Nat) (kind : CallKind) (priority : Nat) : State :=
    match u.call source with
    | none =>
      (State.announced { u with cc := { u.cc with serials := u.cc.serials.set source ((u.serial source + 1) % 16) } } source
        { kind := kind
          base := priority
          escalated := priority
          current := priority
          serial := u.serial source
          taker := 0
          overdue := false
          reminder := false
          unanswered := some (u.now + u.cl.node.tesc * Config.second)
          attend := none
          reannounce := none }).report .callRaised source (kind.code * 256 + priority)
    | some c =>
      let reminds := decide (c.taker ≠ 0) && !c.reminder
      let reminded := c.reminder || decide (c.taker ≠ 0)
      if priority < c.base then
        ((u.announced source { c with
            kind := kind
            base := priority
            escalated := min c.escalated priority
            current := min c.escalated priority
            reminder := reminded }).reportIf reminds .callReminder source c.taker).report .callReplaced source kind.code
      else (u.announced source { c with reminder := reminded }).reportIf reminds .callReminder source c.taker
  (∀ (s : State) (d : Fin 8) (value : Contact), s.awake = true → s.Shaped → (s.door d).cfg.kind ≠ .unused →
      let door := s.door d
      let free := s.freeCondition door
      let limit : Timer := some (s.now + door.cfg.limitSeconds * Config.second)
      let put (v : Door) : State := { s with doors := s.doors.set d (v.driveAfresh free s.now) }
      let fromAccess : Door :=
        { door with contact := some .opened, state := .openTimed, accessMark := true, accessTimer := none, openTimer := limit }
      (door.contact = none → door.state ≠ .access → door.state ≠ .jammed →
        exec (.contactFirstQualified d value) s = .next (put
          (match value, free with
          | .shut, true => { door with contact := some .shut, state := .shutFree, accessMark := false, openTimer := none }
          | .shut, false =>
            { door with contact := some .shut, state := .shutLocked, accessMark := false, openTimer := none }
          | .opened, true =>
            { door with contact := some .opened, state := .openFree, accessMark := false, openTimer := none }
          | .opened, false =>
            { door with contact := some .opened, state := .openTimed, accessMark := false, openTimer := limit }))) ∧
      (door.contact = none → door.state = .access →
        exec (.contactFirstQualified d value) s = .next (put
          (match value with
          | .shut => { door with contact := some .shut }
          | .opened => fromAccess))) ∧
      (door.contact ≠ some .opened →
        (door.state = .shutLocked →
          let priority := if s.nt.mode = .night then 0 else 1
          let forced := put { door with contact := some .opened, state := .forced }
          exec (.doorOpening d) s = .next (alarmed (forced.report .doorForced d s.nt.mode.code) (8 + d) .forced priority)) ∧
        (door.state = .shutFree →
          exec (.doorOpening d) s = .next (put { door with contact := some .opened, state := .openFree })) ∧
        (door.state = .access → exec (.doorOpening d) s = .next (put fromAccess)) ∧
        (door.state = .jammed → exec (.doorOpening d) s = .next (put { door with contact := some .opened })))) ∧
  (∀ (s : State) (d : Fin 8) (deadline : Nat), s.awake = true → s.Shaped → (s.door d).state = .openTimed →
      (s.door d).openTimer = some deadline →
      let door := s.door d
      let now := max s.now deadline
      let held : State := { s with
        now := now
        doors := s.doors.set d
          (Door.drive { door with state := .openLong, accessMark := false, openTimer := none } (s.freeCondition door) now) }
      exec (.openTimerExpiry d) s = .next (alarmed (held.report .doorHeld d door.cfg.limitSeconds) (8 + d) .held 3))

/-- R97: a shutting. A shutting in SHUT_LOCKED, SHUT_FREE or ACCESS, which can only be one of an unqualified contact, is not in R97's table:
the contact is recorded and the state kept (log 23). -/
def Obligations.DoorShuts : Prop :=
  ∀ (s : State) (d : Fin 8), s.awake = true → (s.door d).cfg.kind ≠ .unused → (s.door d).contact ≠ some .shut →
    let door := s.door d
    let put (v : Door) : State := { s with doors := s.doors.set d (v.driveAfresh (s.freeCondition door) s.now) }
    (door.state = .openFree →
      exec (.doorShutting d) s = .next (put { door with contact := some .shut, state := .shutFree })) ∧
    (door.state = .openTimed →
      exec (.doorShutting d) s = .next (put
        { door with contact := some .shut, state := .shutLocked, openTimer := none, accessMark := false })) ∧
    (door.state = .openLong ∨ door.state = .forced →
      exec (.doorShutting d) s = .next (put { door with contact := some .shut, state := .shutLocked })) ∧
    (door.state ∈ [.shutLocked, .shutFree, .access, .jammed] →
      exec (.doorShutting d) s = .next (put { door with contact := some .shut }))

/-- R90, R99: a REX press; no input of an UNUSED door is read. The record of the input itself, with the free choice of how long it stays
PRESSED, is log 10's. -/
def Obligations.RexPressGrants : Prop :=
  ∀ (s : State) (d : Fin 8), s.awake = true → s.DrivesFollow →
    let door := { s.door d with rex := ⟨some s.now, s.freeCount⟩ }
    let granted : Door :=
      { door with state := .access, accessTimer := some (s.now + door.cfg.pulseSeconds * Config.second) }
    (door.cfg.kind = .unused →
      exec (.rexPress d) s = .next s ∧ exec (.doorOpening d) s = .next s ∧ exec (.doorShutting d) s = .next s ∧
        ∀ contact feedback,
          exec (.contactFirstQualified d contact) s = .next s ∧
            exec (.feedbackFirstQualified d feedback) s = .next s ∧ exec (.feedbackChange d feedback) s = .next s) ∧
    (door.cfg.kind ≠ .unused → door.state = .shutLocked ∨ door.state = .access →
      exec (.rexPress d) s =
        .next { s with
          doors := s.doors.set d (granted.drive (s.freeCondition door) s.now), freeCount := s.freeCount + 1 }) ∧
    (door.cfg.kind ≠ .unused → door.state ∈ [.shutFree, .openFree, .openTimed, .openLong, .forced, .jammed] →
      exec (.rexPress d) s = .next { s with doors := s.doors.set d door, freeCount := s.freeCount + 1 })

/-- R98, R100, R101: access pulses of the host and of a station, and their expiry.
R59: an ORDER DOOR_PULSE for another node does nothing (at a deaf node what TelegramsNotDispatched says). -/
def Obligations.AccessPulses : Prop :=
  ∀ (s : State) (d : Byte) (src : BitVec 6) (target : Byte), s.awake = true → s.Shaped → s.DrivesFollow →
    let door := s.door d.toNat
    let put (v : Door) : State := { s with doors := s.doors.set d.toNat (v.drive (s.freeCondition door) s.now) }
    let granted := put
      { door with state := .access, accessTimer := some (s.now + door.cfg.pulseSeconds * Config.second) }
    let used := door.cfg.kind ≠ .unused
    let hears := s.receives = true ∧ wfSource src = true ∧ src.toNat ≠ s.nodeId ∧ (target.toNat = s.nodeId ∨ target.toNat = 63) ∧
      1 ≤ target.toNat ∧ target.toNat ≤ 63 ∧ d.toNat < 8
    (s.listens = true → s.running = true →
      (8 ≤ d.toNat → exec (.doorPulse d) s = .next (s.respond .errRange)) ∧
      (d.toNat < 8 → ¬used ∨ door.state = .jammed → exec (.doorPulse d) s = .next (s.respond (.errState .none))) ∧
      (d.toNat < 8 → used → door.state ∈ [.shutLocked, .access] →
        exec (.doorPulse d) s = .next (granted.respond .ok)) ∧
      (d.toNat < 8 → used → door.state ∈ [.shutFree, .openFree, .openTimed, .openLong, .forced] →
        exec (.doorPulse d) s = .next (s.respond .ok))) ∧
    (hears →
      (¬used ∨ door.cfg.remote = false →
        exec (.orderDoorPulse src target d) s = .next (s.report .pulseDenied d.toNat (src.toNat * 256 + 0))) ∧
      (used → door.cfg.remote = true → door.state = .jammed →
        exec (.orderDoorPulse src target d) s = .next (s.report .pulseDenied d.toNat (src.toNat * 256 + 1))) ∧
      (used → door.cfg.remote = true → door.state ∈ [.shutLocked, .access] →
        exec (.orderDoorPulse src target d) s = .next granted) ∧
      (used → door.cfg.remote = true → door.state ∈ [.shutFree, .openFree, .openTimed, .openLong, .forced] →
        exec (.orderDoorPulse src target d) s = .next s)) ∧
    (s.lc.deaf = none → src.toNat ≠ s.nodeId → target.toNat ≠ s.nodeId → target.toNat ≠ 63 →
      exec (.orderDoorPulse src target d) s = .next s) ∧
    (∀ (e : Fin 8) (deadline : Nat), e.val = d.toNat → used → door.state = .access → door.accessTimer = some deadline →
      let now := max s.now deadline
      exec (.accessPulseExpiry e) s = .next { s with
        now := now
        doors := s.doors.set e
          (Door.drive { door with state := .shutLocked, accessTimer := none } (s.freeCondition door) now) })

/-- R106, R107: feedback values, and the expiry of the jam comparison. DOOR_JAMMED names the drive that the feedback disagreed with, the one
before the entry (log 19), and the feedback, coded as log 14 says.
R90: a door without lock feedback does not read its feedback input.
That the door's report comes before what other blocks report is log 7's order. -/
def Obligations.JamsDeclaredAndCleared : Prop :=
  ∀ (s : State) (d : Fin 8) (value : Lock), s.awake = true → s.Shaped → s.RouteFollows →
    (s.door d).cfg.kind ≠ .unused →
    let door := s.door d
    let free := s.freeCondition door
    let put (v : Door) : State := { s with doors := s.doors.set d (v.driveAfresh free s.now) }
    (door.cfg.feedback = false →
      exec (.feedbackFirstQualified d value) s = .next s ∧ exec (.feedbackChange d value) s = .next s) ∧
    (door.cfg.feedback = true → door.feedback = none →
      exec (.feedbackFirstQualified d value) s = .next (put { door with feedback := some value })) ∧
    (door.cfg.feedback = true → door.feedback ≠ some value →
      exec (.feedbackChange d value) s = .next (put { door with feedback := some value })) ∧
    (∀ deadline, door.jamTimer = some deadline →
      let now := max s.now deadline
      let late (v : Door) : State := { s with now := now, doors := s.doors.set d (v.driveAfresh free now) }
      (door.state ≠ .jammed →
        let u := late { door with state := .jammed, accessTimer := none, accessMark := false }
        Completes (.jamComparisonExpiry d) s fun t =>
          Consequent u t ∧ t.doors = u.doors ∧ t.hasFault = true ∧
            ∀ v, door.feedback = some v → Reports u .doorJammed d (door.lock.code * 256 + v.code) t) ∧
      (door.state = .jammed → door.contact = some .shut →
        let derived : DoorState := if free = true then .shutFree else .shutLocked
        let u := late { door with state := derived, accessMark := false, openTimer := none }
        Completes (.jamComparisonExpiry d) s fun t =>
          Consequent u t ∧ t.doors = u.doors ∧ Reports u .doorJamCleared d derived.code t))

/-! ### Chapter 7: calls at the gallery -/

/-- R111 to R113, R116, R119: a press of a used call point, from either row that brings one, by the call of its source: raised, reminded or
left as it is, and in every case announced: its re-announce timer is started afresh, and in RUN at a node with an id its CALL stands in the
queue or a discard has been marked (R56). The current priority is R114's at the end of the event. A FIRE point that is ACTIVE already is not
pressed again (log 12). That the call's report comes first is log 7's order.
R119: the fields of the CALL that announces a call (Table 3-1).
R111: a qualified value of a used point's input that is not a press.
R118: whatever command sets the first fault member, it acts on the call of source 16 as a press of kind FAULT and base priority 2: raised,
reminded or left as it is, and in every case announced. LINE_STUCK as the first member, and as a further one, which does not act so: that
LINE_STUCK is reported before the call is, is log 7's order. -/
def Obligations.CallPointInputs : Prop :=
  (∀ (c : Call) (source : Nat), c.payload source =
      { source := BitVec.ofNat 5 source
        kind := match c.kind with
          | .help => 0
          | .staff => 1
          | .fire => 2
          | .forced => 3
          | .held => 4
          | .fault => 5
        serial := BitVec.ofNat 4 c.serial
        priority := BitVec.ofNat 2 c.current
        taken := decide (c.taker ≠ 0)
        overdue := c.overdue
        reminder := c.reminder
        taker := BitVec.ofNat 6 c.taker }) ∧
  (∀ (s : State) (p : Fin 8) (command : Instr), s.awake = true → s.Shaped → s.PrioritiesFollow →
      (s.point p).kind ≠ .unused →
      let point := s.point p
      (command = .callPointPress p ∧ ¬(point.kind = .fire ∧ point.input = some true)) ∨
        (command = .firePointLevelChange p true ∧
          (point.input = some false ∨ (point.input = none ∧ point.level = true))) →
      let u : State := { s with cc := { s.cc with points := s.cc.points.set p { point with input := some true } } }
      let kind : CallKind := match point.kind with
        | .staff => .staff
        | .fire => .fire
        | _ => .help
      Completes command s fun t =>
        let announced (c : Call) : Prop :=
          t.call p = some { c with
              current := if c.kind = .help ∧ t.ru.evacuating ≠ none then 0 else c.escalated
              reannounce := some (s.now + (if c.taker = 0 then 16 else 32) * Config.second) } ∧
            (t.running = true → t.nodeId ≠ 0 →
              (∃ c', t.call p = some c' ∧ ∃ e ∈ t.lc.queue, e.body = .call (c'.payload p)) ∨ t.lc.queueDiscard = true)
        Consequent u t ∧
          (s.call p = none →
            t.serial p = (s.serial p + 1) % 16 ∧ Reports u .callRaised p (kind.code * 256 + point.priority) t ∧
              announced
                { kind := kind
                  base := point.priority
                  escalated := point.priority
                  current := point.priority
                  serial := s.serial p
                  taker := 0
                  overdue := false
                  reminder := false
                  unanswered := some (s.now + s.cl.node.tesc * Config.second)
                  attend := none
                  reannounce := none }) ∧
          (∀ c, s.call p = some c →
            t.serial p = s.serial p ∧ ReportsIf (decide (c.taker ≠ 0) && !c.reminder) u .callReminder p c.taker t ∧
              announced { c with reminder := c.reminder || decide (c.taker ≠ 0) })) ∧
  (∀ (s : State) (p : Fin 8) (active : Bool), s.awake = true →
      let point := s.point p
      let u : State := { s with cc := { s.cc with points := s.cc.points.set p { point with input := some active } } }
      (point.kind = .unused →
        exec (.firePointLevelChange p active) s = .next s ∧ exec (.callPointPress p) s = .next s) ∧
      (point.kind ≠ .unused →
        active = false ∨ point.input = some true ∨ (point.input = none ∧ point.level = false) →
        (point.kind ≠ .fire → exec (.firePointLevelChange p active) s = .next u) ∧
        Completes (.firePointLevelChange p active) s fun t => Consequent u t)) ∧
  (∀ s : State, s.awake = true → s.Shaped →
      let u : State := State.reportIf
        { s with lc := { s.lc with stuckPeriod := true, lineStuck := true, stuckClear := none } }
        (!s.lc.lineStuck) .lineStuck 0xFFFF 1
      (s.hasFault = true → exec .stuckPeriodStart s = .next u) ∧
      (s.hasFault = false → s.call 16 = none →
        exec .stuckPeriodStart s = .next
          ((State.announced { u with cc := { s.cc with serials := s.cc.serials.set 16 ((s.serial 16 + 1) % 16) } } 16
            { kind := .fault
              base := 2
              escalated := 2
              current := 2
              serial := s.serial 16
              taker := 0
              overdue := false
              reminder := false
              unanswered := some (s.now + s.cl.node.tesc * Config.second)
              attend := none
              reannounce := none }).report .callRaised 16 (5 * 256 + 2))) ∧
      (s.hasFault = false → ∀ c, s.call 16 = some c →
        exec .stuckPeriodStart s = .next
          ((u.announced 16 { c with reminder := c.reminder || decide (c.taker ≠ 0) }).reportIf
            (decide (c.taker ≠ 0) && !c.reminder) .callReminder 16 c.taker))) ∧
  (∀ (command : Instr) (s t : State), s.awake = true → t.awake = true → s.Shaped → s.PrioritiesFollow →
      exec command s = .next t → s.hasFault = false → t.hasFault = true →
      let announced (c : Call) : Prop :=
        t.call 16 = some { c with
            current := if c.kind = .help ∧ t.ru.evacuating ≠ none then 0 else c.escalated
            reannounce := some (t.now + (if c.taker = 0 then 16 else 32) * Config.second) } ∧
          (t.running = true → t.nodeId ≠ 0 →
            (∃ c', t.call 16 = some c' ∧ ∃ e ∈ t.lc.queue, e.body = .call (c'.payload 16)) ∨ t.lc.queueDiscard = true)
      (s.call 16 = none →
        t.serial 16 = (s.serial 16 + 1) % 16 ∧ Reported s .callRaised 16 (5 * 256 + 2) t ∧
          announced
            { kind := .fault
              base := 2
              escalated := 2
              current := 2
              serial := s.serial 16
              taker := 0
              overdue := false
              reminder := false
              unanswered := some (t.now + s.cl.node.tesc * Config.second)
              attend := none
              reannounce := none }) ∧
        (∀ c, s.call 16 = some c →
          t.serial 16 = s.serial 16 ∧
            (c.taker ≠ 0 → c.reminder = false → Reported s .callReminder 16 c.taker t) ∧
            announced { c with reminder := c.reminder || decide (c.taker ≠ 0) }))

/-- R119, R120, R121: the unanswered, attend and re-announce timers.
R114, R115: every step keeps the current priority of every call the one of its escalated priority and the evacuating condition; a call whose
current priority a change of evacuating has changed is announced at that event: its timer is started afresh, and its CALL stands in the
queue or a discard has been marked (R56). -/
def Obligations.CallTimersExpire : Prop :=
  (∀ (s : State) (source : Fin 17) (c : Call) (deadline : Nat), s.awake = true → s.Shaped → s.call source = some c →
      let now := max s.now deadline
      let late : State := { s with now := now }
      (c.unanswered = some deadline → c.taker = 0 →
        let raised := c.escalated - 1
        let current := if c.kind = .help ∧ s.ru.evacuating ≠ none then 0 else raised
        exec (.unansweredTimerExpiry source) s = .next
          ((late.announced source { c with
            escalated := raised
            overdue := true
            current := current
            unanswered := some (now + s.cl.node.tesc * Config.second) }).report .callOverdue source current)) ∧
      (c.attend = some deadline → c.taker ≠ 0 →
        exec (.attendTimerExpiry source) s = .next
          ((late.announced source { c with
            overdue := true, attend := some (now + s.cl.node.tatt * (60 * Config.second)) }).report .callOverdue source
            c.current)) ∧
      (c.reannounce = some deadline → exec (.reannounceTimerExpiry source) s = .next (late.announced source c))) ∧
  (∀ s t : State, s.PrioritiesFollow → step s = .next t → t.PrioritiesFollow) ∧
  (∀ (command : Instr) (s t : State) (source : Nat) (a b : Call), s.awake = true → s.Shaped → exec command s = .next t →
      (s.ru.evacuating = none ↔ t.ru.evacuating ≠ none) → s.call source = some a → t.call source = some b →
      a.current ≠ b.current →
      b.reannounce = some (t.now + (if b.taker = 0 then 16 else 32) * Config.second) ∧
        (t.running = true → t.nodeId ≠ 0 →
          (∃ e ∈ t.lc.queue, e.body = .call (b.payload source)) ∨ t.lc.queueDiscard = true))

/-- R122: a TAKE at the origin. -/
def Obligations.TakeDecided : Prop :=
  ∀ (s : State) (src : BitVec 6) (p : RefPayload), s.awake = true → s.receives = true → s.Shaped → wfSource src = true →
    p.wf = true → src.toNat ≠ s.nodeId →
    let source := p.source.toNat
    (p.origin.toNat ≠ s.nodeId → exec (.takeArrival src p) s = .next s) ∧
    (p.origin.toNat = s.nodeId →
      (∀ c, s.call source = some c → c.serial = p.serial.toNat → c.taker = 0 →
        exec (.takeArrival src p) s = .next
          ((s.announced source { c with
            taker := src.toNat
            overdue := false
            unanswered := none
            attend := some (s.now + s.cl.node.tatt * (60 * Config.second)) }).report .callTaken source src.toNat)) ∧
      (∀ c, s.call source = some c → c.serial ≠ p.serial.toNat ∨ c.taker ≠ 0 →
        exec (.takeArrival src p) s = .next (s.announced source c)) ∧
      (s.call source = none →
        exec (.takeArrival src p) s = .next { s with
          lc := (s.lc.offer s.offersOpen (.clear ⟨p.origin, p.source, p.serial, 0⟩) 1).1 }))

/-- R123: a GIVEUP at the origin. -/
def Obligations.GiveupDecided : Prop :=
  ∀ (s : State) (src : BitVec 6) (p : RefPayload), s.awake = true → s.receives = true → s.Shaped → wfSource src = true →
    p.wf = true → src.toNat ≠ s.nodeId →
    let source := p.source.toNat
    (∀ c, p.origin.toNat = s.nodeId → s.call source = some c → c.serial = p.serial.toNat → c.taker = src.toNat →
      exec (.giveupArrival src p) s = .next
        ((s.announced source { c with
          taker := 0
          reminder := false
          attend := none
          unanswered := some (s.now + s.cl.node.tesc * Config.second) }).report .callGivenUp source src.toNat)) ∧
    (p.origin.toNat ≠ s.nodeId ∨ s.call source = none ∨
        (∃ c, s.call source = some c ∧ (c.serial ≠ p.serial.toNat ∨ c.taker ≠ src.toNat)) →
      exec (.giveupArrival src p) s = .next s)

/-- R115: the table order: exactly the sources that have a call, each once, by current priority, 0 first, and within one priority by their places
in that level's rotation order.
R124, R125, R126: a call is cleared by a station's CLEAR or by the attendant key, unless it is a FIRE call whose point is ACTIVE; its source moves
to the back of the rotation order of its base priority (R115). -/
def Obligations.CallsCleared : Prop :=
  (∀ s : State, s.Shaped →
    s.tableOrder.Nodup ∧ (∀ source, source ∈ s.tableOrder ↔ s.call source ≠ none) ∧
      s.tableOrder.Pairwise fun a b => ∀ c d, s.call a = some c → s.call b = some d →
        c.current < d.current ∨ c.current = d.current ∧
          (s.rotation c.current).idxOf a < (s.rotation c.current).idxOf b) ∧
  ∀ (s : State) (src : BitVec 6) (p : ClearPayload), s.awake = true → s.Shaped →
    let cleared (base : State) (source : Nat) (c : Call) (by_ : Nat) : State :=
      State.report
        { base with
          cc := { base.cc with
            calls := base.cc.calls.set source none
            rotations := base.cc.rotations.set c.base ((base.rotation c.base).erase source ++ [source]) }
          lc := (base.lc.offer base.offersOpen
            (.clear ⟨BitVec.ofNat 8 base.nodeId, BitVec.ofNat 8 source, BitVec.ofNat 8 c.serial, BitVec.ofNat 8 by_⟩) 1).1 }
        .callCleared source by_
    let kept (source : Nat) (c : Call) : Prop := c.kind = .fire ∧ (s.point source).input = some true
    let first (taken : Bool) : Option Nat := s.tableOrder.find? fun source =>
      (s.call source).any fun c => decide (((c.taker ≠ 0) ↔ taken = true) ∧ ¬kept source c)
    let turned : State := { s with cc := { s.cc with keyOn := some true } }
    (∀ source c, first true = some source → s.call source = some c →
      exec .attendantKeyTurn s = .next (cleared turned source c 0)) ∧
    (∀ source c, first true = none → first false = some source → s.call source = some c →
      exec .attendantKeyTurn s = .next (cleared turned source c 0)) ∧
    (first true = none → first false = none → exec .attendantKeyTurn s = .next turned) ∧
    (s.receives = true → wfSource src = true → p.wf = true → src.toNat ≠ s.nodeId → p.origin.toNat ≠ src.toNat →
      let source := p.source.toNat
      (p.origin.toNat ≠ s.nodeId → exec (.clearRequestArrival src p) s = .next s) ∧
      (p.origin.toNat = s.nodeId →
        (∀ c, s.call source = some c → c.serial = p.serial.toNat → c.taker = src.toNat →
          (¬kept source c → exec (.clearRequestArrival src p) s = .next (cleared s source c src.toNat)) ∧
          (kept source c →
            exec (.clearRequestArrival src p) s =
              .next ((s.announced source c).report .clearRefused source src.toNat))) ∧
        (∀ c, s.call source = some c → c.serial ≠ p.serial.toNat ∨ c.taker ≠ src.toNat →
          exec (.clearRequestArrival src p) s = .next (s.announced source c)) ∧
        (s.call source = none →
          exec (.clearRequestArrival src p) s = .next { s with
            lc := (s.lc.offer s.offersOpen (.clear ⟨p.origin, p.source, p.serial, 0⟩) 1).1 })))

/-! ### Chapter 8: the attention list -/

/-- R59, R131 to R134: a CALL at a station, and at a gallery. One report stands for an update (log 21).
R133: the entry given up for a newcomer stands in the list; an OTHERS entry not more urgent than the newcomer is chosen before any
other, and with no entry less urgent and no such OTHERS entry none is chosen.
R129: a list into which an entry is put holds that entry and all that it held before, and nothing else; its order is StepKeepsBounds'. -/
def Obligations.CallArrives : Prop :=
  (∀ (s : State) (src : BitVec 6) (p : CallPayload), s.awake = true → s.receives = true → s.Bounded → wfSource src = true →
      p.wf = true → src.toNat ≠ s.nodeId →
      let told : EntryState :=
        if p.taken = true then (if p.taker.toNat = s.nodeId then .mine else .others) else .opened
      let subject := src.toNat * 256 + p.source.toNat
      let kind := callKindOf p.kind.toNat
      let fresh : Entry :=
        { origin := src.toNat
          source := p.source.toNat
          kind := kind
          priority := p.priority.toNat
          serial := p.serial.toNat
          state := told
          taker := p.taker.toNat
          overdue := p.overdue
          reminder := p.reminder
          inserted := s.now / Config.second
          expiry := some (s.now + 100 * Config.second)
          takeTimeout := none }
      let inserted (base : State) : State :=
        State.report { base with al := listInsert fresh base.al } .listNew subject
          (told.code * 256 + (kind.code * 16 + p.priority.toNat))
      let without (e : Entry) : State :=
        { s with al := s.al.eraseP fun x => decide (x.origin = e.origin ∧ x.source = e.source) }
      let present := s.al.find? fun x => decide (x.origin = src.toNat ∧ x.source = p.source.toNat)
      (s.cl.node.role = .gallery → exec (.callArrival src p) s = .next s) ∧
      (s.cl.node.role = .station →
        (present = none → s.al.length < 24 → exec (.callArrival src p) s = .next (inserted s)) ∧
        (present = none → s.al.length = 24 →
          (∀ d, displaced s.al p.priority.toNat = some d →
            exec (.callArrival src p) s =
              .next (inserted ((without d).report .listDisplaced (d.origin * 256 + d.source) d.state.code))) ∧
          (displaced s.al p.priority.toNat = none →
            exec (.callArrival src p) s = .next (s.report .truncated subject p.priority.toNat))) ∧
        (∀ e, present = some e → e.serial ≠ p.serial.toNat →
          exec (.callArrival src p) s =
            .next (inserted ((without e).reportIf (decide (e.state = .taking)) .takeUnanswered subject 1))) ∧
        (∀ e, present = some e → e.serial = p.serial.toNat →
          let state : EntryState := if e.state = .taking ∧ told = .opened then .taking else told
          let e' : Entry :=
            { e with
              kind := kind
              priority := p.priority.toNat
              state := state
              taker := p.taker.toNat
              overdue := p.overdue
              reminder := p.reminder
              expiry := some (s.now + 100 * Config.second)
              takeTimeout := if state = .taking then e.takeTimeout else none }
          let updated : State := { without e with al := listInsert e' (without e).al }
          (e.state = .taking → state = .mine →
            exec (.callArrival src p) s = .next (updated.report .takeWon subject p.taker.toNat)) ∧
          (e.state = .taking → state = .others →
            exec (.callArrival src p) s = .next (updated.report .takeLost subject p.taker.toNat)) ∧
          (e.state ≠ .taking ∨ state = .taking →
            let same := e.kind = kind ∧ e.priority = p.priority.toNat ∧ e.state = state ∧ e.taker = p.taker.toNat ∧
              e.overdue = p.overdue ∧ e.reminder = p.reminder
            exec (.callArrival src p) s =
              .next (updated.reportIf (!decide same) .listChanged subject (state.code * 256 + p.priority.toNat)))))) ∧
  (∀ (list : List Entry) (priority : Nat),
      let step1 (e : Entry) : Prop := e.state = .others ∧ priority ≤ e.priority
      let step2 (e : Entry) : Prop := priority < e.priority
      (∀ before e after, list = before ++ e :: after → step1 e → (∀ x ∈ after, ¬step1 x) →
        displaced list priority = some e) ∧
      (∀ before e after, list = before ++ e :: after → (∀ x ∈ list, ¬step1 x) → step2 e → (∀ x ∈ after, ¬step2 x) →
        displaced list priority = some e) ∧
      ((∀ x ∈ list, ¬step1 x ∧ ¬step2 x) → displaced list priority = none)) ∧
  (∀ (e : Entry) (list : List Entry), (listInsert e list).Perm (e :: list))

/-- R135, R136, R139: an origin's CLEAR, the expiry timer and the take timeout of an entry. -/
def Obligations.EntriesRemovedOrReopened : Prop :=
  ∀ (s : State) (src : BitVec 6) (p : ClearPayload) (source : Fin 17) (e : Entry), s.awake = true →
    let without : State :=
      { s with al := s.al.eraseP fun x => decide (x.origin = e.origin ∧ x.source = e.source) }
    let subject := e.origin * 256 + e.source
    (s.receives = true → wfSource src = true → p.wf = true → src.toNat ≠ s.nodeId → p.origin.toNat = src.toNat →
      (s.cl.node.role = .station → s.entry src.toNat p.source.toNat = some e → e.serial = p.serial.toNat →
        exec (.clearArrival src p) s = .next (without.report .listCleared subject p.clearedBy.toNat)) ∧
      (s.cl.node.role = .gallery ∨ s.entry src.toNat p.source.toNat = none ∨
          (s.entry src.toNat p.source.toNat = some e ∧ e.serial ≠ p.serial.toNat) →
        exec (.clearArrival src p) s = .next s)) ∧
    (s.entry src.toNat source = some e →
      (∀ deadline, e.expiry = some deadline →
        exec (.entryExpiry src source) s =
          .next (State.report { without with now := max s.now deadline } .listExpired subject e.state.code)) ∧
      (∀ deadline, e.takeTimeout = some deadline → e.state = .taking →
        exec (.takeTimeoutExpiry src source) s =
          .next (State.report
            { without with
              now := max s.now deadline
              al := listInsert { e with state := .opened, takeTimeout := none } without.al }
            .takeUnanswered subject 0)))

/-- R137, R138, R140: TAKE, GIVEUP and CLEAR of a station's host in RUN. An answer of the line controller other than *entered* is taken as
a discard (log 25).
R70, R141: ORDER of a station's host in RUN: what follows a flag code leaves the ORDER in the queue, of class 0 and youngest at its entry.
That the flag's report comes first is log 7's order. -/
def Obligations.StationRequestsDecided : Prop :=
  (∀ (s : State) (origin source : Byte), s.listens = true → s.running = true → s.cl.node.role = .station →
      let inRange := 1 ≤ origin.toNat ∧ origin.toNat ≤ 62 ∧ source.toNat ≤ 16
      let refused (r : Response) (need : EntryState → Prop) : Prop :=
        (need .opened → exec (.take origin source) s = .next (s.respond r)) ∧
        (need .mine →
          exec (.giveup origin source) s = .next (s.respond r) ∧ exec (.clear origin source) s = .next (s.respond r))
      (¬inRange → refused .errRange fun _ => True) ∧
      (inRange → s.entry origin.toNat source.toNat = none → refused (.errState .noEntry) fun _ => True) ∧
      (∀ e, inRange → s.entry origin.toNat source.toNat = some e →
        refused (.errState e.state.reason) (fun needed => e.state ≠ needed) ∧
        (let ref : RefPayload := ⟨BitVec.ofNat 8 e.origin, BitVec.ofNat 8 e.source, BitVec.ofNat 8 e.serial⟩
          let decided (command : Instr) (body : Payload) (state : EntryState) : Prop :=
            let r := s.lc.offer s.offersOpen body 1
            let sent : State := { s with lc := r.1 }
            (r.2 = .entered → exec command s = .next ((sent.relist { e with state := state }).respond .ok)) ∧
              (r.2 ≠ .entered → exec command s = .next (sent.respond (.errState .queueFull)))
          (e.state = .opened → decided (.take origin source) (.take ref) .taking) ∧
          (e.state = .mine → decided (.giveup origin source) (.giveup ref) .opened) ∧
          (e.state = .mine →
            let r := s.lc.offer s.offersOpen
              (.clear ⟨ref.origin, ref.source, ref.serial, BitVec.ofNat 8 s.nodeId⟩) 1
            let sent : State := { s with lc := r.1 }
            (r.2 = .entered → exec (.clear origin source) s = .next (sent.respond .ok)) ∧
              (r.2 ≠ .entered → exec (.clear origin source) s = .next (sent.respond (.errState .queueFull))))))) ∧
  (∀ (s : State) (code target door : Byte), s.listens = true → s.running = true → s.cl.node.role = .station →
      let inRange := code.toNat ≤ 6 ∧ 1 ≤ target.toNat ∧ target.toNat ≤ 63 ∧ (code.toNat = 6 → door.toNat ≤ 7)
      let r := s.lc.offer s.offersOpen (.order ⟨code, target, if code.toNat = 6 then door else 0⟩) 0
      let sent : State := { s with lc := r.1 }
      (¬inRange → exec (.order code target door) s = .next (s.respond .errRange)) ∧
      (inRange → r.2 ≠ .entered → exec (.order code target door) s = .next (sent.respond (.errState .queueFull))) ∧
      (inRange → r.2 = .entered → 4 ≤ code.toNat → exec (.order code target door) s = .next (sent.respond .ok)) ∧
      (inRange → r.2 = .entered → code.toNat ≤ 3 →
        let u : State := State.respond
          { sent with
            nt := { s.nt with
              mode := if code.toNat = 0 then .day else if code.toNat = 1 then .night else s.nt.mode
              evacuate := if code.toNat = 2 then true else if code.toNat = 3 then false else s.nt.evacuate
              orderHeard := true } } .ok
        Completes (.order code target door) s fun t =>
          Consequent u t ∧ (code.toNat = 2 → t.nt.latch = none) ∧
            (∃ e ∈ t.lc.queue, e.body = .order ⟨code, target, 0⟩ ∧ e.cls = 0 ∧ e.age = s.lc.nextAge) ∧
            ReportsIf (decide (u.nt.mode ≠ s.nt.mode)) u .buildingMode s.nodeId u.nt.mode.code t ∧
            ReportsIf (decide (u.nt.evacuate ≠ s.nt.evacuate)) u .buildingEvacuate s.nodeId (if u.nt.evacuate = true then 1 else 0)
              t))

/-! ### Chapter 9: signs, floor strips and sounder -/

/-- R146, R147: one sign step, sign by sign: lit or dark by the display and the count before the step, sensed, then counted; the setting of a
lamp fault is reported. -/
def Obligations.SignsStep : Prop :=
  ∀ (s : State) (sense : BitVec 4) (deadline : Nat), s.awake = true → s.Shaped → s.sd.signTimer = some deadline →
    let now := max s.now deadline
    Completes (.signStepExpiry sense) s fun t =>
      (∃ signs,
        CallConsequent
          { s with
            now := now
            pins := { s.pins with signSense := sense }
            sd := { s.sd with signs := signs, signTimer := some (now + 6250) } } t) ∧
      ∀ n : Fin 4,
        let g := s.sign n
        let lit : Bool := match g.display, g.flash with
          | .plain, _ => true
          | .arrow, some k => decide (128 ≤ k ∨ k % 16 ≤ 7)
          | .cross, some k => decide (k % 32 ≤ 15)
          | _, none => true
        let flash : Option Nat := match g.display, g.flash with
          | .arrow, some k => some (if k < 128 then k + 1 else k)
          | .cross, some k => some ((k + 1) % 65536)
          | _, f => f
        (g.used = false → t.sign n = g) ∧
        (g.used = true → lit = false → t.sign n = { g with flash := flash }) ∧
        (g.used = true → lit = true → sense.getLsbD n = true → t.sign n = { g with flash := flash, noCurrent := 0 }) ∧
        (g.used = true → lit = true → sense.getLsbD n = false → g.noCurrent < 31 →
          t.sign n = { g with flash := flash, noCurrent := g.noCurrent + 1 }) ∧
        (g.used = true → lit = true → sense.getLsbD n = false → 31 ≤ g.noCurrent →
          t.sign n = { g with flash := flash, noCurrent := 0, fault := true } ∧ t.hasFault = true ∧
            (g.fault = false → Reported s .signLampFault n g.display.code t))

/-- R149 to R153: the step timer of a strip expires, mode by mode. That the NO_ROUTE flash count begins again at 65536 is log 22's.
That STRIP_LAMP_FAULT comes before a call's report is log 7's order. -/
def Obligations.StripSteps : Prop :=
  ∀ (s : State) (k : Fin 2) (sense : BitVec 32) (deadline : Nat), s.awake = true → s.Shaped →
    (s.strip k).timer = some deadline →
    let now := max s.now deadline
    let p := s.strip k
    let put (v : Strip) : State := { s with
      now := now
      pins := { s.pins with stripSense := s.pins.stripSense.set k sense }
      sd := { s.sd with strips := s.sd.strips.set k v } }
    let begins (q : Strip) (lit : Nat → Bool) : Prop :=
      ∃ latch,
        (∀ i, p.latch = some i → latch = some i) ∧
        (p.latch = none → ∀ i, latch = some i ↔
          i < p.n ∧ lit i = true ∧ sense.getLsbD i = false ∧ ∀ j < i, lit j = true → sense.getLsbD j = true) ∧
        let u := put { q with
          lit := (List.range p.n).map lit, timer := some (now + p.step * 5000), latch := latch }
        Completes (.stripStepExpiry k sense) s fun t =>
          CallConsequent u t ∧ ReportsIf (p.latch.isNone && latch.isSome) u .stripLampFault k (latch.getD 0) t
    (p.mode = .steady → begins p fun _ => true) ∧
    (p.mode = .noRoute → ∀ n, p.flash = some n →
      begins { p with flash := some ((n + 1) % 65536) } fun _ => decide ((n + 1) % 65536 % 32 ≤ 15)) ∧
    (p.mode = .chase → ∀ dir, p.dir = some dir →
      let phase := (p.phase + 1) % p.pp
      (dir = .forward → begins { p with phase := phase } fun i => decide ((i + p.offset + phase) % p.pp < p.w)) ∧
      (dir = .reverse →
        begins { p with phase := phase } fun i => decide ((i + p.offset + p.pp - phase) % p.pp < p.w))) ∧
    (p.mode = .check → ∀ n, p.check = some n →
      (2 ≤ n → begins { p with check := some (n - 1) } fun _ => true) ∧
      (n = 1 → s.ru.evacuating = none →
        let u := put { p with
          check := none
          mode := .off
          dir := none
          phase := 0
          flash := none
          timer := none
          lit := List.replicate p.n false }
        exec (.stripStepExpiry k sense) s = .next
          (u.reportIf (u.sd.strips.all fun q => decide (q.n = 0 ∨ q.check = none)) .lampCheckEnd 0xFFFF
            ((u.strip 0).latch.getD 0xFF * 256 + (u.strip 1).latch.getD 0xFF))))

/-- R153: LAMP_CHECK in RUN; and the cadence timer of R155. What the first step of the check senses is a free value: an empty latch may
take any segment (log 11).
R152, R153: whatever command lets an empty latch take a segment, a LAMP_CHECK or the beginning of an evacuation among them, it is one lit at
the step begun, and STRIP_LAMP_FAULT is reported; whatever command lets the node begin evacuating while a check runs, the check ends at every
strip and LAMP_CHECK_END is reported with EVACUATING. -/
def Obligations.LampCheckAndCadence : Prop :=
  ∀ s : State,
    (s.listens = true → s.running = true →
      (s.ru.evacuating ≠ none → exec .lampCheck s = .next (s.respond (.errState .none))) ∧
      (s.ru.evacuating = none → s.Shaped →
        Completes .lampCheck s fun t =>
          (∃ strips free,
            CallConsequent (State.respond { s with sd := { s.sd with strips := strips }, freeCount := free } .ok) t) ∧
          ∀ k : Fin 2,
            let p := s.strip k
            (p.n = 0 → t.strip k = p) ∧
            (p.n ≠ 0 → ∃ latch, (∀ i, p.latch = some i → latch = some i) ∧
              (p.latch = none → ∀ i, latch = some i → i < p.n) ∧
              t.strip k = { p with
                mode := .check
                dir := none
                phase := 0
                flash := none
                check := some 4
                lit := List.replicate p.n true
                timer := some (s.now + p.step * 5000)
                latch := latch }))) ∧
    (∀ deadline, s.awake = true → s.sd.cadenceTimer = some deadline →
      exec .cadenceTimerExpiry s = .next { s with
        now := max s.now deadline
        sd := { s.sd with
          cadence := s.sd.cadence.map (!·), cadenceTimer := some (max s.now deadline + Config.second) } }) ∧
    ∀ (c : Instr) (t : State), s.awake = true → t.awake = true → s.Shaped → exec c s = .next t →
      (∀ k < 2, (s.strip k).latch = none → ∀ i, (t.strip k).latch = some i →
        i < (t.strip k).n ∧ (t.strip k).lit.getD i false = true ∧ Reported s .stripLampFault k i t) ∧
      (s.ru.evacuating = none → t.ru.evacuating ≠ none → (∃ k < 2, (s.strip k).n ≠ 0 ∧ (s.strip k).check ≠ none) →
        (∀ k < 2, (t.strip k).check = none) ∧ Reported s .lampCheckEnd 0xFFFF 0xFFFE t)

/-- R154: LAMP_CLEAR. -/
def Obligations.LampsCleared : Prop :=
  ∀ s : State, s.listens = true →
    let count := s.sd.signs.countP (·.fault) + s.sd.strips.countP (·.latch.isSome)
    let cleared : State := { s with
      sd := { s.sd with
        signs := s.sd.signs.map fun g => { g with fault := false }
        strips := s.sd.strips.map fun p => { p with latch := none } } }
    (s.running = false → exec .lampClear s = .next (s.respond .errPhase)) ∧
    (s.running = true →
      exec .lampClear s =
        .next ((cleared.reportIf (decide (1 ≤ count)) .lampCleared 0xFFFF count).respond .ok))

/-! ### Chapter 10: emergency lighting duration test -/

/-- R160, R161, R162, R164: TEST_START, TEST_SUSPEND and TEST_RESUME in RUN. A test that enters RUNNING on a LOW battery fails at once, and that
is reported as TEST_RESULT (its subject FAIL is log 17's coding).
That TEST_STARTED and the like come before what other blocks report is log 7's order. -/
def Obligations.TestRequestsDecided : Prop :=
  ∀ (s : State) (min : Byte), s.listens = true → s.running = true →
    let building (r : Reason) : Prop :=
      (s.fl.gallery ≠ .quiet ∧ r = .notQuiet) ∨
      (s.fl.gallery = .quiet ∧ s.ru.f ≠ 15 ∧ r = .fireNear) ∨
      (s.fl.gallery = .quiet ∧ s.ru.f = 15 ∧ s.nt.evacuate = true ∧ r = .evacuate) ∨
      (s.fl.gallery = .quiet ∧ s.ru.f = 15 ∧ s.nt.evacuate = false ∧ s.noPeerTesting = false ∧ r = .peerTesting)
    let clear : Prop :=
      s.fl.gallery = .quiet ∧ s.ru.f = 15 ∧ s.nt.evacuate = false ∧ s.noPeerTesting = true
    let inRange := 1 ≤ min.toNat ∧ min.toNat ≤ 180
    let nightOk := s.cl.node.nightOnly = false ∨ s.nt.mode = .night
    let minute : Timer := some (s.now + 60 * Config.second)
    let failed (m : Nat) : Tester :=
      { s.dt with
        state := .idle
        requested := none
        completed := none
        minute := none
        cause := none
        suspend := none
        last := .fail m
        batteryFault := true }
    let started : Tester :=
      { s.dt with
        state := .running
        requested := some min.toNat
        completed := some 0
        minute := minute
        cause := none
        suspend := none }
    let resumed : Tester := { s.dt with state := .running, minute := minute, cause := none, suspend := none }
    let put (dt : Tester) (marker : Bool) : State := State.respond { s with dt := dt, marker := marker } .ok
    (¬inRange → exec (.testStart min) s = .next (s.respond .errRange)) ∧
    (inRange → s.dt.state ≠ .idle → exec (.testStart min) s = .next (s.respond (.errState s.dt.state.reason))) ∧
    (inRange → s.dt.state = .idle →
      (∀ r, building r → exec (.testStart min) s = .next (s.respond (.errState r))) ∧
      (clear → ¬nightOk → exec (.testStart min) s = .next (s.respond (.errState .notNight))) ∧
      (clear → nightOk →
        (s.dt.battery ≠ some true →
          Completes (.testStart min) s fun t =>
            CallConsequent (put started true) t ∧ Reports s .testStarted 0xFFFF min.toNat t) ∧
        (s.dt.battery = some true →
          Completes (.testStart min) s fun t =>
            CallConsequent (put (failed 0) false) t ∧ Reports s .testStarted 0xFFFF min.toNat t ∧ t.hasFault = true ∧
              Reported s .testResult 2 0 t))) ∧
    (s.dt.state = .idle → exec .testSuspend s = .next (s.respond (.errState .idle))) ∧
    (s.dt.state = .suspended → exec .testSuspend s = .next (s.respond .ok)) ∧
    (s.dt.state = .running →
      Completes .testSuspend s fun t =>
        CallConsequent
          (put { s.dt with
            state := .suspended
            minute := none
            cause := some .host
            suspend := some (s.now + 60 * (60 * Config.second)) } s.marker) t ∧
          Reports s .testSuspended 0 (s.dt.completed.getD 0) t) ∧
    (s.dt.state ≠ .suspended → exec .testResume s = .next (s.respond (.errState s.dt.state.reason))) ∧
    (s.dt.state = .suspended →
      (∀ r, building r → exec .testResume s = .next (s.respond (.errState r))) ∧
      (clear →
        (s.dt.battery ≠ some true →
          Completes .testResume s fun t =>
            CallConsequent (put resumed s.marker) t ∧ Reports s .testResumed 0 (s.dt.completed.getD 0) t) ∧
        (s.dt.battery = some true →
          Completes .testResume s fun t =>
            CallConsequent (put (failed (s.dt.completed.getD 0)) false) t ∧
              Reports s .testResumed 0 (s.dt.completed.getD 0) t ∧ t.hasFault = true ∧
              Reported s .testResult 2 (s.dt.completed.getD 0) t)))

/-- R165: TEST_ABORT. The subject of TEST_RESULT is log 17's coding.
R162, R164, R166: what other blocks bring to a test: the building's EVACUATE_ON suspends it, EVACUATE_OFF resumes it where automatic resumption
is configured, a testing neighbour of lower id aborts it where nothing else suspends it at the event (else log 8).
R164: whatever command makes the last of the building's conditions hold (the gallery QUIET, f 15, evacuate OFF, no used FRESH slot with
TEST_RUNNING) resumes a test that the host did not suspend, where automatic resumption is configured; no other event but TEST_RESUME resumes
one.
R161, R162, R164, R167: whatever command suspends or resumes a test, this is reported with the cause and with HOST or AUTO (coded 0 and 1:
log 17); a resumption by the building on a LOW battery fails at once.
R159, R162, R168: every step keeps a RUNNING test in a quiet building, and marker, minutes and timers in step with the test state.
That TEST_RESULT comes before what other blocks report is log 7's order. -/
def Obligations.TestAborted : Prop :=
  (∀ s : State, s.listens = true →
      (s.running = false → exec .testAbort s = .next (s.respond .errPhase)) ∧
      (s.running = true → s.dt.state = .idle → exec .testAbort s = .next (s.respond (.errState .idle))) ∧
      (s.running = true → s.dt.state ≠ .idle →
        Completes .testAbort s fun t =>
          CallConsequent
              (State.respond
                { s with
                  marker := false
                  dt := { s.dt with
                    state := .idle
                    requested := none
                    completed := none
                    minute := none
                    cause := none
                    suspend := none
                    last := .aborted .host } } .ok) t ∧
            t.relayOpen = false ∧ Reports s .testResult 3 0xFF00 t)) ∧
  (∀ s t : State, s.TestFollows → step s = .next t → t.TestFollows) ∧
  (∀ (s : State) (src : BitVec 6) (target : Byte), s.running = true → s.receives = true → s.TestFollows → s.RouteFollows →
      wfSource src = true → src.toNat ≠ s.nodeId → 1 ≤ target.toNat → target.toNat ≤ 63 →
      (s.dt.state = .running →
        Completes (.orderEvacuateOn src target) s fun t =>
          t.dt = { s.dt with
            state := .suspended
            minute := none
            cause := some .evacuate
            suspend := some (s.now + 60 * (60 * Config.second)) } ∧
          t.marker = true ∧ t.relayOpen = false) ∧
      (s.dt.state = .suspended → s.dt.cause ≠ some .host → s.cl.node.autoResume = true → s.nt.evacuate = true →
        s.fl.gallery = .quiet → s.ru.f = 15 → s.noPeerTesting = true → s.dt.battery ≠ some true →
        Completes (.orderEvacuateOff src target) s fun t =>
          t.dt = { s.dt with
            state := .running, minute := some (s.now + 60 * Config.second), cause := none, suspend := none } ∧
          t.marker = true ∧ t.relayOpen = true) ∧
      (s.dt.state = .suspended → s.dt.cause ≠ some .host → s.cl.node.autoResume = true → s.nt.evacuate = true →
        s.fl.gallery = .quiet → s.ru.f = 15 → s.noPeerTesting = true → s.dt.battery = some true →
        let minutes := s.dt.completed.getD 0
        Completes (.orderEvacuateOff src target) s fun t =>
          t.dt = { s.dt with
            state := .idle
            requested := none
            completed := none
            minute := none
            cause := none
            suspend := none
            last := .fail minutes
            batteryFault := true } ∧
          t.marker = false ∧ t.relayOpen = false ∧ t.hasFault = true ∧ Reported s .testResumed 1 minutes t ∧
          Reported s .testResult 2 minutes t)) ∧
  (∀ (c : Instr) (s t : State), exec c s = .next t →
      let minutes := s.dt.completed.getD 0
      (s.dt.state = .running → t.dt.state = .suspended →
        t.dt.cause ≠ none ∧
          ∀ cause, t.dt.cause = some cause →
            Reported s .testSuspended cause.code minutes t ∧ (cause = .host ↔ c = .testSuspend) ∧
              (cause = .notQuiet → t.fl.gallery ≠ .quiet) ∧ (cause = .fireNear → t.ru.f < 15) ∧
              (cause = .evacuate → t.nt.evacuate = true)) ∧
      (s.dt.state = .suspended → t.dt.state = .running →
        (c = .testResume → Reported s .testResumed 0 minutes t) ∧
          (c ≠ .testResume → Reported s .testResumed 1 minutes t))) ∧
  (∀ (c : Instr) (s t : State), s.awake = true → t.awake = true → s.Shaped → s.dt.state = .suspended → exec c s = .next t →
      let minutes := s.dt.completed.getD 0
      let clear (u : State) : Prop :=
        u.fl.gallery = .quiet ∧ u.ru.f = 15 ∧ u.nt.evacuate = false ∧
          ∀ k < 8, (u.slot k).id ≠ 0 → (u.slot k).presence = .fresh → (u.slot k).test = false
      let resumes : Prop := s.dt.cause ≠ some .host ∧ s.cl.node.autoResume = true ∧ clear t
      (resumes → ¬clear s → Reported s .testResumed 1 minutes t ∧
        (s.dt.battery ≠ some true →
          t.dt = { s.dt with
            state := .running, minute := some (t.now + 60 * Config.second), cause := none, suspend := none } ∧
          t.marker = s.marker ∧ t.relayOpen = true) ∧
        (s.dt.battery = some true →
          t.dt = { s.dt with
            state := .idle
            requested := none
            completed := none
            minute := none
            cause := none
            suspend := none
            last := .fail minutes
            batteryFault := true } ∧
          t.marker = false ∧ t.relayOpen = false ∧ t.hasFault = true ∧ Reported s .testResult 2 minutes t)) ∧
      (t.dt.state = .running → c = .testResume ∨ resumes)) ∧
  (∀ (s : State) (src : BitVec 6) (p : StatePayload) (k : Fin 8), s.running = true → s.receives = true → s.TestFollows →
      s.dt.state = .running → wfSource src = true → p.wf = true → src.toNat ≠ s.nodeId → (s.slot k).id = src.toNat →
      p.testRunning = true →
      Completes (.stateArrival src p) s fun t =>
        t.fl.gallery = .quiet → t.ru.f = 15 → t.nt.evacuate = false →
          (s.nodeId ≤ src.toNat → t.dt = s.dt ∧ t.marker = true) ∧
          (src.toNat < s.nodeId →
            t.marker = false ∧ t.relayOpen = false ∧
              t.dt = { s.dt with
                state := .idle
                requested := none
                completed := none
                minute := none
                cause := none
                suspend := none
                last := .aborted .peer } ∧
              ∃ before, Extends s.ap.reports before ∧
                Extends
                  (queueReport before
                    ⟨.testResult, 3, BitVec.ofNat 16 (src.toNat * 256 + 1), s.now / Config.second, false⟩)
                  t.ap.reports))

/-- R161, R163: the minute timer, the suspend timer and the battery-low input. The codes of TEST_RESULT are R171's and R172's, its subject
log 17's reading of them. That TEST_RESULT comes before what other blocks report is log 7's order. -/
def Obligations.TestTimersAndBattery : Prop :=
  ∀ (s : State) (low : Bool), s.awake = true →
    let ended (base : State) (last : TestResult) (fault : Bool) : State := { base with
      marker := false
      dt := { base.dt with
        state := .idle
        requested := none
        completed := none
        minute := none
        cause := none
        suspend := none
        last := last
        batteryFault := fault } }
    (∀ deadline n, s.dt.state = .running → s.dt.minute = some deadline → s.dt.completed = some n →
      let late : State := { s with now := max s.now deadline }
      (s.dt.requested ≠ some (n + 1) →
        exec .minuteTimerExpiry s = .next { late with
          dt := { s.dt with completed := some (n + 1), minute := some (late.now + 60 * Config.second) } }) ∧
      (s.dt.requested = some (n + 1) →
        Completes .minuteTimerExpiry s fun t =>
          CallConsequent (ended late .pass false) t ∧ Reports late .testResult 1 (n + 1) t)) ∧
    (∀ deadline, s.dt.suspend = some deadline →
      let late : State := { s with now := max s.now deadline }
      Completes .suspendTimerExpiry s fun t =>
        CallConsequent (ended late (.aborted .suspendTimeout) s.dt.batteryFault) t ∧
          Reports late .testResult 3 0xFF02 t) ∧
    (let read : State := { s with dt := { s.dt with battery := some low } }
     (low = false ∨ s.dt.state ≠ .running → exec (.batteryLowChange low) s = .next read) ∧
      (low = true → s.dt.state = .running →
        Completes (.batteryLowChange low) s fun t =>
          CallConsequent (ended read (.fail (s.dt.completed.getD 0)) true) t ∧ t.hasFault = true ∧
            Reports s .testResult 2 (s.dt.completed.getD 0) t))

/-! ### Chapter 11: attendant port, configuration and start-up -/

/-- R168, R169, R179: the restarts, and the bounds of a transaction. Everything returns to its value after restart but the waiting commands,
the test-in-force marker, and the model's own pins and free-choice count. How a begin finds select low is log 4's; that POWER_UP leaves a
held node held and RESET_PIN restarts from every phase is log 5's; the records of LOADING that no rule gives, and that they, and with them the
outputs, are the same while the reset pin holds the node, are log 6's. -/
def Obligations.RestartsAndTransactions : Prop :=
  ∀ s : State,
    let port : Port := if s.ap.port = .high then .high else .deaf
    let fresh (phase : Phase) (p : Port) (t : State) : Prop :=
      t = { State.reset with
          pending := s.pending
          marker := s.marker
          pins := s.pins
          freeCount := s.freeCount
          cl := { State.reset.cl with phase := phase }
          ap := { State.reset.ap with port := p } }
    (s.cl.phase ≠ .held → Completes .powerUp s (fresh .loading port)) ∧
    (s.cl.phase = .held → Completes .powerUp s (fresh .held port)) ∧
    Completes .resetPinAsserted s (fresh .held port) ∧
    Completes .resetPin s (fresh .loading port) ∧
    (s.listens = true →
      exec .restart s = .next { s with ap := { s.ap with port := .restartDecoded, dataOut := [0x00] } }) ∧
    (s.ap.port = .restartDecoded → Completes .transactionEnd s (fresh .loading .high)) ∧
    (s.ap.port ≠ .restartDecoded →
      exec .transactionEnd s = .next { s with ap := { s.ap with port := .high, dataOut := [] } }) ∧
    (s.ap.port = .restartDecoded → Completes .transactionBegin s (fresh .loading .begun)) ∧
    (s.ap.port ≠ .restartDecoded →
      exec .transactionBegin s = .next { s with
        ap := { s.ap with port := if s.cl.phase = .held then .deaf else .begun, dataOut := [] } })

/-- R169, R170: what the port itself refuses, in the order of its tests, and what it does not read.
R170: the bytes of a response, by its result and by ERR_STATE's reason; R169: what an answer does to the port: data out holds the response, and the
request of a transaction that has begun is decoded. That a request which comes while select is high is a whole transaction, and leaves select
high, is the model's reading (log 4). -/
def Obligations.PortRefusals : Prop :=
  ((∀ data, (Response.done data).bytes = 0x00 :: data) ∧ Response.errFormat.bytes = [0x01] ∧
    Response.errRole.bytes = [0x02] ∧ (∀ reason, (Response.errState reason).bytes = [0x03, BitVec.ofNat 8 reason.code]) ∧
    Response.errRange.bytes = [0x04] ∧ Response.errActive.bytes = [0x05] ∧ Response.errPhase.bytes = [0x06] ∧
    [Reason.none, .idle, .running, .suspended, .notQuiet, .fireNear, .evacuate, .peerTesting, .notNight, .noEntry,
        .queueFull, .opened, .taking, .mine, .others].map Reason.code =
      [0x00, 0x01, 0x02, 0x03, 0x04, 0x05, 0x06, 0x07, 0x08, 0x09, 0x0A, 0x0B, 0x0C, 0x0D, 0x0E]) ∧
  (∀ (s : State) (response : Response),
    (s.ap.port = .high →
      s.respond response = { s with ap := { s.ap with port := .high, dataOut := response.bytes } }) ∧
    (s.ap.port ≠ .high →
      s.respond response = { s with ap := { s.ap with port := .decoded, dataOut := response.bytes } })) ∧
  ∀ (s : State) (c : Instr) (code len : Byte),
    let read := commandGroup c = .statusRead ∨ commandGroup c = .stationRead
    let change := commandGroup c = .change ∨ commandGroup c = .stationChange
    (s.listens = false → read ∨ change → exec c s = .next s) ∧
    (s.listens = false → exec .restart s = .next s ∧ exec (.unknownRequest code len) s = .next s) ∧
    (s.listens = true →
      (requestLength code.toNat ≠ some len.toNat → exec (.unknownRequest code len) s = .next (s.respond .errFormat)) ∧
      (s.awake = false → read ∨ change → exec c s = .next (s.respond .errPhase)) ∧
      (s.running = false → change → exec c s = .next (s.respond .errPhase)) ∧
      (s.cl.node.role = .gallery →
        (s.awake = true ∧ commandGroup c = .stationRead) ∨ (s.running = true ∧ commandGroup c = .stationChange) →
        exec c s = .next (s.respond .errRole)))

/-- R24, R31, R56, R60, R63, R74, R78, R81, R88, R104, R127, R142, R157, R167, R170 to R173: the status reads in LISTEN and in RUN, the
bytes of each response field by field. They change nothing but the response, two of them apart: READ_NODE clears QUEUE_DISCARD, READ_REPORT
removes the oldest report. A time left of two bytes, rounded down to whole seconds, is log 13's, the codes of lists that no rule orders by
name and the call's position counted from 0 log 14's, the places of an absent record and the FFh of an unqualified input (READ_DOOR,
READ_CALL, READ_TEST) log 15's, a strip's direction absent outside CHASE log 36's, the codes of a last result log 17's, the one count of
READ_CHANNEL and its d for every kind log 18's, the sums of READ_ROUTE at a node with an exit of its own and before RUN, and that an unused
slot has no place among them, log 33's, four bytes most significant first log 39's, the level of a REX input a free value (log 10). -/
def Obligations.StatusReadsAnswered : Prop :=
  ∀ (s : State) (i : Byte), s.listens = true → s.awake = true →
    let ranged (limit : Nat) (c : Instr) (data : List Byte) : Prop :=
      (i.toNat < limit → exec c s = .next (s.respond (.done data))) ∧
        (limit ≤ i.toNat → exec c s = .next (s.respond .errRange))
    let byte (n : Nat) : List Byte := [BitVec.ofNat 8 n]
    let word (n : Nat) : List Byte := [BitVec.ofNat 8 (n / 256), BitVec.ofNat 8 n]
    let quad (n : Nat) : List Byte :=
      [BitVec.ofNat 8 (n / 16777216), BitVec.ofNat 8 (n / 65536), BitVec.ofNat 8 (n / 256), BitVec.ofNat 8 n]
    let flag (b : Bool) : List Byte := byte (if b = true then 1 else 0)
    let gone (n : Nat) : List Byte := List.replicate n 0xFF
    let byteOr (v : Option Nat) : List Byte := (v.map byte).getD (gone 1)
    let wordOr (v : Option Nat) : List Byte := (v.map word).getD (gone 2)
    let quadOr (v : Option Nat) : List Byte := (v.map quad).getD (gone 4)
    let left (timer : Timer) : List Byte :=
      wordOr (timer.map fun deadline => min 65535 ((deadline - s.now) / Config.second))
    let silenced := s.nt.latch.isSome
    let ch := s.channel i.toNat
    let d := s.door i.toNat
    let p := s.point i.toNat
    let k := s.slot i.toNat
    ranged 16 (.readChannel i)
      (byte ch.cfg.kind.code ++ byte ch.state.code ++ word ch.m4 ++ word (ch.m4 / 4) ++ word ch.b ++
        word (ch.m4 / 4 - ch.b) ++ byte ch.verify ++ byte (if ch.state = .fault then ch.goodCount else ch.sampleCount) ++
        byte ch.ring.length ++ wordOr ch.ring.head? ++ flag ch.driftLimit ++ flag ch.faultInAlarm) ∧
    ranged 8 (.readDoor i)
      (byte d.cfg.kind.code ++ flag d.cfg.magnet ++ flag d.cfg.feedback ++ flag d.cfg.remote ++
        byte d.cfg.pulseSeconds ++ word d.cfg.limitSeconds ++
        byte (if d.cfg.kind = .unused then 8 else d.state.code) ++ byteOr (d.contact.map (·.code)) ++
        byteOr (d.feedback.map (·.code)) ++
        byteOr ((d.rexLevel i.toNat s.now).map fun pressed => if pressed = true then 0 else 1) ++ byte d.lock.code ++
        byte d.magnet.code ++ flag d.accessMark ++ left d.accessTimer ++ left d.openTimer ++ left d.jamTimer) ∧
    ranged 17 (.readCall i)
      ((match s.call i.toNat with
        | some c =>
          flag true ++ byte i.toNat ++ byte c.kind.code ++ byte c.base ++ byte c.escalated ++ byte c.current ++
            byte c.serial ++ flag (decide (c.taker ≠ 0)) ++ byte c.taker ++ flag c.overdue ++ flag c.reminder ++
            left c.unanswered ++ left c.attend ++ left c.reannounce
        | none => flag false ++ gone 16) ++
        byte (s.serial i.toNat) ++
        (if i.toNat < 8 then
          byte p.kind.code ++ flag p.level ++ byte p.priority ++
            (if p.kind = .unused then byte 1 else byteOr (p.input.map fun active => if active = true then 0 else 1))
        else []) ++
        byteOr (s.tableOrder.findIdx? fun src => decide (src = i.toNat))) ∧
    ranged 8 (.readNeighbour i)
      (if k.id = 0 then byte 0 ++ gone 2 ++ byte 0 ++ gone 7
      else
        byte k.id ++ byte (k.link.getD 8) ++ byte k.cost ++ byte k.presence.code ++
          byte (if k.presence = .absent then 0 else k.fire.code) ++ byte (if k.presence = .absent then 15 else k.f) ++
          byte (if k.presence = .fresh then k.x else 15) ++ byteOr k.h ++
          flag (decide (k.presence = .fresh) && k.test) ++ left k.deadline) ∧
    (s.cl.node.role = .station →
      ranged 24 (.listRead i)
        (byte s.al.length ++
          match s.al[i.toNat]? with
          | some e =>
            byte e.origin ++ byte e.source ++ byte e.kind.code ++ byte e.priority ++ byte e.serial ++ byte e.state.code ++
              byte e.taker ++ flag e.overdue ++ flag e.reminder ++ quad e.inserted ++
              word (min 65535 (s.now / Config.second - e.inserted)) ++ left e.expiry ++ left e.takeTimeout
          | none => gone 19)) ∧
    exec .readRoute s = .next (s.respond (.done
      (byte s.ru.f ++ byte s.ru.xLocal ++ byte s.ru.via.code ++ byteOr s.ru.exitDoor ++ byte s.ru.announcedX ++
        flag s.ru.evacuating.isSome ++ byteOr (s.ru.evacuating.map (·.code)) ++ byte s.cl.node.e ++
        (s.nt.slots.filter fun k => decide (k.id ≠ 0)).flatMap fun k =>
          byte (if k.presence = .absent then 15 else min 15 (k.f + k.cost)) ++
            byte (if decide (k.presence = .fresh) && s.passable k then min 15 (k.x + k.cost) else 15)))) ∧
    exec .readSignals s = .next (s.respond (.done
      ((s.sd.signs.flatMap fun g =>
          let lit : Bool := match g.display, g.flash with
            | .plain, _ => true
            | .arrow, some n => decide (128 ≤ n ∨ n % 16 ≤ 7)
            | .cross, some n => decide (n % 32 ≤ 15)
            | _, none => true
          if g.used = true then
            flag true ++ byte g.display.code ++ byteOr (g.shown.map (·.code)) ++ flag lit ++ wordOr g.flash ++
              byte g.noCurrent ++ flag g.fault
          else flag false ++ gone 7) ++
        (s.sd.strips.flatMap fun p =>
          if p.n ≠ 0 then
            flag true ++ byte p.mode.code ++ byteOr (p.dir.map (·.code)) ++ byte p.phase ++ wordOr p.flash ++
              byteOr p.check ++ quad (bitsToNat p.lit) ++ byteOr p.latch
          else flag false ++ gone 11) ++
        byte s.sd.sounder.code ++ byteOr (s.sd.cadence.map fun on => if on = true then 1 else 0) ++
        flag (!silenced && (decide (s.sd.sounder = .evac) ||
          decide (s.sd.sounder = .alert) && decide (s.sd.cadence = some true))) ++
        flag silenced))) ∧
    exec .readTest s = .next (s.respond (.done
      (byte s.dt.state.code ++ byteOr s.dt.requested ++ byteOr s.dt.completed ++ left s.dt.minute ++
        byteOr (s.dt.cause.map (·.code)) ++ left s.dt.suspend ++
        (match s.dt.last with
          | .none => byte 0 ++ gone 1
          | .pass => byte 1 ++ gone 1
          | .fail m => byte 2 ++ byte m
          | .aborted reason => byte 3 ++ byte reason.code) ++
        flag s.dt.batteryFault ++ byteOr (s.dt.battery.map fun low => if low = true then 0 else 1) ++
        byte (if s.dt.state = .running then 0 else 1) ++ flag s.cl.node.nightOnly ++ flag s.cl.node.autoResume))) ∧
    exec .readNode s = .next (State.respond { s with lc := { s.lc with queueDiscard := false } } (.done
      ((byte s.cl.node.id ++ byte s.cl.node.role.code ++ byte s.cl.phase.code ++ left s.cl.listen ++
          word (bitsToNat
            [ s.ds.channels.any fun ch => decide (ch.state = .fault), s.ds.channels.any (·.driftLimit),
              s.ds.channels.any (·.faultInAlarm), s.lc.lineStuck, s.lc.lineNoisy, s.lc.collision, s.lc.duplicateId,
              s.nt.slots.any fun k => decide (k.id ≠ 0 ∧ k.presence = .silent),
              s.doors.any fun d => decide (d.cfg.kind ≠ .unused ∧ d.state = .jammed), s.sd.signs.any (·.fault),
              s.sd.strips.any (·.latch.isSome), s.dt.batteryFault, decide (s.cl.clampCount ≠ 0), s.cl.invalid.isSome ]) ++
          flag s.cl.invalid.isNone ++ byteOr (s.cl.invalid.map (·.code)) ++ byte s.cl.clampCount ++
          byteOr s.cl.firstClamp) ++
        (byte s.fl.gallery.code ++ byte s.fl.cause.cause.code ++ byteOr s.fl.cause.subject ++ byteOr s.fl.cause.slot ++
          quadOr s.fl.cause.time ++ left s.fl.confirm ++ flag s.fl.walkActive ++ left s.fl.walkTimer ++
          word (bitsToNat s.fl.tested) ++
          s.fl.lastRecorded.flatMap fun time => quadOr (time.map (· / Config.second))) ++
        (flag s.lc.lineStuck ++ flag s.lc.lineNoisy ++ flag s.lc.collision ++ flag s.lc.duplicateId ++
          flag s.lc.queueDiscard ++ byte s.lc.queue.length ++ byte s.lc.noise.length) ++
        (byte s.nt.mode.code ++ flag s.nt.evacuate ++ flag s.nt.orderHeard ++ flag silenced ++ byteOr s.nt.latch)))) ∧
    (s.ap.reports = [] → exec .readReport s = .next (s.respond (.done (gone 10)))) ∧
    (∀ r rest, s.ap.reports = r :: rest →
      exec .readReport s = .next (State.respond { s with ap := { s.ap with reports := rest } } (.done
        (byte r.kind.code ++ word r.subject.toNat ++ word r.value.toNat ++ quad r.time ++ flag r.overflow))))

/-- R1, R2, R25, R40, R61, R62, R75, R76, R89, R90, R109, R110, R118, R120, R121, R128, R143, R144, R148, R158, R168, R173 to R177: the read of
the image ends in LOADING. Every block stands at its value after restart; a valid image gives every field, as it stands where it is in range
and else as the rules bring it into range; an invalid one, by the first of R174's five failures that it has, gives the defaults; a
configuration member of the summary raises the node-fault call at once. The clamp record counts each field whose value taken is not the
one in the image, and names the lowest offset of one. No start bit is received before the line has been seen idle (R61), 11
bit times later at the earliest (log 38). That LOADING has held an unconfigured node's
records is log 6's, what else a short read gives log 28's; the free choice taken is that of the REX inputs (log 10). -/
def Obligations.ConfigurationTaken : Prop :=
  ∀ (s : State) (bytes : List Byte) (strap : Mode),
    (s.cl.phase ≠ .loading → exec (.configReadComplete bytes strap) s = .next s) ∧
    (s.cl.phase = .loading →
      let byte (o : Nat) : Nat := (bytes.getD o 0).toNat
      let check : Nat := ((bytes.take 254).flatMap fun b => [7, 6, 5, 4, 3, 2, 1, 0].map b.getLsbD).foldl
        (fun r bit => if (r / 32768 + bit.toNat) % 2 = 1 then Nat.xor (2 * r % 65536) 0x1021 else 2 * r % 65536) 0xFFFF
      let failure : Option ImageReason :=
        if bytes.length < 256 then some .noAck
        else if ¬(byte 0 = 0x4B ∧ byte 1 = 0x47) then some .marker
        else if byte 2 * 256 + byte 3 ≠ 254 then some .length
        else if byte 254 * 256 + byte 255 ≠ check then some .crc
        else if byte 4 < 1 ∨ 62 < byte 4 then some .nodeId
        else none
      Completes (.configReadComplete bytes strap) s fun t =>
        let node := t.cl.node
        let outcome : Nat :=
          match failure with
          | some reason => 2 * 256 + reason.code
          | none => if t.cl.clampCount = 0 then 0 else 256 + t.cl.clampCount
        let faulty := t.cl.clampCount ≠ 0 ∨ t.cl.invalid ≠ none
        (t.cl.phase = .listen ∧ t.now = 0 ∧ t.cl.listen = some (2 * node.h * Config.second) ∧
          t.cl.invalid = failure ∧ t.pending = s.pending ∧ t.ap.port = s.ap.port ∧ t.marker = false ∧
          (t.cl.firstClamp = none ↔ t.cl.clampCount = 0) ∧ t.cl.clampCount ≤ 255 ∧
          t.pins = { s.pins with strap := strap } ∧ t.freeCount = s.freeCount + 1 ∧
          t.ap.reports =
            ⟨.config, BitVec.ofNat 16 (t.cl.firstClamp.getD 0xFFFF), BitVec.ofNat 16 outcome, 0, false⟩ ::
              if faulty then [⟨.callRaised, 16, 0x0502, 0, false⟩] else []) ∧
        (t.fl = .afterRestart ∧ t.al = [] ∧ t.lc = .afterRestart ∧ t.lc.deaf = some 22 ∧ t.ru = .afterRestart ∧
          t.dt = .afterRestart (if s.marker = true then .aborted .restart else .none)) ∧
        (t.nt.evacuate = false ∧ t.nt.orderHeard = false ∧ t.nt.latch = none ∧ t.nt.mode = node.startMode ∧
          ∀ k ∈ t.nt.slots, k = ⟨k.id, k.link, k.cost, .absent, .quiet, 15, 15, none, false, none⟩) ∧
        (t.ds.drift = none ∧ t.ds.rate = none ∧ t.ds.nextSlot = 0 ∧ t.ds.grant = none ∧
          ∀ ch ∈ t.ds.channels,
            ch = {
              cfg := ch.cfg
              state := if ch.cfg.kind = .unused then .isolated else .settle
              sampleCount := 0
              goodCount := 0
              settled := false
              m4 := 0
              b := if ch.cfg.kind = .smoke then ch.cfg.bmin else 0
              verify := 0
              hold := none
              ring := []
              lastOdd := 0
              inService := 0
              driftLimit := false
              faultInAlarm := false }) ∧
        (∀ d ∈ t.doors,
          let free := (d.cfg.kind = .gallery ∨ d.cfg.kind = .exit) ∧ node.startMode = .day
          (d.cfg.kind ≠ .unused → d.state = if free then .shutFree else .shutLocked) ∧
            d.contact = none ∧ d.feedback = none ∧ (∀ i, d.rexLevel i t.now = none) ∧ d.accessMark = false ∧
            d.accessTimer = none ∧ d.openTimer = none ∧ d.jamTimer = none ∧
            d.lock = (if d.cfg.kind = .unused ∨ free then .free else .lock) ∧
            d.magnet = (if d.cfg.kind = .gallery ∧ d.cfg.magnet = true ∧ node.startMode = .day then .hold else .drop)) ∧
        (t.cc = {
            points := t.cc.points
            keyOn := none
            calls := (List.replicate 17 none).set 16
              (if faulty then
                some ⟨.fault, 2, 2, 2, 0, 0, false, false, some (node.tesc * Config.second), none, some (16 * Config.second)⟩
              else none)
            serials := (List.replicate 17 0).set 16 (if faulty then 1 else 0)
            rotations := List.replicate 4 (List.range 17) } ∧
          ∀ p ∈ t.cc.points, p.input = none) ∧
        (t.sd.signTimer = some 6250 ∧ t.sd.sounder = .off ∧ t.sd.cadence = none ∧ t.sd.cadenceTimer = none ∧
          t.sounderOn = false ∧ t.relayOpen = false ∧
          (∀ g ∈ t.sd.signs, g = ⟨g.used, g.default, g.map, .plain, some g.default, none, 0, false⟩) ∧
          ∀ p ∈ t.sd.strips,
            p = ⟨p.n, p.w, p.pp, p.step, p.offset, p.map, .off, none, 0, none, none, List.replicate p.n false, none, none⟩) ∧
        (failure ≠ none →
          node = ⟨0, .gallery, strap, 4, 1, 30, 4, 10, 5, 60, 10, false, false⟩ ∧ t.cl.clampCount = 0 ∧
            t.nt.slots.map (·.id) = List.replicate 8 0 ∧
            t.ds.channels.map (·.cfg) = List.replicate 16 ⟨.smoke, 40, 400, 30, 60, 15, 40, 40, 0⟩ ∧
            t.doors.map (·.cfg) = List.replicate 8 ⟨.exit, false, false, false, 5, 60⟩ ∧
            t.cc.points = List.replicate 8 ⟨.help, false, 2, none⟩ ∧
            t.sd.signs.map (fun g => (g.used, g.default, g.map)) =
              List.replicate 4 (true, .ahead, List.replicate 9 .ahead) ∧
            t.sd.strips.map (·.n) = [0, 0]) ∧
        (failure = none →
          let bits (o low width : Nat) : Nat := byte o / 2 ^ low % 2 ^ width
          let near (low high n : Nat) : Nat := max low (min high n)
          let entry (own o via : Nat) : Nat :=
            if via = 8 then bits own 0 2 else bits (o + via / 4) (6 - 2 * (via % 4)) 2
          node = {
            id := byte 4
            role := if bits 5 7 1 = 1 then .station else .gallery
            startMode := if bits 5 6 1 = 1 then .night else .day
            h := near 1 8 (byte 6)
            e := near 0 14 (byte 7)
            tc := near 0 240 (byte 8)
            v := near 2 15 (byte 9)
            driftMinutes := near 1 60 (byte 10)
            rateSeconds := near 2 15 (byte 11)
            tesc := near 20 250 (byte 12)
            tatt := near 1 60 (byte 13)
            nightOnly := decide (bits 5 5 1 = 1)
            autoResume := decide (bits 5 4 1 = 1) } ∧
          (∀ i : Fin 8,
            let o := 14 + 2 * i.val
            let off := byte o = 0 ∨ 62 < byte o ∨ byte o = byte 4 ∨ ∃ j < i.val, byte (14 + 2 * j) = byte o
            (off → (t.slot i).id = 0) ∧
              (¬off →
                (t.slot i).id = byte o ∧
                  (t.slot i).cost = near 1 3 (bits (o + 1) 0 4) ∧
                  (t.slot i).link =
                    if bits (o + 1) 4 4 ≤ 7 ∧
                        ∀ j < i.val, (t.slot j).id ≠ 0 → bits (15 + 2 * j) 4 4 ≠ bits (o + 1) 4 4 then
                      some (bits (o + 1) 4 4)
                    else none)) ∧
          (∀ c : Fin 16,
            let o := 30 + 10 * c.val
            let kind := bits o 6 2
            let bmin := near 16 1000 (bits o 0 2 * 256 + byte (o + 1))
            let alarm (n : Nat) : Nat := near 2 255 n
            (kind = 0 → (t.channel c).cfg.kind = .unused) ∧
              (kind = 1 ∨ kind = 3 →
                (t.channel c).cfg = ⟨.smoke, bmin, max bmin (near 16 1000 (byte (o + 2) * 256 + byte (o + 3))),
                  near 1 (alarm (byte (o + 5)) - 1) (byte (o + 4)), alarm (byte (o + 5)),
                  near 1 (alarm (byte (o + 7)) - 1) (byte (o + 6)), alarm (byte (o + 7)), 0, 0⟩) ∧
              (kind = 2 →
                (t.channel c).cfg = ⟨.heat, 0, 0, 0, 0, 0, 0, near 40 90 (byte (o + 8)), near 0 31 (byte (o + 9))⟩)) ∧
          (∀ i : Fin 8,
            let o := 190 + 4 * i.val
            let cfg := (t.door i).cfg
            let feedback := decide (bits o 3 1 = 1)
            let remote := decide (bits o 2 1 = 1)
            let pulse := near 1 30 (byte (o + 1))
            let limit := near 5 600 (byte (o + 2) * 256 + byte (o + 3)) / 5 * 5
            (bits o 5 3 = 0 → cfg.kind = .unused ∧ cfg.magnet = false ∧ cfg.remote = false) ∧
              (bits o 5 3 = 1 → cfg = ⟨.gallery, decide (bits o 4 1 = 1), feedback, remote, pulse, limit⟩) ∧
              (bits o 5 3 = 3 → cfg = ⟨.staff, false, feedback, remote, pulse, limit⟩) ∧
              (bits o 5 3 = 4 → cfg = ⟨.store, false, feedback, remote, pulse, limit⟩) ∧
              (bits o 5 3 = 2 ∨ 5 ≤ bits o 5 3 → cfg = ⟨.exit, false, feedback, remote, pulse, limit⟩)) ∧
          (∀ i : Fin 8,
            let o := 222 + i.val
            let level := decide (bits o 5 1 = 1)
            (bits o 6 2 = 0 → (t.point i).kind = .unused) ∧
              (bits o 6 2 = 1 → t.point i = ⟨.help, level, min 3 (bits o 0 4), none⟩) ∧
              (bits o 6 2 = 2 → t.point i = ⟨.staff, level, min 3 (bits o 0 4), none⟩) ∧
              (bits o 6 2 = 3 → t.point i = ⟨.fire, true, 0, none⟩)) ∧
          (∀ i : Fin 4,
            let o := 230 + 3 * i.val
            let arrow (n : Nat) : Arrow := if n = 0 then .left else if n = 1 then .right else .ahead
            (t.sign i).used = decide (bits o 7 1 = 1) ∧
              (bits o 7 1 = 1 →
                (t.sign i).default = arrow (bits o 4 2) ∧
                  (t.sign i).map = (List.range 9).map fun via => arrow (entry o (o + 1) via))) ∧
          (∀ i : Fin 2,
            let o := 242 + 6 * i.val
            let dir (n : Nat) : Dir := if n = 0 then .forward else if n = 1 then .reverse else .steady
            (t.strip i).n = min 32 (byte o) ∧
              (byte o ≠ 0 →
                (t.strip i).pp = near 2 16 (bits (o + 1) 3 5) ∧
                  (t.strip i).w = min ((t.strip i).pp - 1) (near 1 7 (bits (o + 1) 0 3)) ∧
                  (t.strip i).step = near 1 15 (bits (o + 2) 4 4) ∧ (t.strip i).offset = bits (o + 2) 0 4 ∧
                  (t.strip i).map = (List.range 9).map fun via => dir (entry (o + 3) (o + 4) via))) ∧
          (let one (o read taken : Nat) : List Nat := if read = taken then [] else [o]
            let word (o : Nat) : Nat := byte o * 256 + byte (o + 1)
            let yes (b : Bool) : Nat := if b = true then 1 else 0
            let entries (own o : Nat) : List Nat := (List.range 9).flatMap fun via =>
              if entry own o via = 3 then [if via = 8 then own else o + via / 4] else []
            let ofNode := one 6 (byte 6) node.h ++ one 7 (byte 7) node.e ++ one 8 (byte 8) node.tc ++ one 9 (byte 9) node.v ++
              one 10 (byte 10) node.driftMinutes ++ one 11 (byte 11) node.rateSeconds ++ one 12 (byte 12) node.tesc ++
              one 13 (byte 13) node.tatt
            let ofSlot (i : Nat) : List Nat :=
              let o := 14 + 2 * i
              let k := t.slot i
              if k.id = 0 then one o (byte o) 0
              else one (o + 1) (bits (o + 1) 4 4) (k.link.getD 15) ++ one (o + 1) (bits (o + 1) 0 4) k.cost
            let ofChannel (c : Nat) : List Nat :=
              let o := 30 + 10 * c
              let cfg := (t.channel c).cfg
              if bits o 6 2 = 0 then []
              else if bits o 6 2 = 2 then one (o + 8) (byte (o + 8)) cfg.th ++ one (o + 9) (byte (o + 9)) cfg.rr
              else
                one o (bits o 6 2) 1 ++ one o (bits o 0 2 * 256 + byte (o + 1)) cfg.bmin ++ one (o + 2) (word (o + 2)) cfg.bmax ++
                  one (o + 4) (byte (o + 4)) cfg.dayP ++ one (o + 5) (byte (o + 5)) cfg.dayA ++
                  one (o + 6) (byte (o + 6)) cfg.nightP ++ one (o + 7) (byte (o + 7)) cfg.nightA
            let ofDoor (i : Nat) : List Nat :=
              let o := 190 + 4 * i
              let cfg := (t.door i).cfg
              one o (bits o 5 3) cfg.kind.code ++ one o (bits o 4 1) (yes cfg.magnet) ++ one o (bits o 2 1) (yes cfg.remote) ++
                if cfg.kind = .unused then []
                else one (o + 1) (byte (o + 1)) cfg.pulseSeconds ++ one (o + 2) (word (o + 2)) cfg.limitSeconds
            let ofPoint (i : Nat) : List Nat :=
              let o := 222 + i
              if bits o 6 2 = 0 then []
              else one o (bits o 5 1) (yes (t.point i).level) ++ one o (bits o 0 4) (t.point i).priority
            let ofSign (i : Nat) : List Nat :=
              let o := 230 + 3 * i
              if bits o 7 1 = 0 then [] else (if bits o 4 2 = 3 then [o] else []) ++ entries o (o + 1)
            let ofStrip (i : Nat) : List Nat :=
              let o := 242 + 6 * i
              let p := t.strip i
              if byte o = 0 then []
              else
                one o (byte o) p.n ++ one (o + 1) (bits (o + 1) 3 5) p.pp ++ one (o + 1) (bits (o + 1) 0 3) p.w ++
                  one (o + 2) (bits (o + 2) 4 4) p.step ++ entries (o + 3) (o + 4)
            let clamped := ofNode ++ (List.range 8).flatMap ofSlot ++ (List.range 16).flatMap ofChannel ++
              (List.range 8).flatMap ofDoor ++ (List.range 8).flatMap ofPoint ++ (List.range 4).flatMap ofSign ++
              (List.range 2).flatMap ofStrip
            t.cl.clampCount = min 255 clamped.length ∧
              ∀ o, t.cl.firstClamp = some o → o ∈ clamped ∧ ∀ x ∈ clamped, o ≤ x)))

end
end

