-- ==== Sys2Proof/Laws/State.lean ====
section
/-!
SUPPORT. Laws/State.lean: each field of a state after each update of one field. All true by unfolding.
-/

namespace Sys2Proof.Machine.State

/-! ### setPending -/

@[simp] theorem setPending_pending (s : State) v : (s.setPending v).pending = v := rfl
@[simp] theorem setPending_now (s : State) v : (s.setPending v).now = s.now := rfl
@[simp] theorem setPending_cl (s : State) v : (s.setPending v).cl = s.cl := rfl
@[simp] theorem setPending_ds (s : State) v : (s.setPending v).ds = s.ds := rfl
@[simp] theorem setPending_fl (s : State) v : (s.setPending v).fl = s.fl := rfl
@[simp] theorem setPending_lc (s : State) v : (s.setPending v).lc = s.lc := rfl
@[simp] theorem setPending_nt (s : State) v : (s.setPending v).nt = s.nt := rfl
@[simp] theorem setPending_ru (s : State) v : (s.setPending v).ru = s.ru := rfl
@[simp] theorem setPending_doors (s : State) v : (s.setPending v).doors = s.doors := rfl
@[simp] theorem setPending_cc (s : State) v : (s.setPending v).cc = s.cc := rfl
@[simp] theorem setPending_al (s : State) v : (s.setPending v).al = s.al := rfl
@[simp] theorem setPending_sd (s : State) v : (s.setPending v).sd = s.sd := rfl
@[simp] theorem setPending_dt (s : State) v : (s.setPending v).dt = s.dt := rfl
@[simp] theorem setPending_ap (s : State) v : (s.setPending v).ap = s.ap := rfl
@[simp] theorem setPending_marker (s : State) v : (s.setPending v).marker = s.marker := rfl
@[simp] theorem setPending_pins (s : State) v : (s.setPending v).pins = s.pins := rfl
@[simp] theorem setPending_freeCount (s : State) v : (s.setPending v).freeCount = s.freeCount := rfl

/-! ### setNow -/

@[simp] theorem setNow_pending (s : State) v : (s.setNow v).pending = s.pending := rfl
@[simp] theorem setNow_now (s : State) v : (s.setNow v).now = v := rfl
@[simp] theorem setNow_cl (s : State) v : (s.setNow v).cl = s.cl := rfl
@[simp] theorem setNow_ds (s : State) v : (s.setNow v).ds = s.ds := rfl
@[simp] theorem setNow_fl (s : State) v : (s.setNow v).fl = s.fl := rfl
@[simp] theorem setNow_lc (s : State) v : (s.setNow v).lc = s.lc := rfl
@[simp] theorem setNow_nt (s : State) v : (s.setNow v).nt = s.nt := rfl
@[simp] theorem setNow_ru (s : State) v : (s.setNow v).ru = s.ru := rfl
@[simp] theorem setNow_doors (s : State) v : (s.setNow v).doors = s.doors := rfl
@[simp] theorem setNow_cc (s : State) v : (s.setNow v).cc = s.cc := rfl
@[simp] theorem setNow_al (s : State) v : (s.setNow v).al = s.al := rfl
@[simp] theorem setNow_sd (s : State) v : (s.setNow v).sd = s.sd := rfl
@[simp] theorem setNow_dt (s : State) v : (s.setNow v).dt = s.dt := rfl
@[simp] theorem setNow_ap (s : State) v : (s.setNow v).ap = s.ap := rfl
@[simp] theorem setNow_marker (s : State) v : (s.setNow v).marker = s.marker := rfl
@[simp] theorem setNow_pins (s : State) v : (s.setNow v).pins = s.pins := rfl
@[simp] theorem setNow_freeCount (s : State) v : (s.setNow v).freeCount = s.freeCount := rfl

/-! ### setCl -/

@[simp] theorem setCl_pending (s : State) v : (s.setCl v).pending = s.pending := rfl
@[simp] theorem setCl_now (s : State) v : (s.setCl v).now = s.now := rfl
@[simp] theorem setCl_cl (s : State) v : (s.setCl v).cl = v := rfl
@[simp] theorem setCl_ds (s : State) v : (s.setCl v).ds = s.ds := rfl
@[simp] theorem setCl_fl (s : State) v : (s.setCl v).fl = s.fl := rfl
@[simp] theorem setCl_lc (s : State) v : (s.setCl v).lc = s.lc := rfl
@[simp] theorem setCl_nt (s : State) v : (s.setCl v).nt = s.nt := rfl
@[simp] theorem setCl_ru (s : State) v : (s.setCl v).ru = s.ru := rfl
@[simp] theorem setCl_doors (s : State) v : (s.setCl v).doors = s.doors := rfl
@[simp] theorem setCl_cc (s : State) v : (s.setCl v).cc = s.cc := rfl
@[simp] theorem setCl_al (s : State) v : (s.setCl v).al = s.al := rfl
@[simp] theorem setCl_sd (s : State) v : (s.setCl v).sd = s.sd := rfl
@[simp] theorem setCl_dt (s : State) v : (s.setCl v).dt = s.dt := rfl
@[simp] theorem setCl_ap (s : State) v : (s.setCl v).ap = s.ap := rfl
@[simp] theorem setCl_marker (s : State) v : (s.setCl v).marker = s.marker := rfl
@[simp] theorem setCl_pins (s : State) v : (s.setCl v).pins = s.pins := rfl
@[simp] theorem setCl_freeCount (s : State) v : (s.setCl v).freeCount = s.freeCount := rfl

/-! ### setDs -/

@[simp] theorem setDs_pending (s : State) v : (s.setDs v).pending = s.pending := rfl
@[simp] theorem setDs_now (s : State) v : (s.setDs v).now = s.now := rfl
@[simp] theorem setDs_cl (s : State) v : (s.setDs v).cl = s.cl := rfl
@[simp] theorem setDs_ds (s : State) v : (s.setDs v).ds = v := rfl
@[simp] theorem setDs_fl (s : State) v : (s.setDs v).fl = s.fl := rfl
@[simp] theorem setDs_lc (s : State) v : (s.setDs v).lc = s.lc := rfl
@[simp] theorem setDs_nt (s : State) v : (s.setDs v).nt = s.nt := rfl
@[simp] theorem setDs_ru (s : State) v : (s.setDs v).ru = s.ru := rfl
@[simp] theorem setDs_doors (s : State) v : (s.setDs v).doors = s.doors := rfl
@[simp] theorem setDs_cc (s : State) v : (s.setDs v).cc = s.cc := rfl
@[simp] theorem setDs_al (s : State) v : (s.setDs v).al = s.al := rfl
@[simp] theorem setDs_sd (s : State) v : (s.setDs v).sd = s.sd := rfl
@[simp] theorem setDs_dt (s : State) v : (s.setDs v).dt = s.dt := rfl
@[simp] theorem setDs_ap (s : State) v : (s.setDs v).ap = s.ap := rfl
@[simp] theorem setDs_marker (s : State) v : (s.setDs v).marker = s.marker := rfl
@[simp] theorem setDs_pins (s : State) v : (s.setDs v).pins = s.pins := rfl
@[simp] theorem setDs_freeCount (s : State) v : (s.setDs v).freeCount = s.freeCount := rfl

/-! ### setFl -/

@[simp] theorem setFl_pending (s : State) v : (s.setFl v).pending = s.pending := rfl
@[simp] theorem setFl_now (s : State) v : (s.setFl v).now = s.now := rfl
@[simp] theorem setFl_cl (s : State) v : (s.setFl v).cl = s.cl := rfl
@[simp] theorem setFl_ds (s : State) v : (s.setFl v).ds = s.ds := rfl
@[simp] theorem setFl_fl (s : State) v : (s.setFl v).fl = v := rfl
@[simp] theorem setFl_lc (s : State) v : (s.setFl v).lc = s.lc := rfl
@[simp] theorem setFl_nt (s : State) v : (s.setFl v).nt = s.nt := rfl
@[simp] theorem setFl_ru (s : State) v : (s.setFl v).ru = s.ru := rfl
@[simp] theorem setFl_doors (s : State) v : (s.setFl v).doors = s.doors := rfl
@[simp] theorem setFl_cc (s : State) v : (s.setFl v).cc = s.cc := rfl
@[simp] theorem setFl_al (s : State) v : (s.setFl v).al = s.al := rfl
@[simp] theorem setFl_sd (s : State) v : (s.setFl v).sd = s.sd := rfl
@[simp] theorem setFl_dt (s : State) v : (s.setFl v).dt = s.dt := rfl
@[simp] theorem setFl_ap (s : State) v : (s.setFl v).ap = s.ap := rfl
@[simp] theorem setFl_marker (s : State) v : (s.setFl v).marker = s.marker := rfl
@[simp] theorem setFl_pins (s : State) v : (s.setFl v).pins = s.pins := rfl
@[simp] theorem setFl_freeCount (s : State) v : (s.setFl v).freeCount = s.freeCount := rfl

/-! ### setLc -/

@[simp] theorem setLc_pending (s : State) v : (s.setLc v).pending = s.pending := rfl
@[simp] theorem setLc_now (s : State) v : (s.setLc v).now = s.now := rfl
@[simp] theorem setLc_cl (s : State) v : (s.setLc v).cl = s.cl := rfl
@[simp] theorem setLc_ds (s : State) v : (s.setLc v).ds = s.ds := rfl
@[simp] theorem setLc_fl (s : State) v : (s.setLc v).fl = s.fl := rfl
@[simp] theorem setLc_lc (s : State) v : (s.setLc v).lc = v := rfl
@[simp] theorem setLc_nt (s : State) v : (s.setLc v).nt = s.nt := rfl
@[simp] theorem setLc_ru (s : State) v : (s.setLc v).ru = s.ru := rfl
@[simp] theorem setLc_doors (s : State) v : (s.setLc v).doors = s.doors := rfl
@[simp] theorem setLc_cc (s : State) v : (s.setLc v).cc = s.cc := rfl
@[simp] theorem setLc_al (s : State) v : (s.setLc v).al = s.al := rfl
@[simp] theorem setLc_sd (s : State) v : (s.setLc v).sd = s.sd := rfl
@[simp] theorem setLc_dt (s : State) v : (s.setLc v).dt = s.dt := rfl
@[simp] theorem setLc_ap (s : State) v : (s.setLc v).ap = s.ap := rfl
@[simp] theorem setLc_marker (s : State) v : (s.setLc v).marker = s.marker := rfl
@[simp] theorem setLc_pins (s : State) v : (s.setLc v).pins = s.pins := rfl
@[simp] theorem setLc_freeCount (s : State) v : (s.setLc v).freeCount = s.freeCount := rfl

/-! ### setNt -/

@[simp] theorem setNt_pending (s : State) v : (s.setNt v).pending = s.pending := rfl
@[simp] theorem setNt_now (s : State) v : (s.setNt v).now = s.now := rfl
@[simp] theorem setNt_cl (s : State) v : (s.setNt v).cl = s.cl := rfl
@[simp] theorem setNt_ds (s : State) v : (s.setNt v).ds = s.ds := rfl
@[simp] theorem setNt_fl (s : State) v : (s.setNt v).fl = s.fl := rfl
@[simp] theorem setNt_lc (s : State) v : (s.setNt v).lc = s.lc := rfl
@[simp] theorem setNt_nt (s : State) v : (s.setNt v).nt = v := rfl
@[simp] theorem setNt_ru (s : State) v : (s.setNt v).ru = s.ru := rfl
@[simp] theorem setNt_doors (s : State) v : (s.setNt v).doors = s.doors := rfl
@[simp] theorem setNt_cc (s : State) v : (s.setNt v).cc = s.cc := rfl
@[simp] theorem setNt_al (s : State) v : (s.setNt v).al = s.al := rfl
@[simp] theorem setNt_sd (s : State) v : (s.setNt v).sd = s.sd := rfl
@[simp] theorem setNt_dt (s : State) v : (s.setNt v).dt = s.dt := rfl
@[simp] theorem setNt_ap (s : State) v : (s.setNt v).ap = s.ap := rfl
@[simp] theorem setNt_marker (s : State) v : (s.setNt v).marker = s.marker := rfl
@[simp] theorem setNt_pins (s : State) v : (s.setNt v).pins = s.pins := rfl
@[simp] theorem setNt_freeCount (s : State) v : (s.setNt v).freeCount = s.freeCount := rfl

/-! ### setRu -/

@[simp] theorem setRu_pending (s : State) v : (s.setRu v).pending = s.pending := rfl
@[simp] theorem setRu_now (s : State) v : (s.setRu v).now = s.now := rfl
@[simp] theorem setRu_cl (s : State) v : (s.setRu v).cl = s.cl := rfl
@[simp] theorem setRu_ds (s : State) v : (s.setRu v).ds = s.ds := rfl
@[simp] theorem setRu_fl (s : State) v : (s.setRu v).fl = s.fl := rfl
@[simp] theorem setRu_lc (s : State) v : (s.setRu v).lc = s.lc := rfl
@[simp] theorem setRu_nt (s : State) v : (s.setRu v).nt = s.nt := rfl
@[simp] theorem setRu_ru (s : State) v : (s.setRu v).ru = v := rfl
@[simp] theorem setRu_doors (s : State) v : (s.setRu v).doors = s.doors := rfl
@[simp] theorem setRu_cc (s : State) v : (s.setRu v).cc = s.cc := rfl
@[simp] theorem setRu_al (s : State) v : (s.setRu v).al = s.al := rfl
@[simp] theorem setRu_sd (s : State) v : (s.setRu v).sd = s.sd := rfl
@[simp] theorem setRu_dt (s : State) v : (s.setRu v).dt = s.dt := rfl
@[simp] theorem setRu_ap (s : State) v : (s.setRu v).ap = s.ap := rfl
@[simp] theorem setRu_marker (s : State) v : (s.setRu v).marker = s.marker := rfl
@[simp] theorem setRu_pins (s : State) v : (s.setRu v).pins = s.pins := rfl
@[simp] theorem setRu_freeCount (s : State) v : (s.setRu v).freeCount = s.freeCount := rfl

/-! ### setDoors -/

@[simp] theorem setDoors_pending (s : State) v : (s.setDoors v).pending = s.pending := rfl
@[simp] theorem setDoors_now (s : State) v : (s.setDoors v).now = s.now := rfl
@[simp] theorem setDoors_cl (s : State) v : (s.setDoors v).cl = s.cl := rfl
@[simp] theorem setDoors_ds (s : State) v : (s.setDoors v).ds = s.ds := rfl
@[simp] theorem setDoors_fl (s : State) v : (s.setDoors v).fl = s.fl := rfl
@[simp] theorem setDoors_lc (s : State) v : (s.setDoors v).lc = s.lc := rfl
@[simp] theorem setDoors_nt (s : State) v : (s.setDoors v).nt = s.nt := rfl
@[simp] theorem setDoors_ru (s : State) v : (s.setDoors v).ru = s.ru := rfl
@[simp] theorem setDoors_doors (s : State) v : (s.setDoors v).doors = v := rfl
@[simp] theorem setDoors_cc (s : State) v : (s.setDoors v).cc = s.cc := rfl
@[simp] theorem setDoors_al (s : State) v : (s.setDoors v).al = s.al := rfl
@[simp] theorem setDoors_sd (s : State) v : (s.setDoors v).sd = s.sd := rfl
@[simp] theorem setDoors_dt (s : State) v : (s.setDoors v).dt = s.dt := rfl
@[simp] theorem setDoors_ap (s : State) v : (s.setDoors v).ap = s.ap := rfl
@[simp] theorem setDoors_marker (s : State) v : (s.setDoors v).marker = s.marker := rfl
@[simp] theorem setDoors_pins (s : State) v : (s.setDoors v).pins = s.pins := rfl
@[simp] theorem setDoors_freeCount (s : State) v : (s.setDoors v).freeCount = s.freeCount := rfl

/-! ### setCc -/

@[simp] theorem setCc_pending (s : State) v : (s.setCc v).pending = s.pending := rfl
@[simp] theorem setCc_now (s : State) v : (s.setCc v).now = s.now := rfl
@[simp] theorem setCc_cl (s : State) v : (s.setCc v).cl = s.cl := rfl
@[simp] theorem setCc_ds (s : State) v : (s.setCc v).ds = s.ds := rfl
@[simp] theorem setCc_fl (s : State) v : (s.setCc v).fl = s.fl := rfl
@[simp] theorem setCc_lc (s : State) v : (s.setCc v).lc = s.lc := rfl
@[simp] theorem setCc_nt (s : State) v : (s.setCc v).nt = s.nt := rfl
@[simp] theorem setCc_ru (s : State) v : (s.setCc v).ru = s.ru := rfl
@[simp] theorem setCc_doors (s : State) v : (s.setCc v).doors = s.doors := rfl
@[simp] theorem setCc_cc (s : State) v : (s.setCc v).cc = v := rfl
@[simp] theorem setCc_al (s : State) v : (s.setCc v).al = s.al := rfl
@[simp] theorem setCc_sd (s : State) v : (s.setCc v).sd = s.sd := rfl
@[simp] theorem setCc_dt (s : State) v : (s.setCc v).dt = s.dt := rfl
@[simp] theorem setCc_ap (s : State) v : (s.setCc v).ap = s.ap := rfl
@[simp] theorem setCc_marker (s : State) v : (s.setCc v).marker = s.marker := rfl
@[simp] theorem setCc_pins (s : State) v : (s.setCc v).pins = s.pins := rfl
@[simp] theorem setCc_freeCount (s : State) v : (s.setCc v).freeCount = s.freeCount := rfl

/-! ### setAl -/

@[simp] theorem setAl_pending (s : State) v : (s.setAl v).pending = s.pending := rfl
@[simp] theorem setAl_now (s : State) v : (s.setAl v).now = s.now := rfl
@[simp] theorem setAl_cl (s : State) v : (s.setAl v).cl = s.cl := rfl
@[simp] theorem setAl_ds (s : State) v : (s.setAl v).ds = s.ds := rfl
@[simp] theorem setAl_fl (s : State) v : (s.setAl v).fl = s.fl := rfl
@[simp] theorem setAl_lc (s : State) v : (s.setAl v).lc = s.lc := rfl
@[simp] theorem setAl_nt (s : State) v : (s.setAl v).nt = s.nt := rfl
@[simp] theorem setAl_ru (s : State) v : (s.setAl v).ru = s.ru := rfl
@[simp] theorem setAl_doors (s : State) v : (s.setAl v).doors = s.doors := rfl
@[simp] theorem setAl_cc (s : State) v : (s.setAl v).cc = s.cc := rfl
@[simp] theorem setAl_al (s : State) v : (s.setAl v).al = v := rfl
@[simp] theorem setAl_sd (s : State) v : (s.setAl v).sd = s.sd := rfl
@[simp] theorem setAl_dt (s : State) v : (s.setAl v).dt = s.dt := rfl
@[simp] theorem setAl_ap (s : State) v : (s.setAl v).ap = s.ap := rfl
@[simp] theorem setAl_marker (s : State) v : (s.setAl v).marker = s.marker := rfl
@[simp] theorem setAl_pins (s : State) v : (s.setAl v).pins = s.pins := rfl
@[simp] theorem setAl_freeCount (s : State) v : (s.setAl v).freeCount = s.freeCount := rfl

/-! ### setSd -/

@[simp] theorem setSd_pending (s : State) v : (s.setSd v).pending = s.pending := rfl
@[simp] theorem setSd_now (s : State) v : (s.setSd v).now = s.now := rfl
@[simp] theorem setSd_cl (s : State) v : (s.setSd v).cl = s.cl := rfl
@[simp] theorem setSd_ds (s : State) v : (s.setSd v).ds = s.ds := rfl
@[simp] theorem setSd_fl (s : State) v : (s.setSd v).fl = s.fl := rfl
@[simp] theorem setSd_lc (s : State) v : (s.setSd v).lc = s.lc := rfl
@[simp] theorem setSd_nt (s : State) v : (s.setSd v).nt = s.nt := rfl
@[simp] theorem setSd_ru (s : State) v : (s.setSd v).ru = s.ru := rfl
@[simp] theorem setSd_doors (s : State) v : (s.setSd v).doors = s.doors := rfl
@[simp] theorem setSd_cc (s : State) v : (s.setSd v).cc = s.cc := rfl
@[simp] theorem setSd_al (s : State) v : (s.setSd v).al = s.al := rfl
@[simp] theorem setSd_sd (s : State) v : (s.setSd v).sd = v := rfl
@[simp] theorem setSd_dt (s : State) v : (s.setSd v).dt = s.dt := rfl
@[simp] theorem setSd_ap (s : State) v : (s.setSd v).ap = s.ap := rfl
@[simp] theorem setSd_marker (s : State) v : (s.setSd v).marker = s.marker := rfl
@[simp] theorem setSd_pins (s : State) v : (s.setSd v).pins = s.pins := rfl
@[simp] theorem setSd_freeCount (s : State) v : (s.setSd v).freeCount = s.freeCount := rfl

/-! ### setDt -/

@[simp] theorem setDt_pending (s : State) v : (s.setDt v).pending = s.pending := rfl
@[simp] theorem setDt_now (s : State) v : (s.setDt v).now = s.now := rfl
@[simp] theorem setDt_cl (s : State) v : (s.setDt v).cl = s.cl := rfl
@[simp] theorem setDt_ds (s : State) v : (s.setDt v).ds = s.ds := rfl
@[simp] theorem setDt_fl (s : State) v : (s.setDt v).fl = s.fl := rfl
@[simp] theorem setDt_lc (s : State) v : (s.setDt v).lc = s.lc := rfl
@[simp] theorem setDt_nt (s : State) v : (s.setDt v).nt = s.nt := rfl
@[simp] theorem setDt_ru (s : State) v : (s.setDt v).ru = s.ru := rfl
@[simp] theorem setDt_doors (s : State) v : (s.setDt v).doors = s.doors := rfl
@[simp] theorem setDt_cc (s : State) v : (s.setDt v).cc = s.cc := rfl
@[simp] theorem setDt_al (s : State) v : (s.setDt v).al = s.al := rfl
@[simp] theorem setDt_sd (s : State) v : (s.setDt v).sd = s.sd := rfl
@[simp] theorem setDt_dt (s : State) v : (s.setDt v).dt = v := rfl
@[simp] theorem setDt_ap (s : State) v : (s.setDt v).ap = s.ap := rfl
@[simp] theorem setDt_marker (s : State) v : (s.setDt v).marker = s.marker := rfl
@[simp] theorem setDt_pins (s : State) v : (s.setDt v).pins = s.pins := rfl
@[simp] theorem setDt_freeCount (s : State) v : (s.setDt v).freeCount = s.freeCount := rfl

/-! ### setAp -/

@[simp] theorem setAp_pending (s : State) v : (s.setAp v).pending = s.pending := rfl
@[simp] theorem setAp_now (s : State) v : (s.setAp v).now = s.now := rfl
@[simp] theorem setAp_cl (s : State) v : (s.setAp v).cl = s.cl := rfl
@[simp] theorem setAp_ds (s : State) v : (s.setAp v).ds = s.ds := rfl
@[simp] theorem setAp_fl (s : State) v : (s.setAp v).fl = s.fl := rfl
@[simp] theorem setAp_lc (s : State) v : (s.setAp v).lc = s.lc := rfl
@[simp] theorem setAp_nt (s : State) v : (s.setAp v).nt = s.nt := rfl
@[simp] theorem setAp_ru (s : State) v : (s.setAp v).ru = s.ru := rfl
@[simp] theorem setAp_doors (s : State) v : (s.setAp v).doors = s.doors := rfl
@[simp] theorem setAp_cc (s : State) v : (s.setAp v).cc = s.cc := rfl
@[simp] theorem setAp_al (s : State) v : (s.setAp v).al = s.al := rfl
@[simp] theorem setAp_sd (s : State) v : (s.setAp v).sd = s.sd := rfl
@[simp] theorem setAp_dt (s : State) v : (s.setAp v).dt = s.dt := rfl
@[simp] theorem setAp_ap (s : State) v : (s.setAp v).ap = v := rfl
@[simp] theorem setAp_marker (s : State) v : (s.setAp v).marker = s.marker := rfl
@[simp] theorem setAp_pins (s : State) v : (s.setAp v).pins = s.pins := rfl
@[simp] theorem setAp_freeCount (s : State) v : (s.setAp v).freeCount = s.freeCount := rfl

/-! ### setMarker -/

@[simp] theorem setMarker_pending (s : State) v : (s.setMarker v).pending = s.pending := rfl
@[simp] theorem setMarker_now (s : State) v : (s.setMarker v).now = s.now := rfl
@[simp] theorem setMarker_cl (s : State) v : (s.setMarker v).cl = s.cl := rfl
@[simp] theorem setMarker_ds (s : State) v : (s.setMarker v).ds = s.ds := rfl
@[simp] theorem setMarker_fl (s : State) v : (s.setMarker v).fl = s.fl := rfl
@[simp] theorem setMarker_lc (s : State) v : (s.setMarker v).lc = s.lc := rfl
@[simp] theorem setMarker_nt (s : State) v : (s.setMarker v).nt = s.nt := rfl
@[simp] theorem setMarker_ru (s : State) v : (s.setMarker v).ru = s.ru := rfl
@[simp] theorem setMarker_doors (s : State) v : (s.setMarker v).doors = s.doors := rfl
@[simp] theorem setMarker_cc (s : State) v : (s.setMarker v).cc = s.cc := rfl
@[simp] theorem setMarker_al (s : State) v : (s.setMarker v).al = s.al := rfl
@[simp] theorem setMarker_sd (s : State) v : (s.setMarker v).sd = s.sd := rfl
@[simp] theorem setMarker_dt (s : State) v : (s.setMarker v).dt = s.dt := rfl
@[simp] theorem setMarker_ap (s : State) v : (s.setMarker v).ap = s.ap := rfl
@[simp] theorem setMarker_marker (s : State) v : (s.setMarker v).marker = v := rfl
@[simp] theorem setMarker_pins (s : State) v : (s.setMarker v).pins = s.pins := rfl
@[simp] theorem setMarker_freeCount (s : State) v : (s.setMarker v).freeCount = s.freeCount := rfl

/-! ### setPins -/

@[simp] theorem setPins_pending (s : State) v : (s.setPins v).pending = s.pending := rfl
@[simp] theorem setPins_now (s : State) v : (s.setPins v).now = s.now := rfl
@[simp] theorem setPins_cl (s : State) v : (s.setPins v).cl = s.cl := rfl
@[simp] theorem setPins_ds (s : State) v : (s.setPins v).ds = s.ds := rfl
@[simp] theorem setPins_fl (s : State) v : (s.setPins v).fl = s.fl := rfl
@[simp] theorem setPins_lc (s : State) v : (s.setPins v).lc = s.lc := rfl
@[simp] theorem setPins_nt (s : State) v : (s.setPins v).nt = s.nt := rfl
@[simp] theorem setPins_ru (s : State) v : (s.setPins v).ru = s.ru := rfl
@[simp] theorem setPins_doors (s : State) v : (s.setPins v).doors = s.doors := rfl
@[simp] theorem setPins_cc (s : State) v : (s.setPins v).cc = s.cc := rfl
@[simp] theorem setPins_al (s : State) v : (s.setPins v).al = s.al := rfl
@[simp] theorem setPins_sd (s : State) v : (s.setPins v).sd = s.sd := rfl
@[simp] theorem setPins_dt (s : State) v : (s.setPins v).dt = s.dt := rfl
@[simp] theorem setPins_ap (s : State) v : (s.setPins v).ap = s.ap := rfl
@[simp] theorem setPins_marker (s : State) v : (s.setPins v).marker = s.marker := rfl
@[simp] theorem setPins_pins (s : State) v : (s.setPins v).pins = v := rfl
@[simp] theorem setPins_freeCount (s : State) v : (s.setPins v).freeCount = s.freeCount := rfl

/-! ### setFreeCount -/

@[simp] theorem setFreeCount_pending (s : State) v : (s.setFreeCount v).pending = s.pending := rfl
@[simp] theorem setFreeCount_now (s : State) v : (s.setFreeCount v).now = s.now := rfl
@[simp] theorem setFreeCount_cl (s : State) v : (s.setFreeCount v).cl = s.cl := rfl
@[simp] theorem setFreeCount_ds (s : State) v : (s.setFreeCount v).ds = s.ds := rfl
@[simp] theorem setFreeCount_fl (s : State) v : (s.setFreeCount v).fl = s.fl := rfl
@[simp] theorem setFreeCount_lc (s : State) v : (s.setFreeCount v).lc = s.lc := rfl
@[simp] theorem setFreeCount_nt (s : State) v : (s.setFreeCount v).nt = s.nt := rfl
@[simp] theorem setFreeCount_ru (s : State) v : (s.setFreeCount v).ru = s.ru := rfl
@[simp] theorem setFreeCount_doors (s : State) v : (s.setFreeCount v).doors = s.doors := rfl
@[simp] theorem setFreeCount_cc (s : State) v : (s.setFreeCount v).cc = s.cc := rfl
@[simp] theorem setFreeCount_al (s : State) v : (s.setFreeCount v).al = s.al := rfl
@[simp] theorem setFreeCount_sd (s : State) v : (s.setFreeCount v).sd = s.sd := rfl
@[simp] theorem setFreeCount_dt (s : State) v : (s.setFreeCount v).dt = s.dt := rfl
@[simp] theorem setFreeCount_ap (s : State) v : (s.setFreeCount v).ap = s.ap := rfl
@[simp] theorem setFreeCount_marker (s : State) v : (s.setFreeCount v).marker = s.marker := rfl
@[simp] theorem setFreeCount_pins (s : State) v : (s.setFreeCount v).pins = s.pins := rfl
@[simp] theorem setFreeCount_freeCount (s : State) v : (s.setFreeCount v).freeCount = v := rfl

/-! ### The derived readings that one update cannot change -/

/-- The clock brought forward changes nothing else. -/
@[simp] theorem reach_now (s : State) (t : Nat) : (s.reach t).now = max s.now t := rfl
@[simp] theorem reach_cl (s : State) (t : Nat) : (s.reach t).cl = s.cl := rfl
@[simp] theorem reach_awake (s : State) (t : Nat) : (s.reach t).awake = s.awake := rfl

end Sys2Proof.Machine.State
end

