-- ==== Sys2Proof/Laws/Changes.lean ====
section
/-!
SUPPORT. Laws/Changes.lean: for each shared operation one lemma that says everything of the state it can change: the fields that stand
in the update are the only ones that differ.
-/

namespace Sys2Proof.Machine

/-! ### Reports -/

theorem State.report_changes (s : State) (k : ReportKind) (a b : Nat) :
    ∃ r, s.report k a b = { s with ap := { s.ap with reports := r } } := ⟨_, rfl⟩

theorem State.reportIf_changes (s : State) (c : Bool) (k : ReportKind) (a b : Nat) :
    ∃ r, s.reportIf c k a b = { s with ap := { s.ap with reports := r } } := by
  cases c
  · exact ⟨s.ap.reports, rfl⟩
  · exact ⟨_, rfl⟩

/-- An operation applied for each index changes only what one application can change. -/
theorem State.forEach_changes {α : Type} (upd : State → α → State) (refl : ∀ s, ∃ v, s = upd s v)
    (comp : ∀ s v w, ∃ u, upd (upd s v) w = upd s u) (n : Nat) (f : State → Nat → State)
    (one : ∀ s k, ∃ v, f s k = upd s v) (s : State) : ∃ v, s.forEach n f = upd s v := by
  unfold State.forEach
  generalize List.range n = l
  induction l generalizing s with
  | nil => exact refl s
  | cons k l ih =>
    obtain ⟨v, hv⟩ := one s k
    obtain ⟨w, hw⟩ := ih (f s k)
    obtain ⟨u, hu⟩ := comp s v w
    exact ⟨u, by rw [List.foldl_cons, hw, hv, hu]⟩

/-! ### Line controller -/

theorem State.offer_changes (s : State) (body : Payload) (cls : Nat) :
    ∃ v, (s.offer body cls).1 = { s with lc := v } := ⟨_, rfl⟩

theorem State.offerState_changes (s : State) (cls : Nat) : ∃ v, s.offerState cls = { s with lc := v } := ⟨_, rfl⟩

theorem State.startRefresh_changes (s : State) : ∃ v, s.startRefresh = { s with lc := v } := ⟨_, rfl⟩

theorem firstStateFollow_changes (old s : State) : ∃ v, firstStateFollow old s = { s with lc := v } := by
  unfold firstStateFollow; split
  · exact ⟨_, rfl⟩
  · exact ⟨s.lc, rfl⟩

theorem stateFollow_changes (old s : State) : ∃ v, stateFollow old s = { s with lc := v } := by
  unfold stateFollow; split
  · exact ⟨_, rfl⟩
  · exact ⟨s.lc, rfl⟩

theorem State.collide_changes (s : State) :
    ∃ v r, s.collide = { s with lc := v, ap := { s.ap with reports := r } } := by
  unfold State.collide
  dsimp only
  split
  · split
    · exact ⟨_, _, rfl⟩
    · exact ⟨_, s.ap.reports, rfl⟩
  · exact ⟨_, s.ap.reports, rfl⟩

theorem State.completeSending_changes (s : State) :
    ∃ v r, s.completeSending = { s with lc := v, ap := { s.ap with reports := r } } := by
  unfold State.completeSending
  obtain ⟨r, h⟩ := State.reportIf_changes (s.setLc { s.lc with
    queue := completeEntries s.lc.queue, sending := none, collision := false }) s.lc.collision .collision noSubject
    (packClear none)
  exact ⟨_, r, h⟩

theorem State.dropAged_changes (s : State) :
    ∃ v r, s.dropAged = { s with lc := v, ap := { s.ap with reports := r } } := by
  unfold State.dropAged
  dsimp only
  obtain ⟨r, h⟩ := State.reportIf_changes (s.setLc { s.lc with
    noise := s.lc.noise.filter fun t => s.now < t + 60 * Config.second
    lineNoisy := s.lc.lineNoisy && !(s.lc.lineNoisy &&
      (s.lc.noise.filter fun t => s.now < t + 60 * Config.second).isEmpty && !s.lc.noise.isEmpty) })
    (s.lc.lineNoisy && (s.lc.noise.filter fun t => s.now < t + 60 * Config.second).isEmpty && !s.lc.noise.isEmpty)
    .lineNoisy noSubject 0
  exact ⟨_, r, h⟩

theorem State.noteCheckError_changes (s : State) :
    ∃ v r, s.noteCheckError = { s with lc := v, ap := { s.ap with reports := r } } := by
  unfold State.noteCheckError
  obtain ⟨v, r, h⟩ := s.dropAged_changes
  dsimp only
  rw [h]
  obtain ⟨r', h'⟩ := State.reportIf_changes _ _ _ _ _
  exact ⟨_, r', h'⟩

theorem State.ageNoise_changes (s : State) :
    ∃ v r, s.ageNoise = { s with lc := v, ap := { s.ap with reports := r } } := by
  unfold State.ageNoise
  obtain ⟨r', h'⟩ := State.reportIf_changes _ _ _ _ _
  exact ⟨_, r', h'⟩

theorem State.stuckBegin_changes (s : State) :
    ∃ v r, s.stuckBegin = { s with lc := v, ap := { s.ap with reports := r } } := by
  unfold State.stuckBegin
  obtain ⟨r', h'⟩ := State.reportIf_changes _ _ _ _ _
  exact ⟨_, r', h'⟩

theorem State.stuckEnd_changes (s : State) : ∃ v, s.stuckEnd = { s with lc := v } := by
  unfold State.stuckEnd; split
  · exact ⟨_, rfl⟩
  · exact ⟨s.lc, rfl⟩

theorem State.stuckExpire_changes (s : State) :
    ∃ v r, s.stuckExpire = { s with lc := v, ap := { s.ap with reports := r } } := by
  unfold State.stuckExpire
  obtain ⟨r', h'⟩ := State.reportIf_changes _ _ _ _ _
  exact ⟨_, r', h'⟩

theorem State.noteDuplicate_changes (s : State) (k : Nat) :
    ∃ v r, s.noteDuplicate k = { s with lc := v, ap := { s.ap with reports := r } } := by
  unfold State.noteDuplicate
  obtain ⟨r', h'⟩ := State.reportIf_changes _ _ _ _ _
  exact ⟨_, r', h'⟩

/-! ### Neighbour table -/

theorem State.reportHeard_changes (s : State) (k : Nat) (b : Presence) (g : FireState) :
    ∃ r, s.reportHeard k b g = { s with ap := { s.ap with reports := r } } := by
  cases b
  · exact ⟨_, rfl⟩
  · exact ⟨s.ap.reports, rfl⟩
  · exact ⟨_, rfl⟩

theorem State.takeState_changes (s : State) (src : Nat) (p : StatePayload) :
    ∃ v r, s.takeState src p =
      { s with nt := { s.nt with slots := v }, ap := { s.ap with reports := r } } := by
  unfold State.takeState
  split
  · exact ⟨s.nt.slots, s.ap.reports, rfl⟩
  · obtain ⟨r', h'⟩ := State.reportHeard_changes _ _ _ _
    exact ⟨_, r', h'⟩

theorem State.clearHeld_changes (s : State) :
    ∃ v : List Slot × List Report, s.clearHeld =
      { s with nt := { s.nt with slots := v.1 }, ap := { s.ap with reports := v.2 } } := by
  refine State.forEach_changes
    (fun s (v : List Slot × List Report) =>
      { s with nt := { s.nt with slots := v.1 }, ap := { s.ap with reports := v.2 } })
    (fun s => ⟨(s.nt.slots, s.ap.reports), rfl⟩) (fun s v w => ⟨w, rfl⟩) 8 _ ?_ s
  intro s k
  dsimp only
  split
  · exact ⟨(_, _), rfl⟩
  · exact ⟨(s.nt.slots, s.ap.reports), rfl⟩

theorem State.clearLatch_changes (s : State) (w : LatchClear) :
    ∃ v r, s.clearLatch w = { s with nt := { s.nt with latch := v }, ap := { s.ap with reports := r } } := by
  unfold State.clearLatch; split
  · exact ⟨_, _, rfl⟩
  · exact ⟨s.nt.latch, s.ap.reports, rfl⟩

theorem State.setMode_changes (s : State) (m : Mode) (n : Nat) (a : Bool) :
    ∃ r, s.setMode m n a = { s with nt := { s.nt with mode := m }, ap := { s.ap with reports := r } } := by
  unfold State.setMode
  obtain ⟨r', h'⟩ := State.reportIf_changes _ _ _ _ _
  exact ⟨r', h'⟩

theorem State.setEvacuate_changes (s : State) (on : Bool) (n : Nat) (a : Bool) :
    ∃ r, s.setEvacuate on n a = { s with nt := { s.nt with evacuate := on }, ap := { s.ap with reports := r } } := by
  unfold State.setEvacuate
  obtain ⟨r', h'⟩ := State.reportIf_changes _ _ _ _ _
  exact ⟨r', h'⟩

theorem State.applyFlag_changes (s : State) (o : FlagOrder) (n : Nat) :
    ∃ m e l r, s.applyFlag o n =
      { s with
        nt := { s.nt with mode := m, evacuate := e, latch := l, orderHeard := true }
        ap := { s.ap with reports := r } } := by
  unfold State.applyFlag State.hearOrder
  cases o
  · obtain ⟨r, h⟩ := s.setMode_changes .day n false
    dsimp only; rw [h]; exact ⟨_, _, _, _, rfl⟩
  · obtain ⟨r, h⟩ := s.setMode_changes .night n false
    dsimp only; rw [h]; exact ⟨_, _, _, _, rfl⟩
  · obtain ⟨r, h⟩ := s.setEvacuate_changes true n false
    dsimp only; rw [h]
    obtain ⟨v, r', h'⟩ := State.clearLatch_changes
      { s with nt := { s.nt with evacuate := true }, ap := { s.ap with reports := r } } .evacuate
    rw [h']; exact ⟨_, _, _, _, rfl⟩
  · obtain ⟨r, h⟩ := s.setEvacuate_changes false n false
    dsimp only; rw [h]; exact ⟨_, _, _, _, rfl⟩

theorem State.adopt_changes (s : State) (src : Nat) (p : StatePayload) :
    ∃ m e h r, s.adopt src p =
      { s with nt := { s.nt with mode := m, evacuate := e, orderHeard := h }, ap := { s.ap with reports := r } } := by
  unfold State.adopt State.hearOrder
  split
  · obtain ⟨r, h⟩ := s.setMode_changes p.mode src true
    rw [h]
    obtain ⟨r', h'⟩ := State.setEvacuate_changes
      { s with nt := { s.nt with mode := p.mode }, ap := { s.ap with reports := r } } p.evacuate src true
    rw [h']; exact ⟨_, _, _, _, rfl⟩
  · exact ⟨s.nt.mode, s.nt.evacuate, s.nt.orderHeard, s.ap.reports, rfl⟩

theorem State.silence_changes (s : State) (src : Nat) :
    ∃ r, s.silence src =
      { s with nt := { s.nt with latch := some s.ru.f }, ap := { s.ap with reports := r } } := ⟨_, rfl⟩

theorem latchFollow_changes (old s : State) :
    ∃ v r, latchFollow old s = { s with nt := { s.nt with latch := v }, ap := { s.ap with reports := r } } := by
  unfold latchFollow
  split
  · exact ⟨s.nt.latch, s.ap.reports, rfl⟩
  · split
    · exact ⟨s.nt.latch, s.ap.reports, rfl⟩
    · split
      · exact s.clearLatch_changes _
      · split
        · exact s.clearLatch_changes _
        · exact ⟨s.nt.latch, s.ap.reports, rfl⟩

/-! ### Fire logic -/

theorem State.setGallery_changes (s : State) (g : FireState) :
    ∃ c r, s.setGallery g = { s with fl := { s.fl with gallery := g, confirm := c }, ap := { s.ap with reports := r } } := by
  unfold State.setGallery
  split
  · rename_i h; subst h; exact ⟨s.fl.confirm, s.ap.reports, rfl⟩
  · exact ⟨_, _, rfl⟩

/-- R28: what a change of the gallery fire state does to the confirm-delay timer. -/
theorem State.setGallery_confirm (s : State) (g : FireState) :
    (s.setGallery g).fl.confirm =
      if s.fl.gallery = g then s.fl.confirm
      else if g = .suspect then some (s.now + s.cl.node.tc * Config.second) else none := by
  unfold State.setGallery
  split <;> rfl

theorem State.confirmFire_changes (s : State) (c : Cause) (a b : Option Nat) :
    ∃ d r, s.confirmFire c a b =
      { s with
        fl := { s.fl with gallery := .fire, cause := ⟨c, a, b, some s.seconds⟩, confirm := d }
        ap := { s.ap with reports := r } } := by
  unfold State.confirmFire
  obtain ⟨d, r, h⟩ := State.setGallery_changes (s.setFl { s.fl with cause := ⟨c, a, b, some s.seconds⟩ }) .fire
  rw [h]; exact ⟨d, _, rfl⟩

theorem State.evaluate_changes (s : State) (d : Bool) :
    ∃ g c t r, s.evaluate d =
      { s with fl := { s.fl with gallery := g, cause := c, confirm := t }, ap := { s.ap with reports := r } } := by
  unfold State.evaluate
  split
  · exact ⟨s.fl.gallery, s.fl.cause, s.fl.confirm, s.ap.reports, rfl⟩
  · split
    · rename_i c a b _
      obtain ⟨d, r, h⟩ := s.confirmFire_changes c a b
      exact ⟨_, _, d, r, h⟩
    · obtain ⟨c, r, h⟩ := s.setGallery_changes s.derivedState
      exact ⟨_, s.fl.cause, c, r, h⟩

theorem State.endWalk_changes (s : State) (w : WalkEnd) :
    ∃ a t m l r, s.endWalk w =
      { s with
        fl := { s.fl with walkActive := a, walkTimer := t, tested := m, lastRecorded := l }
        ap := { s.ap with reports := r } } := by
  unfold State.endWalk
  split
  · exact ⟨_, _, _, _, _, rfl⟩
  · exact ⟨s.fl.walkActive, s.fl.walkTimer, s.fl.tested, s.fl.lastRecorded, s.ap.reports, rfl⟩

theorem walkFollow_changes (old s : State) :
    ∃ a t m l r, walkFollow old s =
      { s with
        fl := { s.fl with walkActive := a, walkTimer := t, tested := m, lastRecorded := l }
        ap := { s.ap with reports := r } } := by
  unfold walkFollow
  split
  · exact s.endWalk_changes _
  · split
    · exact s.endWalk_changes _
    · exact ⟨s.fl.walkActive, s.fl.walkTimer, s.fl.tested, s.fl.lastRecorded, s.ap.reports, rfl⟩

theorem fireFollow_changes (old s : State) :
    ∃ v r, fireFollow old s = { s with fl := v, ap := { s.ap with reports := r } } := by
  unfold fireFollow
  obtain ⟨a, t, m, l, r, h⟩ := walkFollow_changes old s
  dsimp only
  rw [h]
  split
  · obtain ⟨g, c, t', r', h'⟩ := State.evaluate_changes
      { s with
        fl := { s.fl with walkActive := a, walkTimer := t, tested := m, lastRecorded := l }
        ap := { s.ap with reports := r } } false
    exact ⟨_, r', h'⟩
  · exact ⟨_, r, rfl⟩

theorem State.completeBurst_changes (s : State) (c : Nat) :
    ∃ v w r, s.completeBurst c =
      { s with fl := v, ds := { s.ds with channels := w }, ap := { s.ap with reports := r } } := by
  unfold State.completeBurst
  split
  · exact ⟨_, _, _, rfl⟩
  · obtain ⟨a, t, m, l, r, h⟩ := s.endWalk_changes .secondAlarm
    rw [h]; exact ⟨_, _, _, rfl⟩

theorem State.acceptReset_changes (s : State) (a b : Nat) (c : Bool) :
    ∃ v w l k r, s.acceptReset a b c =
      { s with
        fl := v
        ds := { s.ds with channels := w }
        nt := { s.nt with latch := l, slots := k }
        ap := { s.ap with reports := r } } := by
  unfold State.acceptReset
  dsimp only
  obtain ⟨x1, x2, x3, x4, x5, h3⟩ := State.endWalk_changes
    ((s.setDs { s.ds with channels := s.ds.channels.map .fireReset }).setFl
      { (s.setDs { s.ds with channels := s.ds.channels.map .fireReset }).fl with confirm := none, cause := .clear }) .reset
  rw [h3]
  obtain ⟨l, r4, h4⟩ := State.clearLatch_changes _ _
  rw [h4]
  cases c
  · obtain ⟨t, r, h⟩ := State.setGallery_changes _ _
    simp only [Bool.false_eq_true, ↓reduceIte]
    rw [h]
    exact ⟨_, _, _, _, _, rfl⟩
  · obtain ⟨v, h5⟩ := State.clearHeld_changes _
    simp only [↓reduceIte]
    rw [h5]
    obtain ⟨t, r, h⟩ := State.setGallery_changes _ _
    rw [h]
    exact ⟨_, _, _, _, _, rfl⟩

/-! ### Route unit -/

theorem reportEvacuating_changes (old s : State) :
    ∃ r, reportEvacuating old s = { s with ap := { s.ap with reports := r } } := by
  unfold reportEvacuating; split
  · exact ⟨s.ap.reports, rfl⟩
  · exact ⟨_, rfl⟩

theorem reportNoRoute_changes (old s : State) :
    ∃ r, reportNoRoute old s = { s with ap := { s.ap with reports := r } } := by
  unfold reportNoRoute
  dsimp only
  repeat' split
  all_goals exact ⟨_, rfl⟩

/-- The route record after an event: computed in RUN when an input changed, the building flag's in LISTEN, else as it was. -/
def followedRoute (old s : State) : Route :=
  if s.running then (if routeInputsChanged old s then s.computedRoute else s.ru)
  else if old.nt.evacuate != s.nt.evacuate then s.listenRoute
  else s.ru

theorem routeFollow_changes (old s : State) :
    ∃ r, routeFollow old s = { s with ru := followedRoute old s, ap := { s.ap with reports := r } } := by
  unfold routeFollow followedRoute
  split
  · split
    · obtain ⟨r, h⟩ := reportEvacuating_changes old (s.setRu s.computedRoute)
      dsimp only
      rw [h]
      obtain ⟨r', h'⟩ := reportNoRoute_changes old _
      rw [h']; exact ⟨r', rfl⟩
    · exact ⟨s.ap.reports, rfl⟩
  · split
    · obtain ⟨r, h⟩ := reportEvacuating_changes old (s.setRu s.listenRoute)
      exact ⟨r, h⟩
    · exact ⟨s.ap.reports, rfl⟩

/-! ### Doors -/

theorem State.moveDoor_changes (s : State) (d : Nat) (f : Door → Door) :
    ∃ v, s.moveDoor d f = { s with doors := v } := ⟨_, rfl⟩

theorem State.moveDoorAfresh_changes (s : State) (d : Nat) (f : Door → Door) :
    ∃ v, s.moveDoorAfresh d f = { s with doors := v } := ⟨_, rfl⟩

theorem doorsFollow_changes (old s : State) : ∃ v, doorsFollow old s = { s with doors := v } := by
  unfold doorsFollow
  split
  · refine State.forEach_changes (fun s v => { s with doors := v }) (fun s => ⟨s.doors, rfl⟩)
      (fun s v w => ⟨w, rfl⟩) 8 _ ?_ s
    intro s k
    unfold followDoor
    dsimp only
    split
    · exact ⟨s.doors, rfl⟩
    · exact ⟨_, rfl⟩
  · exact ⟨s.doors, rfl⟩

/-! ### Calls -/

theorem State.announce_changes (s : State) (src : Nat) :
    ∃ v w, s.announce src = { s with cc := { s.cc with calls := v }, lc := w } := by
  unfold State.announce; split
  · exact ⟨s.cc.calls, s.lc, rfl⟩
  · exact ⟨_, _, rfl⟩

theorem State.announceEach_changes (l : List Nat) (s : State) :
    ∃ v w, l.foldl State.announce s = { s with cc := { s.cc with calls := v }, lc := w } := by
  induction l generalizing s with
  | nil => exact ⟨s.cc.calls, s.lc, rfl⟩
  | cons k l ih =>
    obtain ⟨v, w, h⟩ := s.announce_changes k
    obtain ⟨v', w', h'⟩ := ih (s.announce k)
    exact ⟨v', w', by rw [List.foldl_cons, h', h]⟩

theorem State.raise_changes (s : State) (src : Nat) (k : CallKind) (b : Nat) :
    ∃ v n r, s.raise src k b =
      { s with cc := { s.cc with calls := v, serials := n }, ap := { s.ap with reports := r } } := ⟨_, _, _, rfl⟩

theorem State.press_changes (s : State) (src : Nat) (k : CallKind) (b : Nat) :
    ∃ v n r, s.press src k b =
      { s with cc := { s.cc with calls := v, serials := n }, ap := { s.ap with reports := r } } := by
  unfold State.press
  split
  · exact s.raise_changes _ _ _
  · split
    · exact ⟨_, s.cc.serials, _, rfl⟩
    · exact ⟨s.cc.calls, s.cc.serials, s.ap.reports, rfl⟩

theorem State.doorAlarm_changes (s : State) (src : Nat) (k : CallKind) (b : Nat) :
    ∃ v n w r, s.doorAlarm src k b =
      { s with cc := { s.cc with calls := v, serials := n }, lc := w, ap := { s.ap with reports := r } } := by
  unfold State.doorAlarm
  split
  · obtain ⟨v, n, r, h⟩ := s.raise_changes src k b
    rw [h]
    obtain ⟨v', w, h'⟩ := State.announce_changes _ _
    rw [h']; exact ⟨_, _, _, _, rfl⟩
  · dsimp only
    split
    · obtain ⟨v, w, h⟩ := State.announce_changes _ _
      rw [h]
      obtain ⟨r, h'⟩ := State.reportIf_changes _ _ _ _ _
      rw [h']; exact ⟨_, s.cc.serials, _, _, rfl⟩
    · obtain ⟨v, w, h⟩ := State.announce_changes _ _
      rw [h]
      obtain ⟨r, h'⟩ := State.reportIf_changes _ _ _ _ _
      rw [h']; exact ⟨_, s.cc.serials, _, _, rfl⟩

theorem faultFollow_changes (old s : State) :
    ∃ v n r, faultFollow old s =
      { s with cc := { s.cc with calls := v, serials := n }, ap := { s.ap with reports := r } } := by
  unfold faultFollow; split
  · exact s.press_changes _ _ _
  · exact ⟨s.cc.calls, s.cc.serials, s.ap.reports, rfl⟩

theorem State.clearCall_changes (s : State) (src n : Nat) :
    ∃ v o w r, s.clearCall src n =
      { s with cc := { s.cc with calls := v, rotations := o }, lc := w, ap := { s.ap with reports := r } } := by
  unfold State.clearCall; split
  · exact ⟨s.cc.calls, s.cc.rotations, s.lc, s.ap.reports, rfl⟩
  · exact ⟨_, _, _, _, rfl⟩

theorem State.turnKey_changes (s : State) :
    ∃ v o w r, s.turnKey =
      { s with cc := { s.cc with calls := v, rotations := o }, lc := w, ap := { s.ap with reports := r } } := by
  unfold State.turnKey; split
  · exact s.clearCall_changes _ _
  · split
    · exact s.clearCall_changes _ _
    · exact ⟨s.cc.calls, s.cc.rotations, s.lc, s.ap.reports, rfl⟩

theorem State.unansweredExpire_changes (s : State) (src : Nat) (c : Call) :
    ∃ v w r, s.unansweredExpire src c =
      { s with cc := { s.cc with calls := v }, lc := w, ap := { s.ap with reports := r } } := by
  unfold State.unansweredExpire
  dsimp only
  obtain ⟨v, w, h⟩ := State.announce_changes _ _
  rw [h]; exact ⟨_, _, _, rfl⟩

theorem State.attendExpire_changes (s : State) (src : Nat) (c : Call) :
    ∃ v w r, s.attendExpire src c =
      { s with cc := { s.cc with calls := v }, lc := w, ap := { s.ap with reports := r } } := by
  unfold State.attendExpire
  dsimp only
  obtain ⟨v, w, h⟩ := State.announce_changes _ _
  rw [h]; exact ⟨_, _, _, rfl⟩

theorem State.decideTake_changes (s : State) (a b c : Nat) :
    ∃ v w r, s.decideTake a b c =
      { s with cc := { s.cc with calls := v }, lc := w, ap := { s.ap with reports := r } } := by
  unfold State.decideTake
  split
  · exact ⟨s.cc.calls, _, s.ap.reports, rfl⟩
  · split
    · dsimp only
      obtain ⟨v, w, h⟩ := State.announce_changes _ _
      rw [h]; exact ⟨_, _, _, rfl⟩
    · obtain ⟨v, w, h⟩ := s.announce_changes b
      rw [h]; exact ⟨_, _, s.ap.reports, rfl⟩

theorem State.decideGiveup_changes (s : State) (a b c : Nat) :
    ∃ v w r, s.decideGiveup a b c =
      { s with cc := { s.cc with calls := v }, lc := w, ap := { s.ap with reports := r } } := by
  unfold State.decideGiveup
  split
  · exact ⟨s.cc.calls, s.lc, s.ap.reports, rfl⟩
  · split
    · dsimp only
      obtain ⟨v, w, h⟩ := State.announce_changes _ _
      rw [h]; exact ⟨_, _, _, rfl⟩
    · exact ⟨s.cc.calls, s.lc, s.ap.reports, rfl⟩

theorem State.decideClear_changes (s : State) (a b c : Nat) :
    ∃ v o w r, s.decideClear a b c =
      { s with cc := { s.cc with calls := v, rotations := o }, lc := w, ap := { s.ap with reports := r } } := by
  unfold State.decideClear
  split
  · exact ⟨s.cc.calls, s.cc.rotations, _, s.ap.reports, rfl⟩
  · split
    · split
      · obtain ⟨v, w, h⟩ := s.announce_changes b
        rw [h]; exact ⟨_, s.cc.rotations, _, _, rfl⟩
      · exact s.clearCall_changes _ _
    · obtain ⟨v, w, h⟩ := s.announce_changes b
      rw [h]; exact ⟨_, s.cc.rotations, _, s.ap.reports, rfl⟩

theorem callsFollow_changes (old s : State) : ∃ v, callsFollow old s = { s with cc := { s.cc with calls := v } } := by
  unfold callsFollow; split
  · exact ⟨s.cc.calls, rfl⟩
  · exact ⟨_, rfl⟩

theorem announceFollow_changes (old s : State) (pressed : List Nat) :
    ∃ v w, announceFollow old s pressed = { s with cc := { s.cc with calls := v }, lc := w } :=
  State.announceEach_changes _ _

/-! ### Attention list -/

theorem State.insertCall_changes (s : State) (e : Entry) :
    ∃ v r, s.insertCall e = { s with al := v, ap := { s.ap with reports := r } } := ⟨_, _, rfl⟩

theorem State.newCall_changes (s : State) (e : Entry) :
    ∃ v r, s.newCall e = { s with al := v, ap := { s.ap with reports := r } } := by
  unfold State.newCall; split
  · exact ⟨_, _, rfl⟩
  · split
    · exact ⟨_, _, rfl⟩
    · exact ⟨s.al, _, rfl⟩

theorem State.updateCall_changes (s : State) (e : Entry) (p : CallPayload) :
    ∃ v r, s.updateCall e p = { s with al := v, ap := { s.ap with reports := r } } := by
  unfold State.updateCall State.reportUpdate
  split
  · exact ⟨_, _, rfl⟩
  · split
    · exact ⟨_, _, rfl⟩
    · obtain ⟨r, h⟩ := State.reportIf_changes _ _ _ _ _
      exact ⟨_, r, h⟩

theorem State.replaceCall_changes (s : State) (e n : Entry) :
    ∃ v r, s.replaceCall e n = { s with al := v, ap := { s.ap with reports := r } } := by
  unfold State.replaceCall
  obtain ⟨r, h⟩ := State.reportIf_changes _ _ _ _ _
  rw [h]; exact ⟨_, _, rfl⟩

theorem State.hearCall_changes (s : State) (o : Nat) (p : CallPayload) :
    ∃ v r, s.hearCall o p = { s with al := v, ap := { s.ap with reports := r } } := by
  unfold State.hearCall
  split
  · exact s.newCall_changes _
  · split
    · exact s.updateCall_changes _ _
    · exact s.replaceCall_changes _ _

theorem State.hearClear_changes (s : State) (a b c d : Nat) :
    ∃ v r, s.hearClear a b c d = { s with al := v, ap := { s.ap with reports := r } } := by
  unfold State.hearClear
  split
  · split
    · exact ⟨_, _, rfl⟩
    · exact ⟨s.al, s.ap.reports, rfl⟩
  · exact ⟨s.al, s.ap.reports, rfl⟩

theorem State.takeCompleted_changes (s : State) (a b c : Nat) : ∃ v, s.takeCompleted a b c = { s with al := v } := by
  unfold State.takeCompleted
  split
  · split
    · exact ⟨_, rfl⟩
    · exact ⟨s.al, rfl⟩
  · exact ⟨s.al, rfl⟩

/-! ### Signals -/

theorem State.stepSign_changes (s : State) (n : Nat) :
    ∃ v r, s.stepSign n = { s with sd := { s.sd with signs := v }, ap := { s.ap with reports := r } } := by
  unfold State.stepSign
  dsimp only
  obtain ⟨r, h⟩ := State.reportIf_changes _ _ _ _ _
  exact ⟨_, r, h⟩

theorem State.stepSigns_changes (s : State) (n : Nat) :
    ∃ v : List Sign × List Report,
      s.forEach n State.stepSign = { s with sd := { s.sd with signs := v.1 }, ap := { s.ap with reports := v.2 } } :=
  State.forEach_changes
    (fun s (v : List Sign × List Report) =>
      { s with sd := { s.sd with signs := v.1 }, ap := { s.ap with reports := v.2 } })
    (fun s => ⟨(s.sd.signs, s.ap.reports), rfl⟩) (fun s v w => ⟨w, rfl⟩) n _
    (fun s k => by obtain ⟨v, r, h⟩ := s.stepSign_changes k; exact ⟨(v, r), h⟩) s

theorem State.beginStep_changes (s : State) (k : Nat) (p : Strip) (sense : BitVec 32) :
    ∃ v r, s.beginStep k p sense = { s with sd := { s.sd with strips := v }, ap := { s.ap with reports := r } } := by
  unfold State.beginStep
  dsimp only
  split
  · exact ⟨_, _, rfl⟩
  · exact ⟨_, s.ap.reports, rfl⟩

theorem State.enterMode_changes (s : State) (k : Nat) (p : Strip) (m : StripMode × Option Dir) (sense : BitVec 32) :
    ∃ v r, s.enterMode k p m sense = { s with sd := { s.sd with strips := v }, ap := { s.ap with reports := r } } := by
  unfold State.enterMode
  dsimp only
  split
  · exact ⟨_, s.ap.reports, rfl⟩
  · exact s.beginStep_changes _ _ _

theorem State.enterModeFreely_changes (s : State) (k : Nat) (p : Strip) (m : StripMode × Option Dir) :
    ∃ v r, s.enterModeFreely k p m =
      { s with
        sd := { s.sd with strips := v }, ap := { s.ap with reports := r }, freeCount := s.freeCount + 1 } := by
  unfold State.enterModeFreely
  obtain ⟨v, r, h⟩ := (s.setFreeCount (s.freeCount + 1)).enterMode_changes k p m (Config.freeSense s.freeCount)
  rw [h]; exact ⟨_, _, rfl⟩

/-- What the strips' operations change, as one update: strips, reports, free-choice count. -/
def State.stripped (s : State) (v : List Strip × List Report × Nat) : State :=
  { s with sd := { s.sd with strips := v.1 }, ap := { s.ap with reports := v.2.1 }, freeCount := v.2.2 }

theorem State.stripped_refl (s : State) : s = s.stripped (s.sd.strips, s.ap.reports, s.freeCount) := rfl

theorem State.eachStrip_changes (f : State → Nat → State) (one : ∀ s k, ∃ v, f s k = s.stripped v) (n : Nat)
    (s : State) : ∃ v, s.forEach n f = s.stripped v :=
  State.forEach_changes State.stripped (fun s => ⟨_, s.stripped_refl⟩) (fun _ _ w => ⟨w, rfl⟩) n _ one s

theorem followStrip_changes (b : Bool) (s : State) (k : Nat) : ∃ v, followStrip b s k = s.stripped v := by
  unfold followStrip
  dsimp only
  split
  · exact ⟨_, s.stripped_refl⟩
  · split
    · obtain ⟨v, r, h⟩ := s.enterModeFreely_changes k (s.strip k) (Strip.modeFor (s.strip k) s.ru)
      rw [h]; exact ⟨(v, r, _), rfl⟩
    · exact ⟨_, s.stripped_refl⟩

theorem checkStrip_changes (s : State) (k : Nat) : ∃ v, checkStrip s k = s.stripped v := by
  unfold checkStrip
  dsimp only
  split
  · obtain ⟨v, r, h⟩ := s.enterModeFreely_changes k { s.strip k with check := some 4 } (.check, none)
    rw [h]; exact ⟨(v, r, _), rfl⟩
  · exact ⟨_, s.stripped_refl⟩

theorem State.stepStrip_changes (s : State) (k : Nat) (p : Strip) (sense : BitVec 32) :
    ∃ v r, s.stepStrip k p sense = { s with sd := { s.sd with strips := v }, ap := { s.ap with reports := r } } := by
  unfold State.stepStrip
  split
  · exact ⟨s.sd.strips, s.ap.reports, rfl⟩
  · exact s.beginStep_changes _ _ _
  · exact s.beginStep_changes _ _ _
  · exact s.beginStep_changes _ _ _
  · split
    · exact s.beginStep_changes _ _ _
    · dsimp only
      obtain ⟨v, r, h⟩ :=
        s.enterMode_changes k { p with check := none } (Strip.modeFor { p with check := none } s.ru) sense
      rw [h]
      obtain ⟨r', h'⟩ := State.reportIf_changes _ _ _ _ _
      rw [h']; exact ⟨_, _, rfl⟩

theorem followStrips_changes (old s : State) : ∃ v, followStrips old s = s.stripped v := by
  unfold followStrips
  dsimp only
  split
  · obtain ⟨v, h⟩ := State.eachStrip_changes _ (followStrip_changes _) 2 s.dropChecks
    rw [h]
    obtain ⟨r', h'⟩ := State.reportIf_changes _ _ _ _ _
    rw [h']; exact ⟨(v.1, r', v.2.2), rfl⟩
  · obtain ⟨v, h⟩ := State.eachStrip_changes _ (followStrip_changes _) 2 s
    rw [h]
    obtain ⟨r', h'⟩ := State.reportIf_changes _ _ _ _ _
    rw [h']; exact ⟨(v.1, r', v.2.2), rfl⟩

theorem State.followSounder_changes (s : State) :
    ∃ m c t, s.followSounder = { s with sd := { s.sd with sounder := m, cadence := c, cadenceTimer := t } } := by
  unfold State.followSounder
  dsimp only
  split
  · exact ⟨s.sd.sounder, s.sd.cadence, s.sd.cadenceTimer, rfl⟩
  · split
    · exact ⟨_, _, _, rfl⟩
    · exact ⟨_, _, _, rfl⟩

theorem signalsFollow_changes (old s : State) :
    ∃ v r n, signalsFollow old s = { s with sd := v, ap := { s.ap with reports := r }, freeCount := n } := by
  unfold signalsFollow; split
  · exact ⟨s.sd, s.ap.reports, s.freeCount, rfl⟩
  · obtain ⟨v, h⟩ := followStrips_changes old s.followSigns
    rw [h]
    obtain ⟨m, c, t, h'⟩ := State.followSounder_changes _
    rw [h']; exact ⟨_, _, _, rfl⟩

theorem State.clearLamps_changes (s : State) :
    ∃ v w r, s.clearLamps =
      { s with sd := { s.sd with signs := v, strips := w }, ap := { s.ap with reports := r } } := by
  unfold State.clearLamps
  obtain ⟨r', h'⟩ := State.reportIf_changes _ _ _ _ _
  rw [h']; exact ⟨_, _, _, rfl⟩

/-! ### Duration tester -/

theorem State.endTest_changes (s : State) (r : TestResult) (p : Option Nat) :
    ∃ v q, s.endTest r p = { s with dt := v, marker := false, ap := { s.ap with reports := q } } := ⟨_, _, rfl⟩

theorem State.checkBattery_changes (s : State) :
    ∃ v m q, s.checkBattery = { s with dt := v, marker := m, ap := { s.ap with reports := q } } := by
  unfold State.checkBattery; split
  · exact ⟨_, _, _, rfl⟩
  · exact ⟨s.dt, s.marker, s.ap.reports, rfl⟩

theorem State.startTest_changes (s : State) (n : Nat) :
    ∃ v m q, s.startTest n = { s with dt := v, marker := m, ap := { s.ap with reports := q } } := by
  unfold State.startTest
  obtain ⟨v, m, q, h⟩ := State.checkBattery_changes _
  rw [h]; exact ⟨_, _, _, rfl⟩

theorem State.suspendTest_changes (s : State) (c : SuspendCause) :
    ∃ v q, s.suspendTest c = { s with dt := v, ap := { s.ap with reports := q } } := ⟨_, _, rfl⟩

theorem State.resumeTest_changes (s : State) (b : Resumer) :
    ∃ v m q, s.resumeTest b = { s with dt := v, marker := m, ap := { s.ap with reports := q } } := by
  unfold State.resumeTest
  obtain ⟨v, m, q, h⟩ := State.checkBattery_changes _
  rw [h]; exact ⟨_, _, _, rfl⟩

theorem State.takeHit_changes (s : State) (h : TestHit) :
    ∃ v m q, s.takeHit h = { s with dt := v, marker := m, ap := { s.ap with reports := q } } := by
  cases h
  · exact ⟨_, s.marker, _, rfl⟩
  · exact ⟨_, _, _, rfl⟩

theorem State.takeHits_changes (s : State) (l : List TestHit) :
    ∃ v m q n, s.takeHits l = { s with dt := v, marker := m, ap := { s.ap with reports := q }, freeCount := n } := by
  unfold State.takeHits
  split
  · exact ⟨s.dt, s.marker, s.ap.reports, s.freeCount, rfl⟩
  · obtain ⟨v, m, q, h⟩ := State.takeHit_changes _ _
    rw [h]; exact ⟨_, _, _, s.freeCount, rfl⟩
  · obtain ⟨v, m, q, h⟩ := State.takeHit_changes _ _
    rw [h]; exact ⟨_, _, _, _, rfl⟩

theorem testFollow_changes (old s : State) (p : Option Nat) :
    ∃ v m q n, testFollow old s p = { s with dt := v, marker := m, ap := { s.ap with reports := q }, freeCount := n } := by
  unfold testFollow
  split
  · exact s.takeHits_changes _
  · split
    · obtain ⟨v, m, q, h⟩ := s.resumeTest_changes .auto
      rw [h]; exact ⟨_, _, _, s.freeCount, rfl⟩
    · exact ⟨s.dt, s.marker, s.ap.reports, s.freeCount, rfl⟩

end Sys2Proof.Machine
end

