-- ==== Sys2Proof/Laws/Settle.lean ====
section
/-!
SUPPORT. Laws/Settle.lean: what one event's follow-up (`settle`) can change, what it leaves, and when it changes nothing at all.
-/

namespace Sys2Proof.Machine

theorem phaseFollow_changes (old s : State) :
    ∃ ph li dr ra, phaseFollow old s =
      { s with cl := { s.cl with phase := ph, listen := li }, ds := { s.ds with drift := dr, rate := ra } } := by
  unfold phaseFollow; split
  · exact ⟨_, _, _, _, rfl⟩
  · exact ⟨s.cl.phase, s.cl.listen, s.ds.drift, s.ds.rate, rfl⟩

/-- What the blocks after the route unit can change. -/
theorem settle_tail_changes (old a : State) (peer : Option Nat) (pressed : List Nat) :
    ∃ lc latch doors calls serials sd dt mk rp fc,
      announceFollow old (faultFollow old (stateFollow old (testFollow old (signalsFollow old (callsFollow old
        (doorsFollow old (latchFollow old (firstStateFollow old a))))) peer))) pressed =
        { a with
          lc := lc
          nt := { a.nt with latch := latch }
          doors := doors
          cc := { a.cc with calls := calls, serials := serials }
          sd := sd
          dt := dt
          marker := mk
          ap := { a.ap with reports := rp }
          freeCount := fc } := by
  obtain ⟨v4, h4⟩ := firstStateFollow_changes old a
  generalize firstStateFollow old a = s4 at h4 ⊢
  obtain ⟨v5, r5, h5⟩ := latchFollow_changes old s4
  generalize latchFollow old s4 = s5 at h5 ⊢
  obtain ⟨v6, h6⟩ := doorsFollow_changes old s5
  generalize doorsFollow old s5 = s6 at h6 ⊢
  obtain ⟨v7, h7⟩ := callsFollow_changes old s6
  generalize callsFollow old s6 = s7 at h7 ⊢
  obtain ⟨v8, r8, n8, h8⟩ := signalsFollow_changes old s7
  generalize signalsFollow old s7 = s8 at h8 ⊢
  obtain ⟨v9, m9, q9, n9, h9⟩ := testFollow_changes old s8 peer
  generalize testFollow old s8 peer = s9 at h9 ⊢
  obtain ⟨v10, h10⟩ := stateFollow_changes old s9
  generalize stateFollow old s9 = s10 at h10 ⊢
  obtain ⟨v11, n11, r11, h11⟩ := faultFollow_changes old s10
  generalize faultFollow old s10 = s11 at h11 ⊢
  obtain ⟨v12, w12, h12⟩ := announceFollow_changes old s11 pressed
  generalize announceFollow old s11 pressed = s12 at h12 ⊢
  subst h4 h5 h6 h7 h8 h9 h10 h11 h12
  exact ⟨_, _, _, _, _, _, _, _, _, _, rfl⟩

/-- Everything `settle` can change, with the four records it decides early: fire logic, phase with the timers it starts, route. -/
theorem settle_changes (old s : State) (peer : Option Nat) (pressed : List Nat) :
    ∃ lc latch doors calls serials sd dt mk rp fc,
      settle old s peer pressed =
        { s with
          fl := (fireFollow old s).fl
          cl := (phaseFollow old (fireFollow old s)).cl
          ds := (phaseFollow old (fireFollow old s)).ds
          ru := followedRoute old (phaseFollow old (fireFollow old s))
          lc := lc
          nt := { s.nt with latch := latch }
          doors := doors
          cc := { s.cc with calls := calls, serials := serials }
          sd := sd
          dt := dt
          marker := mk
          ap := { s.ap with reports := rp }
          freeCount := fc } := by
  obtain ⟨lc, latch, doors, calls, serials, sd, dt, mk, rp, fc, h⟩ :=
    settle_tail_changes old (routeFollow old (phaseFollow old (fireFollow old s))) peer pressed
  refine ⟨lc, latch, doors, calls, serials, sd, dt, mk, rp, fc, ?_⟩
  refine Eq.trans (b := _) ?_ (h.trans ?_)
  · rfl
  · obtain ⟨v1, r1, h1⟩ := fireFollow_changes old s
    generalize fireFollow old s = s1 at h1 ⊢
    obtain ⟨p1, p2, p3, p4, h2⟩ := phaseFollow_changes old s1
    generalize phaseFollow old s1 = s2 at h2 ⊢
    obtain ⟨r3, h3⟩ := routeFollow_changes old s2
    rw [h3]
    subst h1 h2
    rfl

/-! ### What an event's follow-up leaves -/

theorem settle_keeps (old s : State) (peer : Option Nat) (pressed : List Nat) :
    (settle old s peer pressed).pending = s.pending ∧ (settle old s peer pressed).now = s.now ∧ (settle old s peer pressed).al = s.al ∧
      (settle old s peer pressed).pins = s.pins ∧ (settle old s peer pressed).ap.port = s.ap.port ∧
      (settle old s peer pressed).ap.dataOut = s.ap.dataOut := by
  obtain ⟨_, _, _, _, _, _, _, _, _, _, h⟩ := settle_changes old s peer pressed
  rw [h]
  exact ⟨rfl, rfl, rfl, rfl, rfl, rfl⟩

theorem phaseFollow_keeps (old s : State) :
    (phaseFollow old s).ds.channels = s.ds.channels ∧ (phaseFollow old s).ds.nextSlot = s.ds.nextSlot ∧
      (phaseFollow old s).ds.grant = s.ds.grant ∧ (phaseFollow old s).cl.node = s.cl.node ∧
      (phaseFollow old s).cl.invalid = s.cl.invalid ∧ (phaseFollow old s).cl.clampCount = s.cl.clampCount ∧
      (phaseFollow old s).cl.firstClamp = s.cl.firstClamp := by
  obtain ⟨_, _, _, _, h⟩ := phaseFollow_changes old s
  rw [h]
  exact ⟨rfl, rfl, rfl, rfl, rfl, rfl, rfl⟩

theorem settle_keeps_detector (old s : State) (peer : Option Nat) (pressed : List Nat) :
    (settle old s peer pressed).ds.channels = s.ds.channels ∧ (settle old s peer pressed).ds.nextSlot = s.ds.nextSlot ∧
      (settle old s peer pressed).ds.grant = s.ds.grant := by
  obtain ⟨_, _, _, _, _, _, _, _, _, _, h⟩ := settle_changes old s peer pressed
  obtain ⟨v, r, hf⟩ := fireFollow_changes old s
  have hp := phaseFollow_keeps old (fireFollow old s)
  rw [h]
  refine ⟨hp.1.trans ?_, hp.2.1.trans ?_, hp.2.2.1.trans ?_⟩ <;> rw [hf]

theorem settle_keeps_configuration (old s : State) (peer : Option Nat) (pressed : List Nat) :
    (settle old s peer pressed).cl.node = s.cl.node ∧ (settle old s peer pressed).cl.invalid = s.cl.invalid ∧
      (settle old s peer pressed).cl.clampCount = s.cl.clampCount ∧ (settle old s peer pressed).cl.firstClamp = s.cl.firstClamp := by
  obtain ⟨_, _, _, _, _, _, _, _, _, _, h⟩ := settle_changes old s peer pressed
  obtain ⟨v, r, hf⟩ := fireFollow_changes old s
  have hp := phaseFollow_keeps old (fireFollow old s)
  rw [h]
  refine ⟨hp.2.2.2.1.trans ?_, hp.2.2.2.2.1.trans ?_, hp.2.2.2.2.2.1.trans ?_, hp.2.2.2.2.2.2.trans ?_⟩ <;> rw [hf]

theorem settle_keeps_table (old s : State) (peer : Option Nat) (pressed : List Nat) :
    (settle old s peer pressed).nt.slots = s.nt.slots ∧ (settle old s peer pressed).nt.mode = s.nt.mode ∧
      (settle old s peer pressed).nt.evacuate = s.nt.evacuate ∧ (settle old s peer pressed).nt.orderHeard = s.nt.orderHeard ∧
      (settle old s peer pressed).cc.points = s.cc.points ∧ (settle old s peer pressed).cc.keyOn = s.cc.keyOn ∧
      (settle old s peer pressed).cc.rotations = s.cc.rotations := by
  obtain ⟨_, _, _, _, _, _, _, _, _, _, h⟩ := settle_changes old s peer pressed
  rw [h]
  exact ⟨rfl, rfl, rfl, rfl, rfl, rfl, rfl⟩

theorem settle_fl (old s : State) (peer : Option Nat) (pressed : List Nat) : (settle old s peer pressed).fl = (fireFollow old s).fl := by
  obtain ⟨_, _, _, _, _, _, _, _, _, _, h⟩ := settle_changes old s peer pressed
  rw [h]

theorem settle_ru (old s : State) (peer : Option Nat) (pressed : List Nat) :
    (settle old s peer pressed).ru = followedRoute old (phaseFollow old (fireFollow old s)) := by
  obtain ⟨_, _, _, _, _, _, _, _, _, _, h⟩ := settle_changes old s peer pressed
  rw [h]

theorem settle_cl (old s : State) (peer : Option Nat) (pressed : List Nat) :
    (settle old s peer pressed).cl = (phaseFollow old (fireFollow old s)).cl := by
  obtain ⟨_, _, _, _, _, _, _, _, _, _, h⟩ := settle_changes old s peer pressed
  rw [h]

/-! ### An event that changes nothing the other blocks read -/

/-- Nothing that the blocks of `settle` read differs between `s` and `t`, the duration test's state (R57) and the fault members (R118)
apart. The doors' JAMMED conditions and kinds, not their other fields, are what is read of the doors. -/
structure SameInputs (s t : State) : Prop where
  cl : t.cl = s.cl
  channels : t.ds.channels.map (·.state) = s.ds.channels.map (·.state)
  fl : t.fl = s.fl
  slots : t.nt.slots = s.nt.slots
  mode : t.nt.mode = s.nt.mode
  evacuate : t.nt.evacuate = s.nt.evacuate
  points : t.fireLevels = s.fireLevels
  ru : t.ru = s.ru
  jams : t.jams = s.jams

theorem risen_self (l : List Bool) : risen l l = false := by
  induction l with
  | nil => rfl
  | cons b l ih => cases b <;> simp [risen, ih]

/-- An event that neither presses a call, enters RUN, raises a first fault member nor changes evacuating announces no call. -/
theorem announceFollow_none {old s : State} (fault : s.hasFault = true → old.hasFault = true)
    (run : s.running = true → old.running = true) (evac : s.isEvacuating = old.isEvacuating) :
    announceFollow old s [] = s := by
  have : (fun src => announcementDue old s [] src) = fun _ => false := by
    funext src
    unfold announcementDue
    cases hf : s.hasFault <;> cases hr : s.running <;> simp_all
  simp [announceFollow, show announcementDue old s [] = fun _ => false from this]

/-- Only a STATE for the duration test's state and the node-fault call can follow. -/
theorem settle_steady {s t : State} (h : SameInputs s t) :
    settle s t none [] = announceFollow s (faultFollow s (stateFollow s t)) [] := by
  have hslot : t.slotFires = s.slotFires := by simp [State.slotFires, h.slots]
  have hviews : t.slotViews = s.slotViews := by simp [State.slotViews, h.slots]
  have hrun : t.running = s.running := by simp [State.running, h.cl]
  have hwalk : walkFollow s t = t := by simp [walkFollow, h.points, hslot, risen_self]
  have h1 : fireFollow s t = t := by
    simp [fireFollow, hwalk, fireInputsChanged, h.channels, hslot, h.points, h.fl]
  have h2 : phaseFollow s t = t := by
    unfold phaseFollow
    rw [h.fl]
    simp
  have h3 : routeFollow s t = t := by
    simp [routeFollow, routeInputsChanged, hviews, h.fl, h.jams, h.evacuate, hrun]
  have h4 : firstStateFollow s t = t := by
    unfold firstStateFollow State.offersOpen
    rw [hrun]
    cases s.running <;> simp
  have h5 : latchFollow s t = t := by simp [latchFollow, h.ru]
  have h6 : doorsFollow s t = t := by
    simp [doorsFollow, doorInputsChanged, h.mode, State.isEvacuating, h.ru, h.fl, hslot]
  have h7 : callsFollow s t = t := by simp [callsFollow, State.isEvacuating, h.ru]
  have h8 : signalsFollow s t = t := by simp [signalsFollow, h.ru]
  have h9 : testFollow s t none = t := by
    unfold testFollow testHits testInputsChanged
    rw [h.fl, h.ru, h.evacuate, hviews]
    by_cases hf : s.ru.f = 15 <;> cases hg : s.fl.gallery <;> cases he : s.nt.evacuate <;> simp [State.takeHits, hf]
  simp only [settle, h1, h2, h3, h4, h5, h6, h7, h8, h9]

/-- With the duration test's state the same too only the node-fault call can follow. -/
theorem settle_quiet {s t : State} (h : SameInputs s t) (test : t.dt.state = s.dt.state) :
    settle s t none [] = announceFollow s (faultFollow s t) [] := by
  have : t.statePayload = s.statePayload := by
    simp [State.statePayload, h.ru, h.fl, h.cl, h.mode, h.evacuate, State.testRunning, test]
  rw [settle_steady h]
  simp [stateFollow, this]

/-- And where no fault member has come up nothing follows. -/
theorem settle_idle {s t : State} (h : SameInputs s t) (test : t.dt.state = s.dt.state)
    (fault : t.hasFault = true → s.hasFault = true) : settle s t none [] = t := by
  rw [settle_quiet h test]
  have hf : faultFollow s t = t := by
    unfold faultFollow
    cases ht : t.hasFault
    · simp
    · simp [fault ht]
  rw [hf]
  exact announceFollow_none fault (fun hr => by rw [← hr]; simp [State.running, h.cl])
    (by simp [State.isEvacuating, h.ru])

theorem SameInputs.refl (s : State) : SameInputs s s := ⟨rfl, rfl, rfl, rfl, rfl, rfl, rfl, rfl, rfl⟩

theorem settle_self (s : State) : settle s s none [] = s := settle_idle (.refl s) rfl id

end Sys2Proof.Machine
end

