-- ==== Sys2Proof/Laws/Reports.lean ====
section
/-!
SUPPORT. Laws/Reports.lean: every operation of the blocks but a restart, a read of the report queue and the end of LOADING only
offers reports; and the report queue's bound (R172).
-/

namespace Sys2Proof.Machine

/-! ### The relation -/

theorem Extends.refl (q : List Report) : Extends q q := ⟨[], rfl⟩

theorem Extends.trans {p q r : List Report} (h : Extends p q) (k : Extends q r) : Extends p r := by
  obtain ⟨a, rfl⟩ := h
  obtain ⟨b, rfl⟩ := k
  exact ⟨a ++ b, by rw [List.foldl_append]⟩

theorem State.report_extends (s : State) (k : ReportKind) (a b : Nat) :
    Extends s.ap.reports (s.report k a b).ap.reports := ⟨[_], rfl⟩

theorem State.reportIf_extends (s : State) (c : Bool) (k : ReportKind) (a b : Nat) :
    Extends s.ap.reports (s.reportIf c k a b).ap.reports := by
  cases c
  · exact .refl _
  · exact s.report_extends k a b

theorem State.forEach_extends {f : State → Nat → State}
    (one : ∀ s k, Extends s.ap.reports (f s k).ap.reports) (n : Nat) (s : State) :
    Extends s.ap.reports (s.forEach n f).ap.reports := by
  unfold State.forEach
  generalize List.range n = l
  induction l generalizing s with
  | nil => exact .refl _
  | cons k l ih => exact (one s k).trans (ih (f s k))

theorem State.fold_extends {f : State → Nat → State} (one : ∀ s k, Extends s.ap.reports (f s k).ap.reports)
    (l : List Nat) (s : State) : Extends s.ap.reports (l.foldl f s).ap.reports := by
  induction l generalizing s with
  | nil => exact .refl _
  | cons k l ih => exact (one s k).trans (ih (f s k))

/-- An operation that leaves the report queue alone extends it by nothing. -/
theorem Extends.of_eq {q r : List Report} (h : r = q) : Extends q r := h ▸ .refl _

/-! ### Line controller -/

theorem State.offer_extends (s : State) (body : Payload) (cls : Nat) :
    Extends s.ap.reports (s.offer body cls).1.ap.reports := .refl _

theorem firstStateFollow_extends (old s : State) : Extends s.ap.reports (firstStateFollow old s).ap.reports := by
  obtain ⟨v, h⟩ := firstStateFollow_changes old s; rw [h]; exact .refl _

theorem stateFollow_extends (old s : State) : Extends s.ap.reports (stateFollow old s).ap.reports := by
  obtain ⟨v, h⟩ := stateFollow_changes old s; rw [h]; exact .refl _

theorem State.collide_extends (s : State) : Extends s.ap.reports s.collide.ap.reports := by
  unfold State.collide
  dsimp only
  split
  · split
    · exact State.report_extends _ _ _ _
    · exact .refl _
  · exact .refl _

theorem State.completeSending_extends (s : State) : Extends s.ap.reports s.completeSending.ap.reports :=
  State.reportIf_extends (s.setLc _) _ _ _ _

theorem State.dropAged_extends (s : State) : Extends s.ap.reports s.dropAged.ap.reports :=
  State.reportIf_extends (s.setLc _) _ _ _ _

theorem State.noteCheckError_extends (s : State) : Extends s.ap.reports s.noteCheckError.ap.reports :=
  s.dropAged_extends.trans (State.reportIf_extends (s.dropAged.setLc _) _ _ _ _)

theorem State.ageNoise_extends (s : State) : Extends s.ap.reports s.ageNoise.ap.reports :=
  State.reportIf_extends (s.setLc _) _ _ _ _

theorem State.stuckBegin_extends (s : State) : Extends s.ap.reports s.stuckBegin.ap.reports :=
  State.reportIf_extends (s.setLc _) _ _ _ _

theorem State.stuckExpire_extends (s : State) : Extends s.ap.reports s.stuckExpire.ap.reports :=
  State.reportIf_extends (s.setLc _) _ _ _ _

theorem State.noteDuplicate_extends (s : State) (k : Nat) : Extends s.ap.reports (s.noteDuplicate k).ap.reports :=
  State.reportIf_extends (s.setLc _) _ _ _ _

/-! ### Neighbour table -/

theorem State.reportHeard_extends (s : State) (k : Nat) (b : Presence) (g : FireState) :
    Extends s.ap.reports (s.reportHeard k b g).ap.reports := by
  cases b
  · exact State.report_extends _ _ _ _
  · exact .refl _
  · exact State.report_extends _ _ _ _

theorem State.takeState_extends (s : State) (src : Nat) (p : StatePayload) :
    Extends s.ap.reports (s.takeState src p).ap.reports := by
  unfold State.takeState
  split
  · exact .refl _
  · exact State.reportHeard_extends (s.setSlot _ _) _ _ _

theorem State.clearHeld_extends (s : State) : Extends s.ap.reports s.clearHeld.ap.reports := by
  unfold State.clearHeld
  refine State.forEach_extends (fun s k => ?_) 8 s
  dsimp only
  split
  · exact State.report_extends (s.setSlot _ _) _ _ _
  · exact .refl _

theorem State.clearLatch_extends (s : State) (w : LatchClear) : Extends s.ap.reports (s.clearLatch w).ap.reports := by
  unfold State.clearLatch
  split
  · exact State.report_extends (s.setNt _) _ _ _
  · exact .refl _

theorem State.setMode_extends (s : State) (m : Mode) (n : Nat) (a : Bool) :
    Extends s.ap.reports (s.setMode m n a).ap.reports := State.reportIf_extends (s.setNt _) _ _ _ _

theorem State.setEvacuate_extends (s : State) (on : Bool) (n : Nat) (a : Bool) :
    Extends s.ap.reports (s.setEvacuate on n a).ap.reports := State.reportIf_extends (s.setNt _) _ _ _ _

theorem State.applyFlag_extends (s : State) (o : FlagOrder) (n : Nat) :
    Extends s.ap.reports (s.applyFlag o n).ap.reports := by
  cases o
  · exact s.setMode_extends _ _ _
  · exact s.setMode_extends _ _ _
  · exact (s.setEvacuate_extends _ _ _).trans (State.clearLatch_extends _ _)
  · exact s.setEvacuate_extends _ _ _

theorem State.adopt_extends (s : State) (src : Nat) (p : StatePayload) :
    Extends s.ap.reports (s.adopt src p).ap.reports := by
  unfold State.adopt
  split
  · exact (s.setMode_extends _ _ _).trans (State.setEvacuate_extends _ _ _ _)
  · exact .refl _

theorem latchFollow_extends (old s : State) : Extends s.ap.reports (latchFollow old s).ap.reports := by
  unfold latchFollow
  split
  · exact .refl _
  · split
    · exact .refl _
    · split
      · exact s.clearLatch_extends _
      · split
        · exact s.clearLatch_extends _
        · exact .refl _

/-! ### Fire logic and route unit -/

theorem State.setGallery_extends (s : State) (g : FireState) : Extends s.ap.reports (s.setGallery g).ap.reports := by
  unfold State.setGallery
  split
  · exact .refl _
  · exact State.report_extends (s.setFl _) _ _ _

theorem State.confirmFire_extends (s : State) (c : Cause) (a b : Option Nat) :
    Extends s.ap.reports (s.confirmFire c a b).ap.reports := by
  unfold State.confirmFire
  refine Extends.trans ?_ (State.report_extends _ _ _ _)
  exact State.setGallery_extends (s.setFl { s.fl with cause := ⟨c, a, b, some s.seconds⟩ }) .fire

theorem State.evaluate_extends (s : State) (d : Bool) : Extends s.ap.reports (s.evaluate d).ap.reports := by
  unfold State.evaluate
  split
  · exact .refl _
  · split
    · exact s.confirmFire_extends _ _ _
    · exact s.setGallery_extends _

theorem State.endWalk_extends (s : State) (w : WalkEnd) : Extends s.ap.reports (s.endWalk w).ap.reports := by
  unfold State.endWalk
  split
  · exact s.report_extends _ _ _
  · exact .refl _

theorem walkFollow_extends (old s : State) : Extends s.ap.reports (walkFollow old s).ap.reports := by
  unfold walkFollow
  split
  · exact s.endWalk_extends _
  · split
    · exact s.endWalk_extends _
    · exact .refl _

theorem fireFollow_extends (old s : State) : Extends s.ap.reports (fireFollow old s).ap.reports := by
  unfold fireFollow
  dsimp only
  split
  · exact (walkFollow_extends old s).trans (State.evaluate_extends _ _)
  · exact walkFollow_extends old s

theorem State.completeBurst_extends (s : State) (c : Nat) : Extends s.ap.reports (s.completeBurst c).ap.reports := by
  unfold State.completeBurst
  split
  · exact State.report_extends (s.setFl _) _ _ _
  · exact (s.endWalk_extends _).trans (State.report_extends ((s.endWalk .secondAlarm).setChannel _ _) _ _ _)

theorem State.acceptReset_extends (s : State) (a b : Nat) (c : Bool) :
    Extends s.ap.reports (s.acceptReset a b c).ap.reports := by
  have tail : ∀ u : State, Extends u.ap.reports
      (((if c then ((u.endWalk .reset).clearLatch .reset).clearHeld else (u.endWalk .reset).clearLatch .reset).setGallery
        (if c then ((u.endWalk .reset).clearLatch .reset).clearHeld
          else (u.endWalk .reset).clearLatch .reset).derivedState).report .fireReset b a).ap.reports := by
    intro u
    refine Extends.trans ?_ (State.report_extends _ _ _ _)
    refine Extends.trans ?_ (State.setGallery_extends _ _)
    refine Extends.trans (u.endWalk_extends .reset) ?_
    generalize u.endWalk .reset = v
    refine Extends.trans (v.clearLatch_extends .reset) ?_
    generalize v.clearLatch .reset = w
    split
    · exact w.clearHeld_extends
    · exact .refl _
  exact tail ((s.setDs { s.ds with channels := s.ds.channels.map .fireReset }).setFl
    { s.fl with confirm := none, cause := .clear })

theorem State.decideReset_extends (s : State) (a b : Nat) (c : Bool) :
    Extends s.ap.reports (s.decideReset a b c).ap.reports := by
  unfold State.decideReset
  split
  · exact s.report_extends _ _ _
  · exact s.acceptReset_extends _ _ _

theorem phaseFollow_extends (old s : State) : Extends s.ap.reports (phaseFollow old s).ap.reports := by
  obtain ⟨_, _, _, _, h⟩ := phaseFollow_changes old s; rw [h]; exact .refl _

theorem reportEvacuating_extends (old s : State) : Extends s.ap.reports (reportEvacuating old s).ap.reports := by
  unfold reportEvacuating
  split
  · exact .refl _
  · exact s.report_extends _ _ _

theorem reportNoRoute_extends (old s : State) : Extends s.ap.reports (reportNoRoute old s).ap.reports := by
  unfold reportNoRoute
  dsimp only
  repeat' split
  all_goals first
    | exact s.report_extends _ _ _
    | exact .refl _

theorem routeFollow_extends (old s : State) : Extends s.ap.reports (routeFollow old s).ap.reports := by
  unfold routeFollow
  split
  · split
    · refine Extends.trans ?_ (reportNoRoute_extends old _)
      exact reportEvacuating_extends old (s.setRu s.computedRoute)
    · exact .refl _
  · split
    · exact reportEvacuating_extends old (s.setRu _)
    · exact .refl _

/-! ### Doors and calls -/

theorem doorsFollow_extends (old s : State) : Extends s.ap.reports (doorsFollow old s).ap.reports := by
  obtain ⟨v, h⟩ := doorsFollow_changes old s; rw [h]; exact .refl _

theorem State.announce_extends (s : State) (src : Nat) : Extends s.ap.reports (s.announce src).ap.reports := by
  obtain ⟨v, w, h⟩ := s.announce_changes src; rw [h]; exact .refl _

theorem State.raise_extends (s : State) (src : Nat) (k : CallKind) (b : Nat) :
    Extends s.ap.reports (s.raise src k b).ap.reports := State.report_extends (s.setCc _) _ _ _

theorem State.press_extends (s : State) (src : Nat) (k : CallKind) (b : Nat) :
    Extends s.ap.reports (s.press src k b).ap.reports := by
  unfold State.press
  split
  · exact s.raise_extends _ _ _
  · split
    · exact State.report_extends (s.setCall _ _) _ _ _
    · exact .refl _

theorem State.doorAlarm_extends (s : State) (src : Nat) (k : CallKind) (b : Nat) :
    Extends s.ap.reports (s.doorAlarm src k b).ap.reports := by
  unfold State.doorAlarm
  split
  · exact (s.raise_extends _ _ _).trans (State.announce_extends _ _)
  · dsimp only
    split
    · refine Extends.trans (Extends.trans ?_ (State.reportIf_extends _ _ _ _ _)) (State.report_extends _ _ _ _)
      exact State.announce_extends (s.setCall _ _) src
    · refine Extends.trans ?_ (State.reportIf_extends _ _ _ _ _)
      exact State.announce_extends (s.setCall _ _) src

theorem faultFollow_extends (old s : State) : Extends s.ap.reports (faultFollow old s).ap.reports := by
  unfold faultFollow
  split
  · exact s.press_extends _ _ _
  · exact .refl _

theorem callsFollow_extends (old s : State) : Extends s.ap.reports (callsFollow old s).ap.reports := by
  obtain ⟨v, h⟩ := callsFollow_changes old s; rw [h]; exact .refl _

theorem announceFollow_extends (old s : State) (pressed : List Nat) :
    Extends s.ap.reports (announceFollow old s pressed).ap.reports := by
  obtain ⟨v, w, h⟩ := announceFollow_changes old s pressed; rw [h]; exact .refl _

/-! ### Signals and duration tester -/

theorem State.stepSign_extends (s : State) (n : Nat) : Extends s.ap.reports (s.stepSign n).ap.reports :=
  State.reportIf_extends (s.setSign _ _) _ _ _ _

theorem State.beginStep_extends (s : State) (k : Nat) (p : Strip) (sense : BitVec 32) :
    Extends s.ap.reports (s.beginStep k p sense).ap.reports := by
  unfold State.beginStep
  dsimp only
  split
  · exact State.report_extends (s.setStrip _ _) _ _ _
  · exact .refl _

theorem State.enterMode_extends (s : State) (k : Nat) (p : Strip) (m : StripMode × Option Dir) (sense : BitVec 32) :
    Extends s.ap.reports (s.enterMode k p m sense).ap.reports := by
  unfold State.enterMode
  dsimp only
  split
  · exact .refl _
  · exact s.beginStep_extends _ _ _

theorem State.enterModeFreely_extends (s : State) (k : Nat) (p : Strip) (m : StripMode × Option Dir) :
    Extends s.ap.reports (s.enterModeFreely k p m).ap.reports :=
  State.enterMode_extends (s.setFreeCount (s.freeCount + 1)) k p m _

theorem followStrip_extends (b : Bool) (s : State) (k : Nat) :
    Extends s.ap.reports (followStrip b s k).ap.reports := by
  unfold followStrip
  dsimp only
  split
  · exact .refl _
  · split
    · exact s.enterModeFreely_extends _ _ _
    · exact .refl _

theorem checkStrip_extends (s : State) (k : Nat) : Extends s.ap.reports (checkStrip s k).ap.reports := by
  unfold checkStrip
  dsimp only
  split
  · exact s.enterModeFreely_extends _ _ _
  · exact .refl _

theorem State.stepStrip_extends (s : State) (k : Nat) (p : Strip) (sense : BitVec 32) :
    Extends s.ap.reports (s.stepStrip k p sense).ap.reports := by
  unfold State.stepStrip
  split
  · exact .refl _
  · exact s.beginStep_extends _ _ _
  · exact s.beginStep_extends _ _ _
  · exact s.beginStep_extends _ _ _
  · split
    · exact s.beginStep_extends _ _ _
    · exact (s.enterMode_extends _ _ _ _).trans (State.reportIf_extends _ _ _ _ _)

theorem followStrips_extends (old s : State) : Extends s.ap.reports (followStrips old s).ap.reports := by
  unfold followStrips
  dsimp only
  refine Extends.trans ?_ (State.reportIf_extends _ _ _ _ _)
  split
  · exact State.forEach_extends (followStrip_extends _) 2 s.dropChecks
  · exact State.forEach_extends (followStrip_extends _) 2 s

theorem signalsFollow_extends (old s : State) : Extends s.ap.reports (signalsFollow old s).ap.reports := by
  unfold signalsFollow
  split
  · exact .refl _
  · obtain ⟨m, c, t, h⟩ := State.followSounder_changes (followStrips old s.followSigns)
    rw [h]
    exact followStrips_extends old s.followSigns

theorem State.clearLamps_extends (s : State) : Extends s.ap.reports s.clearLamps.ap.reports :=
  State.reportIf_extends (s.setSd _) _ _ _ _

theorem State.endTest_extends (s : State) (r : TestResult) (p : Option Nat) :
    Extends s.ap.reports (s.endTest r p).ap.reports := State.report_extends ((s.setDt _).setMarker _) _ _ _

theorem State.checkBattery_extends (s : State) : Extends s.ap.reports s.checkBattery.ap.reports := by
  unfold State.checkBattery
  split
  · exact s.endTest_extends _ _
  · exact .refl _

theorem State.startTest_extends (s : State) (n : Nat) : Extends s.ap.reports (s.startTest n).ap.reports := by
  unfold State.startTest
  refine Extends.trans ?_ (State.checkBattery_extends _)
  exact State.report_extends ((s.setDt _).setMarker true) _ _ _

theorem State.suspendTest_extends (s : State) (c : SuspendCause) : Extends s.ap.reports (s.suspendTest c).ap.reports :=
  State.report_extends (s.setDt _) _ _ _

theorem State.resumeTest_extends (s : State) (b : Resumer) : Extends s.ap.reports (s.resumeTest b).ap.reports := by
  unfold State.resumeTest
  refine Extends.trans ?_ (State.checkBattery_extends _)
  exact State.report_extends (s.setDt _) _ _ _

theorem State.takeHit_extends (s : State) (h : TestHit) : Extends s.ap.reports (s.takeHit h).ap.reports := by
  cases h
  · exact s.suspendTest_extends _
  · exact s.endTest_extends _ _

theorem State.takeHits_extends (s : State) (l : List TestHit) : Extends s.ap.reports (s.takeHits l).ap.reports := by
  unfold State.takeHits
  split
  · exact .refl _
  · exact s.takeHit_extends _
  · exact State.takeHit_extends (s.setFreeCount _) _

theorem testFollow_extends (old s : State) (p : Option Nat) :
    Extends s.ap.reports (testFollow old s p).ap.reports := by
  unfold testFollow
  split
  · exact s.takeHits_extends _
  · split
    · exact s.resumeTest_extends _
    · exact .refl _

/-! ### A whole event -/

/-- What the blocks do at an event after its owner has acted only offers reports. -/
theorem settle_extends (old s : State) (peer : Option Nat) (pressed : List Nat) :
    Extends s.ap.reports (settle old s peer pressed).ap.reports := by
  simp only [settle]
  refine .trans ?_ (announceFollow_extends old _ pressed)
  refine .trans ?_ (faultFollow_extends old _)
  refine .trans ?_ (stateFollow_extends old _)
  refine .trans ?_ (testFollow_extends old _ peer)
  refine .trans ?_ (signalsFollow_extends old _)
  refine .trans ?_ (callsFollow_extends old _)
  refine .trans ?_ (doorsFollow_extends old _)
  refine .trans ?_ (latchFollow_extends old _)
  refine .trans ?_ (firstStateFollow_extends old _)
  refine .trans ?_ (routeFollow_extends old _)
  exact (fireFollow_extends old s).trans (phaseFollow_extends old _)

/-- Reports offered by the owner of an event, and then by the blocks that follow. -/
theorem Extends.settle {q : List Report} {s : State} (h : Extends q s.ap.reports) (old : State) (peer : Option Nat)
    (pressed : List Nat) : Extends q (settle old s peer pressed).ap.reports := h.trans (settle_extends old s peer pressed)

/-- What is offered first is offered, when the clock does not move after it. -/
theorem Reports.reported {u t : State} {kind : ReportKind} {a b : Nat} (h : Reports u kind a b t) (now : t.now = u.now) :
    Reported u kind a b t := ⟨u.ap.reports, .refl _, by rw [now]; exact h⟩

/-- A report stays offered through further offers, before it and after it. -/
theorem Reported.through {r s t u : State} {kind : ReportKind} {a b : Nat} (h : Reported s kind a b t)
    (before : Extends r.ap.reports s.ap.reports) (after : Extends t.ap.reports u.ap.reports) (now : u.now = t.now) :
    Reported r kind a b u := by
  obtain ⟨q, hq, hr⟩ := h
  exact ⟨q, before.trans hq, by rw [now]; exact hr.trans after⟩

/-! ### The bound of the report queue -/

theorem markNewest_length (q : List Report) : (markNewest q).length = q.length := by
  induction q with
  | nil => rfl
  | cons r q ih => cases q with
    | nil => rfl
    | cons r' q => simpa [markNewest] using ih

/-- R172: the newest entry alone is marked. -/
theorem markNewest_concat (older : List Report) (newest : Report) :
    markNewest (older ++ [newest]) = older ++ [{ newest with overflow := true }] := by
  induction older with
  | nil => rfl
  | cons r rs ih =>
    cases rs with
    | nil => rfl
    | cons r' rs' => exact congrArg (r :: ·) ih

theorem queueReport_length_le {q : List Report} (h : q.length ≤ 16) (r : Report) : (queueReport q r).length ≤ 16 := by
  unfold queueReport
  split
  · simp; omega
  · rw [markNewest_length]; exact h

theorem Extends.length_le {q r : List Report} (h : Extends q r) (hq : q.length ≤ 16) : r.length ≤ 16 := by
  obtain ⟨l, rfl⟩ := h
  induction l generalizing q with
  | nil => exact hq
  | cons a l ih => exact ih (queueReport_length_le hq a)

end Sys2Proof.Machine
end

