-- ==== Sys2Proof/Laws/Calls.lean ====
section
/-!
SUPPORT. Laws/Calls.lean: what the follow-up of an event leaves of a call: all but its current priority (R114) and its re-announce timer
(R119), for every source but the node fault's.
-/

namespace Sys2Proof.Machine

/-- The place holds the same call, its current priority and re-announce timer apart. -/
def SameCall (a b : Option Call) : Prop :=
  (a = none ∧ b = none) ∨ ∃ c current again, a = some c ∧ b = some { c with current := current, reannounce := again }

theorem SameCall.refl (a : Option Call) : SameCall a a := by
  cases a with
  | none => exact .inl ⟨rfl, rfl⟩
  | some c => exact .inr ⟨c, c.current, c.reannounce, rfl, rfl⟩

theorem SameCall.trans {a b c : Option Call} (h : SameCall a b) (k : SameCall b c) : SameCall a c := by
  rcases h with ⟨rfl, rfl⟩ | ⟨x, p, q, rfl, rfl⟩
  · exact k
  · rcases k with ⟨hn, _⟩ | ⟨y, p', q', hy, rfl⟩
    · cases hn
    · cases hy
      exact .inr ⟨x, p', q', rfl, rfl⟩

/-- The call at a place after a set of the table. -/
theorem getD_set (l : List (Option Call)) (i j : Nat) (v : Option Call) :
    (l.set i v).getD j none = if i = j ∧ i < l.length then v else l.getD j none := by
  rw [List.getD_eq_getElem?_getD, List.getElem?_set, List.getD_eq_getElem?_getD]
  by_cases h : i = j
  · subst h
    by_cases h2 : i < l.length
    · simp [h2]
    · simp [h2]
  · simp [h]

theorem State.announce_call (s : State) (src i : Nat) : SameCall (s.call i) ((s.announce src).call i) := by
  unfold State.announce
  split
  · exact .refl _
  · rename_i c hc
    show SameCall (s.call i) ((s.cc.calls.set src _).getD i none)
    rw [getD_set]
    split
    · rename_i h
      rw [← h.1, hc]
      exact .inr ⟨c, c.current, _, rfl, rfl⟩
    · exact .refl _

theorem State.announceEach_call (l : List Nat) (s : State) (i : Nat) :
    SameCall (s.call i) ((l.foldl State.announce s).call i) := by
  induction l generalizing s with
  | nil => exact .refl _
  | cons k l ih => exact (s.announce_call k i).trans (ih _)

theorem callsFollow_call (old s : State) (i : Nat) : SameCall (s.call i) ((callsFollow old s).call i) := by
  unfold callsFollow
  split
  · exact .refl _
  · show SameCall (s.call i) ((s.cc.calls.map _).getD i none)
    unfold State.call
    rw [List.getD_eq_getElem?_getD, List.getD_eq_getElem?_getD, List.getElem?_map]
    cases s.cc.calls[i]? with
    | none => exact .inl ⟨rfl, rfl⟩
    | some o =>
      cases o with
      | none => exact .inl ⟨rfl, rfl⟩
      | some c =>
        refine .inr ⟨c, if c.kind = .help then currentPriority c.kind c.escalated s.isEvacuating else c.current,
          c.reannounce, rfl, ?_⟩
        simp only [Option.map_some, Option.getD_some]
        split <;> rfl

theorem announceFollow_call (old s : State) (pressed : List Nat) (i : Nat) :
    SameCall (s.call i) ((announceFollow old s pressed).call i) := State.announceEach_call _ _ _

/-- A press leaves every other source's call and serial counter. -/
theorem State.press_other (s : State) (src : Nat) (k : CallKind) (b i : Nat) (h : src ≠ i) :
    SameCall (s.call i) ((s.press src k b).call i) ∧ (s.press src k b).serial i = s.serial i := by
  have set_other : ∀ (l : List (Option Call)) v, (l.set src v).getD i none = l.getD i none := by
    intro l v; rw [getD_set]; simp [h]
  unfold State.press
  split
  · constructor
    · show SameCall (s.call i) ((s.cc.calls.set src _).getD i none)
      rw [set_other]; exact .refl _
    · show (s.cc.serials.set src _).getD i 0 = s.cc.serials.getD i 0
      simp [List.getD_eq_getElem?_getD, h]
  · split
    · constructor
      · show SameCall (s.call i) ((s.cc.calls.set src _).getD i none)
        rw [set_other]; exact .refl _
      · rfl
    · exact ⟨.refl _, rfl⟩

theorem faultFollow_other (old s : State) (i : Nat) (h : i ≠ 16) :
    SameCall (s.call i) ((faultFollow old s).call i) ∧ (faultFollow old s).serial i = s.serial i := by
  unfold faultFollow
  split
  · exact s.press_other 16 .fault 2 i (Ne.symm h)
  · exact ⟨.refl _, rfl⟩

/-- The follow-up of an event leaves every call but source 16's, current priority and re-announce timer apart. -/
theorem settle_keeps_call (old s : State) (peer : Option Nat) (pressed : List Nat) (i : Nat) (h : i ≠ 16) :
    SameCall (s.call i) ((settle old s peer pressed).call i) ∧ (settle old s peer pressed).serial i = s.serial i := by
  unfold settle
  dsimp only
  obtain ⟨v1, r1, h1⟩ := fireFollow_changes old s
  generalize fireFollow old s = s1 at h1 ⊢
  obtain ⟨_, _, _, _, h2⟩ := phaseFollow_changes old s1
  generalize phaseFollow old s1 = s2 at h2 ⊢
  obtain ⟨r3, h3⟩ := routeFollow_changes old s2
  generalize routeFollow old s2 = s3 at h3 ⊢
  obtain ⟨v4, h4⟩ := firstStateFollow_changes old s3
  generalize firstStateFollow old s3 = s4 at h4 ⊢
  obtain ⟨v5, r5, h5⟩ := latchFollow_changes old s4
  generalize latchFollow old s4 = s5 at h5 ⊢
  obtain ⟨v6, h6⟩ := doorsFollow_changes old s5
  generalize doorsFollow old s5 = s6 at h6 ⊢
  have k7 := callsFollow_call old s6 i
  obtain ⟨v7, h7⟩ := callsFollow_changes old s6
  generalize callsFollow old s6 = s7 at h7 k7 ⊢
  obtain ⟨v8, r8, n8, h8⟩ := signalsFollow_changes old s7
  generalize signalsFollow old s7 = s8 at h8 ⊢
  obtain ⟨v9, m9, q9, n9, h9⟩ := testFollow_changes old s8 peer
  generalize testFollow old s8 peer = s9 at h9 ⊢
  obtain ⟨v10, h10⟩ := stateFollow_changes old s9
  generalize stateFollow old s9 = s10 at h10 ⊢
  have k11 := faultFollow_other old s10 i h
  generalize faultFollow old s10 = s11 at k11 ⊢
  have k12 := announceFollow_call old s11 pressed i
  obtain ⟨v12, w12, h12⟩ := announceFollow_changes old s11 pressed
  generalize announceFollow old s11 pressed = s12 at h12 k12 ⊢
  have e6 : s6.call i = s.call i ∧ s6.serial i = s.serial i := by subst h1 h2 h3 h4 h5 h6; exact ⟨rfl, rfl⟩
  have e10 : s10.call i = s7.call i ∧ s10.serial i = s7.serial i := by subst h8 h9 h10; exact ⟨rfl, rfl⟩
  have e7 : s7.serial i = s6.serial i := by subst h7; rfl
  have e12 : s12.serial i = s11.serial i := by subst h12; rfl
  refine ⟨?_, e12.trans (k11.2.trans (e10.2.trans (e7.trans e6.2)))⟩
  rw [e6.1] at k7
  rw [e10.1] at k11
  exact (k7.trans k11.1).trans k12

end Sys2Proof.Machine
end

