-- ==== Sys2Proof/Machine/Inputs.lean ====
section
/-!
DEFINITION. Inputs.lean: how a raw field input becomes a qualified one, and which command each change of a qualified value is (R91,
R111, R126, R159). It stands beside the commands, which bring qualified values (log 10).
-/

namespace Sys2Proof

/-- A raw input with its qualification: the raw level, the time of its last change or of leaving LOADING, and the qualified value,
none until the first. -/
structure Qualifier (α : Type) where
  raw : α
  since : Nat
  value : Option α
  deriving DecidableEq, Repr

/-- The input as the node leaves LOADING: unqualified (R91, R111). -/
def Qualifier.atStart {α : Type} (raw : α) (now : Nat) : Qualifier α := ⟨raw, now, none⟩

/-- The stable time of the battery-low input, 2 s (R159). -/
abbrev batteryHold : Nat := 2 * Config.second

variable {α : Type} [DecidableEq α]

/-- Time has come to `now`: a raw level held for the stable time without interruption is the qualified value. -/
def Qualifier.settle (q : Qualifier α) (hold now : Nat) : Qualifier α :=
  if q.since + hold ≤ now then { q with value := some q.raw } else q

/-- The raw input changes at `now`. -/
def Qualifier.change (q : Qualifier α) (hold : Nat) (raw : α) (now : Nat) : Qualifier α :=
  if raw = q.raw then q.settle hold now else { q.settle hold now with raw := raw, since := now }

/-! ### The command a change of a qualified value is -/

/-- The contact of door `d`: a first value, an opening or a shutting (R91). -/
def contactCommand (d : Fin 8) (before after : Option Contact) : Option Instr :=
  match before, after with
  | none, some v => some (.contactFirstQualified d v)
  | some .shut, some .opened => some (.doorOpening d)
  | some .opened, some .shut => some (.doorShutting d)
  | _, _ => none

/-- The lock feedback of door `d`: a first value or a change (R91). -/
def feedbackCommand (d : Fin 8) (before after : Option Lock) : Option Instr :=
  match before, after with
  | none, some v => some (.feedbackFirstQualified d v)
  | some u, some v => if u = v then none else some (.feedbackChange d v)
  | _, _ => none

/-- The REX of door `d`, true for PRESSED: a press from RELEASED alone (R91). -/
def rexCommand (d : Fin 8) (before after : Option Bool) : Option Instr :=
  if before = some false ∧ after = some true then some (.rexPress d) else none

/-- The input of call point `p`, true for ACTIVE: every qualified value it takes (R111; log 12). -/
def pointCommand (p : Fin 8) (before after : Option Bool) : Option Instr :=
  if before = after then none else after.map (.firePointLevelChange p)

/-- The attendant key, true for ON: a turn from OFF alone (R126). -/
def keyCommand (before after : Option Bool) : Option Instr :=
  if before = some false ∧ after = some true then some .attendantKeyTurn else none

/-- The battery-low input, true for LOW: every qualified value it takes (R159, R161). -/
def batteryCommand (before after : Option Bool) : Option Instr :=
  if before = after then none else after.map .batteryLowChange

end Sys2Proof
end

