-- ==== Sys2Proof/Machine/PortBytes.lean ====
section
/-!
DEFINITION. PortBytes.lean: the bytes of one transaction of the attendant port: which request they spell and at which byte it is decoded,
and what is shifted out beside them (R169, Table 11-1). It stands beside the commands, which bring whole requests (log 4).
-/

namespace Sys2Proof

/-- The request of a code of Table 11-1 and its parameter bytes. -/
def requestOf (code : Nat) (params : List Byte) : Option Instr :=
  match code, params with
  | 0x01, [] => some .readNode
  | 0x02, [c] => some (.readChannel c)
  | 0x03, [d] => some (.readDoor d)
  | 0x04, [source] => some (.readCall source)
  | 0x05, [slot] => some (.readNeighbour slot)
  | 0x06, [] => some .readRoute
  | 0x07, [] => some .readSignals
  | 0x08, [] => some .readTest
  | 0x09, [pos] => some (.listRead pos)
  | 0x0A, [] => some .readReport
  | 0x10, [origin, source] => some (.take origin source)
  | 0x11, [origin, source] => some (.giveup origin source)
  | 0x12, [origin, source] => some (.clear origin source)
  | 0x13, [code, target, door] => some (.order code target door)
  | 0x20, [] => some .fireReset
  | 0x21, [c] => some (.isolate c)
  | 0x22, [c] => some (.restore c)
  | 0x23, [min] => some (.walkStart min)
  | 0x24, [] => some .walkStop
  | 0x30, [d] => some (.doorPulse d)
  | 0x40, [] => some .lampClear
  | 0x41, [] => some .lampCheck
  | 0x42, [min] => some (.testStart min)
  | 0x43, [] => some .testSuspend
  | 0x44, [] => some .testResume
  | 0x45, [] => some .testAbort
  | 0x7F, [] => some .restart
  | _, _ => none

/-- The bytes a host shifts in for a request: code, length, parameters (R169); none for a command that is no request. -/
def Instr.requestBytes : Instr → Option (List Byte)
  | .readNode => some [0x01, 0]
  | .readChannel c => some [0x02, 1, c]
  | .readDoor d => some [0x03, 1, d]
  | .readCall source => some [0x04, 1, source]
  | .readNeighbour slot => some [0x05, 1, slot]
  | .readRoute => some [0x06, 0]
  | .readSignals => some [0x07, 0]
  | .readTest => some [0x08, 0]
  | .listRead pos => some [0x09, 1, pos]
  | .readReport => some [0x0A, 0]
  | .take origin source => some [0x10, 2, origin, source]
  | .giveup origin source => some [0x11, 2, origin, source]
  | .clear origin source => some [0x12, 2, origin, source]
  | .order code target door => some [0x13, 3, code, target, door]
  | .fireReset => some [0x20, 0]
  | .isolate c => some [0x21, 1, c]
  | .restore c => some [0x22, 1, c]
  | .walkStart min => some [0x23, 1, min]
  | .walkStop => some [0x24, 0]
  | .doorPulse d => some [0x30, 1, d]
  | .lampClear => some [0x40, 0]
  | .lampCheck => some [0x41, 0]
  | .testStart min => some [0x42, 1, min]
  | .testSuspend => some [0x43, 0]
  | .testResume => some [0x44, 0]
  | .testAbort => some [0x45, 0]
  | .restart => some [0x7F, 0]
  | _ => none

/-- The command that the bytes shifted in since the fall of select spell, and how many of them it took to decode it; none while it is
not decoded (R169). The three points: the code byte, the length byte, the last parameter byte. -/
def portRead : List Byte → Option (Instr × Nat)
  | [] => none
  | code :: rest =>
    match requestLength code.toNat with
    | none => some (.unknownRequest code 0, 1)
    | some n =>
      match rest with
      | [] => none
      | len :: params =>
        if len.toNat ≠ n then some (.unknownRequest code len, 2)
        else if params.length < n then none
        else (requestOf code.toNat (params.take n)).map fun c => (c, 2 + n)

/-- The byte shifted out beside byte `i` of a transaction whose request was decoded with `taken` bytes: FFh before the response and
after its last byte (R169). -/
def shiftedOut (taken : Nat) (response : List Byte) (i : Nat) : Byte :=
  if i < taken then 0xFF else response.getD (i - taken) 0xFF

/-- The commands that one transaction is, by the bytes clocked in between the fall and the rise of select: a request that is not decoded
has no effect (R169). -/
def transactionCommands (bytes : List Byte) : List Instr :=
  .transactionBegin :: ((portRead bytes).map (·.1)).toList ++ [.transactionEnd]

/-- A byte on data in or data out, most significant bit first (R169). -/
def Byte.wire (b : Byte) : List Bool := msbBits 8 b.toNat

end Sys2Proof
end

