-- ==== Sys2Proof/Laws/Codecs.lean ====
section
/-!
SUPPORT. Laws/Codecs.lean: the codecs that stand beside the commands: a payload's bytes are as many as its kind's
(R43), the bytes of a request are read as that request (R169), and a raw input's excursion shorter than the stable time changes nothing (R91).
-/

namespace Sys2Proof

/-- A payload has as many bytes as Table 3-1 gives its kind. -/
theorem Payload.bytes_length (p : Payload) : p.bytes.length = p.length := by cases p <;> rfl

/-- With the length of its table row and as many parameters a code is decoded at the last of them (R169). -/
theorem portRead_whole {code len : Byte} (h : requestLength code.toNat = some len.toNat) {params : List Byte}
    (n : params.length = len.toNat) (rest : List Byte) :
    portRead (code :: len :: (params ++ rest)) = (requestOf code.toNat params).map fun c => (c, 2 + len.toNat) := by
  unfold portRead
  simp [h, ← n]

/-- And with fewer it is not decoded: a select rise then discards the request (R169). -/
theorem portRead_cutShort {code len : Byte} (h : requestLength code.toNat = some len.toNat) {params : List Byte}
    (n : params.length < len.toNat) : portRead (code :: len :: params) = none := by
  unfold portRead
  simp [h, n]

/-- A request's bytes, with any bytes after them, are decoded at their last as that request (R169, Table 11-1). -/
theorem portRead_requestBytes {c : Instr} {bytes : List Byte} (h : c.requestBytes = some bytes) (rest : List Byte) :
    portRead (bytes ++ rest) = some (c, bytes.length) := by
  cases c <;> cases h <;> first
    | exact portRead_whole (params := []) (by decide) rfl rest
    | exact portRead_whole (params := [_]) (by decide) rfl rest
    | exact portRead_whole (params := [_, _]) (by decide) rfl rest
    | exact portRead_whole (params := [_, _, _]) (by decide) rfl rest

/-- A raw change that is taken back before the stable time has passed leaves the qualified value (R91, R111). -/
theorem Qualifier.excursion {α : Type} [DecidableEq α] (q : Qualifier α) (hold : Nat) (raw : α) (t u : Nat)
    (settled : q.value = some q.raw) (short : u < t + hold) :
    ((q.change hold raw t).change hold q.raw u).value = q.value := by
  have keep : ∀ now, (q.settle hold now).value = q.value := by
    intro now
    unfold Qualifier.settle
    split
    · exact settled.symm
    · rfl
  unfold Qualifier.change
  by_cases h : raw = q.raw
  · have same : (q.settle hold t).raw = q.raw := by unfold Qualifier.settle; split <;> rfl
    rw [if_pos h, same, if_pos rfl]
    unfold Qualifier.settle
    repeat' split
    all_goals simp [settled]
  · rw [if_neg h, if_neg (Ne.symm h)]
    have early : ¬t + hold ≤ u := by omega
    simp only [Qualifier.settle, early, if_false]
    exact keep t

/-- A raw value held for the stable time is the qualified one (R91, R111). -/
theorem Qualifier.held {α : Type} [DecidableEq α] (q : Qualifier α) (hold now : Nat) (h : q.since + hold ≤ now) :
    (q.settle hold now).value = some q.raw := by simp [Qualifier.settle, h]

end Sys2Proof
end

