-- ==== Sys2Proof/Laws/Doors.lean ====
section
/-!
SUPPORT. Doors.lean: a change at one door that leaves its jam as it was is handed to no other block, and is no change of the
node-fault call's condition.
-/

namespace Sys2Proof.Machine

theorem State.door_lt {s : State} {d : Nat} (h : (s.door d).cfg.kind ≠ .unused) : d < s.doors.length := by
  by_contra hc
  apply h
  unfold State.door
  rw [List.getD_eq_getElem?_getD, List.getElem?_eq_none (by omega)]
  rfl

/-- The jams that the route unit reads. -/
theorem jams_setDoor {s : State} {d : Nat} {v : Door} (h : v.jammed = (s.door d).jammed) (n : Nat) :
    State.jams { s with now := n, doors := s.doors.set d v } = s.jams := by
  unfold State.jams
  apply List.ext_getElem?
  intro i
  simp only [List.getElem?_map, List.getElem?_set]
  by_cases hi : d = i
  · subst hi
    by_cases hl : d < s.doors.length
    · simp [hl, h, State.door, List.getD_eq_getElem?_getD]
    · simp [hl]
  · simp [hi]

theorem sameInputs_setDoor {s : State} {d : Nat} {v : Door} (h : v.jammed = (s.door d).jammed) (n : Nat) :
    SameInputs (s.setNow n) { s with now := n, doors := s.doors.set d v } :=
  ⟨rfl, rfl, rfl, rfl, rfl, rfl, rfl, rfl, jams_setDoor h n⟩

theorem hasFault_setDoor {s : State} {d : Nat} {v : Door} (h : v.jammed = (s.door d).jammed) (n : Nat) :
    State.hasFault { s with now := n, doors := s.doors.set d v } = s.hasFault := by
  have same := jams_setDoor h n
  unfold State.jams at same
  have asMap : ∀ l : List Door, l.any (·.jammed) = (l.map (·.jammed)).any id := by
    intro l
    simp [List.any_map]
  have any : (s.doors.set d v).any (·.jammed) = s.doors.any (·.jammed) := by
    rw [asMap, asMap, show (s.doors.set d v).map (·.jammed) = _ from same]
  simp only [State.hasFault, State.faultMembers, any]

/-- Such a change settles as it stands, at the time of a timer's expiry or at the present. -/
theorem settle_setDoorLate {s : State} {d : Nat} {v : Door} (h : v.jammed = (s.door d).jammed) (n : Nat) :
    settle (s.setNow n) { s with now := n, doors := s.doors.set d v } none [] = { s with now := n, doors := s.doors.set d v } :=
  settle_idle (sameInputs_setDoor h n) rfl (by rw [hasFault_setDoor h n]; exact id)

theorem settle_setDoor {s : State} {d : Nat} {v : Door} (h : v.jammed = (s.door d).jammed) :
    settle s { s with doors := s.doors.set d v } none [] = { s with doors := s.doors.set d v } :=
  settle_setDoorLate h s.now

theorem Door.driveAfresh_jammed (d : Door) (free : Bool) (now : Nat) : (d.driveAfresh free now).jammed = d.jammed := rfl

theorem Door.drive_jammed (d : Door) (free : Bool) (now : Nat) : (d.drive free now).jammed = d.jammed := by
  unfold Door.drive
  split <;> rfl

end Sys2Proof.Machine
end

