-- ==== Sys2Proof/Laws/Line.lean ====
section
/-!
SUPPORT. Laws/Line.lean: when a telegram is received (R46, R51, R61); offers change the transmit queue, its ages, QUEUE_DISCARD and the last STATE offered, and nothing else of the line
controller; the queue's bound and order (R54 to R56).
-/

namespace Sys2Proof.Machine

/-! ### Receiving -/

theorem State.receives_iff (s : State) : s.receives = true ↔ s.lc.sending = none ∧ s.lc.deaf = none := by
  simp [State.receives]

/-- R61: no start bit is received before the node has seen 11 recessive bits. -/
@[simp] theorem LineController.afterRestart_deaf : LineController.afterRestart.deaf = some 22 := rfl

/-- A telegram's most bits are not fewer than its fewest. -/
theorem telegramSpan_le (n : Nat) : (telegramSpan n).fewest ≤ (telegramSpan n).most := by
  simp only [telegramSpan, fieldBits]
  omega

@[simp] theorem telegramSpan_three : telegramSpan 3 = ⟨61, 75⟩ := rfl

@[simp] theorem telegramSpan_four : telegramSpan 4 = ⟨69, 85⟩ := rfl

@[simp] theorem discardSpan_bits : discardSpan = ⟨37, 158⟩ := rfl

@[simp] theorem errorSpan_bits : errorSpan = ⟨12, 185⟩ := rfl

/-! ### An idle -/

/-- Past the moment from which a start bit is received, an idle ends the deafness. -/
theorem State.idle_past {s : State} {hears : Nat} (d : s.lc.deaf = some hears) (h : hears ≤ s.now) :
    s.idle = { s with lc := { s.lc with deaf := none } } := by
  simp [State.idle, d, Option.filter, Nat.not_lt.2 h, State.setLc]

/-- Before that moment the node has not seen the idle itself (R61). -/
theorem State.idle_early {s : State} {hears : Nat} (d : s.lc.deaf = some hears) (h : s.now < hears) : s.idle = s := by
  have : s.lc.deaf.filter (s.now < ·) = s.lc.deaf := by simp [d, Option.filter, h]
  rw [State.idle, this]
  rfl

@[simp] theorem State.idle_awake (s : State) : s.idle.awake = s.awake := rfl

@[simp] theorem State.idle_sending (s : State) : s.idle.lc.sending = s.lc.sending := rfl

theorem State.idle_deaf {s : State} {hears : Nat} (d : s.lc.deaf = some hears) (h : hears ≤ s.now) :
    s.idle.lc.deaf = none := by rw [State.idle_past d h]

theorem State.idleChosen_past {s : State} {hears : Nat} (d : s.lc.deaf = some hears) (h : hears ≤ s.now) :
    s.idleChosen = { s with lc := { s.lc with deaf := none }, freeCount := s.freeCount + 1 } := by
  rw [State.idleChosen, State.idle_past d h]
  rfl

/-! What a telegram on the line brings, in the cases there are. -/

theorem State.reception_asleep {s : State} (h : s.awake = false) (span : Span) (brought : State → State) :
    s.reception span brought = .next s := by simp [State.reception, h]

theorem State.reception_sending {s : State} (h : s.lc.sending ≠ none) (span : Span) (brought : State → State) :
    s.reception span brought = .next s := by simp [State.reception, Option.isSome_iff_ne_none.2 h]

theorem State.reception_received {s : State} (a : s.awake = true) (h : s.receives = true) (span : Span)
    (brought : State → State) : s.reception span brought = .next (brought s) := by
  obtain ⟨n, d⟩ := s.receives_iff.1 h
  simp [State.reception, a, n, d]

/-- At a node that is not deaf, what brings nothing where it is received brings nothing at all. -/
theorem State.reception_nothing {s : State} (d : s.lc.deaf = none) {span : Span} {brought : State → State}
    (h : brought s = s) : s.reception span brought = .next s := by
  cases a : s.awake
  · exact State.reception_asleep a span brought
  · by_cases n : s.lc.sending = none
    · rw [State.reception_received a (s.receives_iff.2 ⟨n, d⟩), h]
    · exact State.reception_sending n span brought

/-- A telegram that began, at its longest, when a start bit is received again is received as at the idle before it (R41, R51, R61). -/
theorem State.reception_late {s : State} {hears : Nat} {span : Span} (a : s.awake = true) (n : s.lc.sending = none)
    (d : s.lc.deaf = some hears) (h : hears + span.most * Config.bitTime ≤ s.now) (brought : State → State) :
    s.reception span brought = s.idle.reception span brought := by
  have r : s.idle.receives = true := s.idle.receives_iff.2 ⟨n, State.idle_deaf d (by omega)⟩
  rw [State.reception_received (s := s.idle) a r]
  simp [State.reception, a, n, d, h]

/-- One that began, even at its shortest, before that is ignored (R51, R61). -/
theorem State.reception_early {s : State} {hears : Nat} {span : Span} (a : s.awake = true) (n : s.lc.sending = none)
    (d : s.lc.deaf = some hears) (l : span.fewest ≤ span.most) (h : s.now < hears + span.fewest * Config.bitTime)
    (brought : State → State) : s.reception span brought = .next s.idle := by
  have far : ¬hears + span.most * Config.bitTime ≤ s.now := by
    have := Nat.mul_le_mul_right Config.bitTime l
    omega
  simp [State.reception, a, n, d, h, far]

/-- Between the two it is one or the other, as a free value says (log 38). -/
theorem State.reception_between {s : State} {hears : Nat} {span : Span} (a : s.awake = true) (n : s.lc.sending = none)
    (d : s.lc.deaf = some hears) (l : hears + span.fewest * Config.bitTime ≤ s.now)
    (h : s.now < hears + span.most * Config.bitTime) (brought : State → State) :
    s.reception span brought =
      if Config.freeIdle s.freeCount then s.idleChosen.reception span brought else .next s.idleChosen := by
  have r : s.idleChosen.receives = true :=
    s.idleChosen.receives_iff.2 ⟨n, by rw [State.idleChosen_past d (by omega)]⟩
  rw [State.reception_received (s := s.idleChosen) a r]
  simp only [State.reception, a, n, d, Nat.not_le.2 h, Nat.not_lt.2 l]
  cases Config.freeIdle s.freeCount <;> rfl

/-- Everything a telegram on the line can do: nothing; what it brings where it is received; and at a deaf node the idle alone, or what it
brings past that idle. -/
theorem State.reception_cases {s t : State} {span : Span} {brought : State → State} (h : s.reception span brought = .next t) :
    t = s ∨ (s.awake = true ∧ s.receives = true ∧ t = brought s) ∨
      (s.awake = true ∧ s.lc.sending = none ∧ s.lc.deaf ≠ none ∧
        (t = s.idle ∨ t = s.idleChosen ∨ t = brought s.idle ∨ t = brought s.idleChosen)) := by
  cases a : s.awake
  · rw [State.reception_asleep a] at h; cases h; exact .inl rfl
  · by_cases n : s.lc.sending = none
    · cases d : s.lc.deaf with
      | none =>
        have r : s.receives = true := s.receives_iff.2 ⟨n, d⟩
        rw [State.reception_received a r] at h; cases h; exact .inr (.inl ⟨rfl, r, rfl⟩)
      | some hears =>
        refine .inr (.inr ⟨rfl, n, by simp, ?_⟩)
        simp only [State.reception, a, n, d] at h
        dsimp at h
        repeat' split at h
        all_goals cases h; simp
    · rw [State.reception_sending n] at h; cases h; exact .inl rfl

/-- After a collision the traffic whose start bit came before it is not received (R51). -/
theorem State.collide_deaf (s : State) : s.collide.lc.deaf = some s.now := by
  unfold State.collide
  dsimp only
  repeat' split
  all_goals rfl

/-- A node that begins to send is no longer deaf, and receives nothing until its telegram is off the line (R46, R51). -/
theorem LineController.begin_deaf {lc : LineController} (h : lc.queue ≠ []) (id : Nat) :
    (lc.begin id).deaf = none ∧ (lc.begin id).sending ≠ none := by
  unfold LineController.begin
  split <;> simp_all

/-! ### Offers made one after another -/

/-- Offers neither read nor change the last STATE offered and the refresh timer. -/
theorem LineController.offer_apart (lc : LineController) (o : Bool) (body : Payload) (cls : Nat)
    (last : Option StatePayload) (refresh : Timer) :
    ({ lc with lastState := last, refresh := refresh }.offer o body cls).1 =
      { (lc.offer o body cls).1 with lastState := last, refresh := refresh } := by
  unfold LineController.offer
  dsimp only
  repeat' split
  all_goals rfl

theorem LineController.offerAll_apart (lc : LineController) (l : List (Payload × Nat)) (last : Option StatePayload)
    (refresh : Timer) :
    LineController.offerAll { lc with lastState := last, refresh := refresh } l =
      { lc.offerAll l with lastState := last, refresh := refresh } := by
  induction l generalizing lc with
  | nil => rfl
  | cons o l ih =>
    unfold LineController.offerAll at ih ⊢
    rw [List.foldl_cons, List.foldl_cons, LineController.offer_apart, ih]

theorem LineController.offerAll_append (lc : LineController) (l m : List (Payload × Nat)) :
    lc.offerAll (l ++ m) = (lc.offerAll l).offerAll m := List.foldl_append

/-- Offers leave the line conditions, the timers and the telegram on the line. -/
theorem LineController.offer_keeps (lc : LineController) (o : Bool) (body : Payload) (cls : Nat) :
    ∃ queue nextAge discard,
      (lc.offer o body cls).1 = { lc with queue := queue, nextAge := nextAge, queueDiscard := discard } := by
  unfold LineController.offer
  split
  · exact ⟨lc.queue, lc.nextAge, lc.queueDiscard, rfl⟩
  · split
    · exact ⟨_, lc.nextAge, lc.queueDiscard, rfl⟩
    · dsimp only
      split
      · exact ⟨_, _, lc.queueDiscard, rfl⟩
      · split
        · split
          · exact ⟨_, _, _, rfl⟩
          · exact ⟨lc.queue, lc.nextAge, _, rfl⟩
        · exact ⟨lc.queue, lc.nextAge, _, rfl⟩

theorem LineController.offerAll_keeps (lc : LineController) (l : List (Payload × Nat)) :
    ∃ queue nextAge discard,
      lc.offerAll l = { lc with queue := queue, nextAge := nextAge, queueDiscard := discard } := by
  induction l generalizing lc with
  | nil => exact ⟨lc.queue, lc.nextAge, lc.queueDiscard, rfl⟩
  | cons o l ih =>
    obtain ⟨q, n, d, h⟩ := lc.offer_keeps true o.1 o.2
    obtain ⟨q', n', d', h'⟩ := ih (lc.offer true o.1 o.2).1
    refine ⟨q', n', d', ?_⟩
    unfold LineController.offerAll at h' ⊢
    rw [List.foldl_cons, h', h]

/-! ### What an offer leaves of the line controller -/

/-- From `a` to `b` only offers were made. -/
def LineOffers (a b : LineController) : Prop := ∃ offered last, b = { a.offerAll offered with lastState := last }

theorem LineOffers.refl (a : LineController) : LineOffers a a := ⟨[], a.lastState, rfl⟩

theorem LineOffers.trans {a b c : LineController} (h : LineOffers a b) (k : LineOffers b c) : LineOffers a c := by
  obtain ⟨x, l, rfl⟩ := h
  obtain ⟨y, m, rfl⟩ := k
  refine ⟨x ++ y, m, ?_⟩
  rw [LineController.offerAll_append]
  have := LineController.offerAll_apart (a.offerAll x) y l (a.offerAll x).refresh
  obtain ⟨q, n, d, hq⟩ := (a.offerAll x).offerAll_keeps y
  rw [show ({ a.offerAll x with lastState := l } : LineController) =
    { a.offerAll x with lastState := l, refresh := (a.offerAll x).refresh } from rfl, this, hq]

theorem LineController.offer_line (lc : LineController) (open_ : Bool) (body : Payload) (cls : Nat) :
    LineOffers lc (lc.offer open_ body cls).1 := by
  cases open_
  · exact .refl lc
  · exact ⟨[(body, cls)], (lc.offer true body cls).1.lastState, rfl⟩

theorem State.offer_line (s : State) (body : Payload) (cls : Nat) : LineOffers s.lc (s.offer body cls).1.lc :=
  s.lc.offer_line _ _ _

theorem State.offerState_line (s : State) (cls : Nat) : LineOffers s.lc (s.offerState cls).lc :=
  (s.offer_line (.state s.statePayload) cls).trans ⟨[], _, rfl⟩

theorem stateFollow_line (old s : State) : LineOffers s.lc (stateFollow old s).lc := by
  unfold stateFollow
  split
  · exact s.offerState_line _
  · exact .refl _

/-- At RUN entry the refresh timer is started too (R58). -/
theorem firstStateFollow_line (old s : State) :
    ∃ refresh, LineOffers { s.lc with refresh := refresh } (firstStateFollow old s).lc := by
  unfold firstStateFollow
  split
  · obtain ⟨x, l, h⟩ := s.offerState_line s.firstClass
    generalize s.offerState s.firstClass = u at h
    refine ⟨u.startRefresh.lc.refresh, x, l, ?_⟩
    generalize hr : u.startRefresh.lc.refresh = refresh
    have hu : u.startRefresh.lc = { u.lc with refresh := refresh } := by rw [← hr]; rfl
    have apart := LineController.offerAll_apart s.lc x s.lc.lastState refresh
    rw [hu, h, show ({ s.lc with refresh := refresh } : LineController) =
      { s.lc with lastState := s.lc.lastState, refresh := refresh } from rfl, apart]
  · exact ⟨s.lc.refresh, .refl _⟩

theorem State.announce_line (s : State) (src : Nat) : LineOffers s.lc (s.announce src).lc := by
  unfold State.announce
  split
  · exact .refl _
  · exact State.offer_line (s.setCall src _) _ _

theorem State.announceEach_line (l : List Nat) (s : State) : LineOffers s.lc (l.foldl State.announce s).lc := by
  induction l generalizing s with
  | nil => exact .refl _
  | cons k l ih => exact (s.announce_line k).trans (ih _)

theorem announceFollow_line (old s : State) (pressed : List Nat) :
    LineOffers s.lc (announceFollow old s pressed).lc := State.announceEach_line _ s

theorem State.doorAlarm_line (s : State) (src : Nat) (k : CallKind) (b : Nat) :
    LineOffers s.lc (s.doorAlarm src k b).lc := by
  unfold State.doorAlarm
  split
  · exact State.announce_line (s.raise src k b) src
  · dsimp only
    split
    · show LineOffers s.lc (State.reportIf _ _ _ _ _).lc
      obtain ⟨r, h⟩ := State.reportIf_changes (State.announce (s.setCall src _) src) _ .callReminder src _
      rw [h]; exact State.announce_line (s.setCall src _) src
    · obtain ⟨r, h⟩ := State.reportIf_changes (State.announce (s.setCall src _) src) _ .callReminder src _
      rw [h]; exact State.announce_line (s.setCall src _) src

/-- The follow-up of an event makes offers, and starts the refresh timer at RUN entry. -/
theorem settle_line (old s : State) (peer : Option Nat) (pressed : List Nat) :
    ∃ refresh, LineOffers { s.lc with refresh := refresh } (settle old s peer pressed).lc := by
  unfold settle
  dsimp only
  obtain ⟨v1, r1, h1⟩ := fireFollow_changes old s
  generalize fireFollow old s = s1 at h1 ⊢
  obtain ⟨_, _, _, _, h2⟩ := phaseFollow_changes old s1
  generalize phaseFollow old s1 = s2 at h2 ⊢
  obtain ⟨r3, h3⟩ := routeFollow_changes old s2
  generalize routeFollow old s2 = s3 at h3 ⊢
  obtain ⟨refresh, k4⟩ := firstStateFollow_line old s3
  generalize firstStateFollow old s3 = s4 at k4 ⊢
  obtain ⟨v5, r5, h5⟩ := latchFollow_changes old s4
  generalize latchFollow old s4 = s5 at h5 ⊢
  obtain ⟨v6, h6⟩ := doorsFollow_changes old s5
  generalize doorsFollow old s5 = s6 at h6 ⊢
  obtain ⟨v7, h7⟩ := callsFollow_changes old s6
  generalize callsFollow old s6 = s7 at h7 ⊢
  obtain ⟨v8, r8, n8, h8⟩ := signalsFollow_changes old s7
  generalize signalsFollow old s7 = s8 at h8 ⊢
  obtain ⟨v9, m9, q9, n9, h9⟩ := testFollow_changes old s8 peer
  generalize testFollow old s8 peer = s9 at h9 ⊢
  have k10 := stateFollow_line old s9
  generalize stateFollow old s9 = s10 at k10 ⊢
  obtain ⟨v11, n11, r11, h11⟩ := faultFollow_changes old s10
  generalize faultFollow old s10 = s11 at h11 ⊢
  have k12 := announceFollow_line old s11 pressed
  have e3 : s3.lc = s.lc := by subst h1 h2 h3; rfl
  have e9 : s9.lc = s4.lc := by subst h5 h6 h7 h8 h9; rfl
  have e11 : s11.lc = s10.lc := by subst h11; rfl
  rw [e3] at k4
  rw [e9] at k10
  rw [e11] at k12
  exact ⟨refresh, (k4.trans k10).trans k12⟩

/-! ### The transmit queue -/

theorem insertEntry_length (e : TxEntry) (q : List TxEntry) : (insertEntry e q).length = q.length + 1 := by
  induction q with
  | nil => rfl
  | cons x xs ih =>
    unfold insertEntry
    split
    · rfl
    · simp [ih]

theorem insertEntry_perm (e : TxEntry) (q : List TxEntry) : (insertEntry e q).Perm (e :: q) := by
  induction q with
  | nil => exact .refl _
  | cons x xs ih =>
    unfold insertEntry
    split
    · exact .refl _
    · exact (ih.cons x).trans (.swap e x xs)

theorem victim_mem {q : List TxEntry} {v : TxEntry} (h : victim q = some v) : v ∈ q := by
  induction q generalizing v with
  | nil => simp [victim] at h
  | cons e es ih =>
    unfold victim at h
    split at h
    · split at h <;> simp_all
    · rename_i w hw
      split at h
      · simp_all
      · cases h; exact List.mem_cons_of_mem _ (ih hw)

/-- An offer keeps the queue within eight entries (R54, R56). -/
theorem LineController.offer_length_le {lc : LineController} (h : lc.queue.length ≤ 8) (open_ : Bool) (body : Payload)
    (cls : Nat) : (lc.offer open_ body cls).1.queue.length ≤ 8 := by
  unfold LineController.offer
  split
  · exact h
  · split
    · rename_i e he
      rw [insertEntry_length, List.length_eraseP_of_mem (List.mem_of_find?_eq_some he) (List.find?_some he)]
      have := List.length_pos_of_mem (List.mem_of_find?_eq_some he)
      omega
    · dsimp only
      split
      · rw [insertEntry_length]; omega
      · split
        · rename_i v hv
          split
          · have := List.length_pos_of_mem (victim_mem hv)
            rw [insertEntry_length, List.length_eraseP_of_mem (victim_mem hv) (by simp)]
            omega
          · exact h
        · exact h

end Sys2Proof.Machine
end

