-- ==== Sys2Proof/Laws/Events.lean ====
section
/-!
SUPPORT. Laws/Events.lean: what the wrappers of the meanings answer (events, expiries, arrivals, requests), and what follows an event, in the words of
Safety.lean.
-/

namespace Sys2Proof.Machine

theorem State.awake_of_running {s : State} (h : s.running = true) : s.awake = true := by
  simp_all [State.awake, State.running]

/-! ### Events -/

theorem State.event_awake {s : State} (h : s.awake = true) (f : State → State) :
    s.event f = .next (settle s (f s) none []) := by simp [State.event, h]

theorem State.own_awake {s : State} (h : s.awake = true) (f : State → State) : s.own f = .next (f s) := by
  simp [State.own, h]

theorem State.eventAt_awake {s : State} (h : s.awake = true) (m : Nat) (f : State → State) :
    s.eventAt m f = .next (settle (s.reach m) (f (s.reach m)) none []) := by
  simp only [State.eventAt, h, if_true]
  exact State.event_awake (s := s.reach m) h f

theorem State.eventAt_asleep {s : State} (h : s.awake = false) (m : Nat) (f : State → State) :
    s.eventAt m f = .next s := by simp [State.eventAt, h]

theorem State.expiry_stopped {s : State} {t : Timer} (h : t = none) (f : State → State) : s.expiry t f = .next s := by
  rw [h]; rfl

theorem State.expiry_running {s : State} (h : s.awake = true) {t : Timer} {deadline : Nat} (ht : t = some deadline)
    (f : State → State) : s.expiry t f = .next (settle (s.reach deadline) (f (s.reach deadline)) none []) := by
  rw [ht]; exact State.eventAt_awake h deadline f

theorem State.expiry_asleep {s : State} (h : s.awake = false) (t : Timer) (f : State → State) :
    s.expiry t f = .next s := by
  cases t
  · rfl
  · exact State.eventAt_asleep h _ f

/-! ### Arrivals: what an arrival can answer -/

theorem State.arrival_missed {s : State} (h : s.lc.sending ≠ none) (src : BitVec 6) (body : Payload) :
    s.arrival src body = .next s := State.reception_sending h _ _

theorem State.arrival_late {s : State} {hears : Nat} {body : Payload} (a : s.awake = true) (n : s.lc.sending = none)
    (d : s.lc.deaf = some hears) (h : hears + (telegramSpan body.length).most * Config.bitTime ≤ s.now)
    (src : BitVec 6) : s.arrival src body = s.idle.arrival src body := State.reception_late a n d h _

theorem State.arrival_early {s : State} {hears : Nat} {body : Payload} (a : s.awake = true) (n : s.lc.sending = none)
    (d : s.lc.deaf = some hears) (h : s.now < hears + (telegramSpan body.length).fewest * Config.bitTime)
    (src : BitVec 6) : s.arrival src body = .next s.idle := State.reception_early a n d (telegramSpan_le _) h _

theorem State.arrival_between {s : State} {hears : Nat} {body : Payload} (a : s.awake = true) (n : s.lc.sending = none)
    (d : s.lc.deaf = some hears) (l : hears + (telegramSpan body.length).fewest * Config.bitTime ≤ s.now)
    (h : s.now < hears + (telegramSpan body.length).most * Config.bitTime) (src : BitVec 6) :
    s.arrival src body =
      if Config.freeIdle s.freeCount then s.idleChosen.arrival src body else .next s.idleChosen :=
  State.reception_between a n d l h _

theorem State.arrival_malformed {s : State} (d : s.lc.deaf = none) {src : BitVec 6} {body : Payload}
    (h : (wfSource src && body.wf) = false) : s.arrival src body = .next s :=
  State.reception_nothing d (by simp [h])

theorem State.arrival_duplicate {s : State} (a : s.awake = true) (r : s.receives = true) {src : BitVec 6} {body : Payload}
    (w : (wfSource src && body.wf) = true) (own : src.toNat = s.nodeId) :
    s.arrival src body = .next (settle s (s.noteDuplicate body.kindCode) none []) := by
  rw [State.arrival, State.reception_received a r]; simp [w, own]

theorem State.arrival_dispatched {s : State} (a : s.awake = true) (r : s.receives = true) {src : BitVec 6} {body : Payload}
    (w : (wfSource src && body.wf) = true) (other : src.toNat ≠ s.nodeId) :
    s.arrival src body = .next (settle s (s.dispatch src.toNat body) (s.testingPeer src.toNat body) []) := by
  rw [State.arrival, State.reception_received a r]; simp [w, other]

/-! ### Requests -/

theorem State.request_deaf {s : State} (h : s.listens = false) (k : RequestClass) (f : State → State × Response) :
    s.request k f = .next s := by simp [State.request, h]

theorem State.request_barred {s : State} (h : s.listens = true) {k : RequestClass} {r : Response}
    (b : s.portBar k = some r) (f : State → State × Response) : s.request k f = .next (s.respond r) := by
  simp [State.request, h, b]

theorem State.request_taken {s : State} (h : s.listens = true) {k : RequestClass} (b : s.portBar k = none)
    (f : State → State × Response) : s.request k f = .next ((f s).1.respond (f s).2) := by
  simp [State.request, h, b]

theorem State.portBar_change {s : State} (h : s.running = true) : s.portBar .change = none := by
  simp [State.portBar, h]

theorem State.portBar_before_run {s : State} (h : s.running = false) : s.portBar .change = some .errPhase := by
  simp [State.portBar, h]

theorem State.portBar_read {s : State} (h : s.awake = true) : s.portBar .statusRead = none := by
  simp [State.portBar, h]

theorem State.portBar_station {s : State} (h : s.running = true) (r : s.cl.node.role = .station) :
    s.portBar .stationChange = none := by simp [State.portBar, h, r]

/-! ### What follows -/

theorem State.pressEvent_awake {s : State} (h : s.awake = true) (p : Nat) :
    s.pressEvent p = .next (settle s ((s.qualifyPoint p true).pressPoint p) none [p]) := by simp [State.pressEvent, h]

theorem Consequent.refl (s : State) : Consequent s s :=
  ⟨s.cl.phase, s.cl.listen, s.ds.drift, s.ds.rate, s.fl, s.ru, [], s.lc.lastState, s.lc.refresh, s.nt.latch, s.doors,
    s.cc.calls, s.cc.serials, s.sd, s.dt, s.marker, [], s.freeCount, rfl⟩

theorem Consequent.trans {s t u : State} (h : Consequent s t) (k : Consequent t u) : Consequent s u := by
  obtain ⟨_, _, _, _, _, _, x, l, r, _, _, _, _, _, _, _, a, _, ht⟩ := h
  obtain ⟨ph, li, dr, ra, fl, ru, y, m, q, la, ds, cs, ns, sd, dt, mk, b, fc, hu⟩ := k
  have line : u.lc = { s.lc.offerAll (x ++ y) with lastState := m, refresh := q } := by
    rw [hu, ht, LineController.offerAll_append]
    dsimp only
    rw [LineController.offerAll_apart]
  have reports : u.ap.reports = List.foldl queueReport s.ap.reports (a ++ b) := by
    rw [hu, ht, List.foldl_append]
  refine ⟨ph, li, dr, ra, fl, ru, x ++ y, m, q, la, ds, cs, ns, sd, dt, mk, a ++ b, fc, ?_⟩
  rw [← line, ← reports, hu, ht]

theorem CallConsequent.refl (s : State) : CallConsequent s s :=
  ⟨s.cc.calls, s.cc.serials, [], s.lc.lastState, [], rfl⟩

theorem CallConsequent.trans {s t u : State} (h : CallConsequent s t) (k : CallConsequent t u) : CallConsequent s u := by
  obtain ⟨_, _, x, l, a, ht⟩ := h
  obtain ⟨cs, ns, y, m, b, hu⟩ := k
  obtain ⟨z, n, line⟩ : LineOffers s.lc u.lc := LineOffers.trans (b := t.lc) ⟨x, l, by rw [ht]⟩ ⟨y, m, by rw [hu]⟩
  have reports : u.ap.reports = List.foldl queueReport s.ap.reports (a ++ b) := by
    rw [hu, ht, List.foldl_append]
  refine ⟨cs, ns, z, n, a ++ b, ?_⟩
  rw [← line, ← reports, hu, ht]

theorem CallConsequent.consequent {s t : State} (h : CallConsequent s t) : Consequent s t := by
  obtain ⟨calls, serials, x, l, a, rfl⟩ := h
  obtain ⟨q, n, d, hq⟩ := s.lc.offerAll_keeps x
  refine ⟨s.cl.phase, s.cl.listen, s.ds.drift, s.ds.rate, s.fl, s.ru, x, l, s.lc.refresh, s.nt.latch, s.doors, calls,
    serials, s.sd, s.dt, s.marker, a, s.freeCount, ?_⟩
  rw [hq]

/-- New reports alone are among what can follow. -/
theorem CallConsequent.of_reports (s : State) {r : List Report} (h : Extends s.ap.reports r) :
    CallConsequent s { s with ap := { s.ap with reports := r } } := by
  obtain ⟨a, rfl⟩ := h
  exact ⟨s.cc.calls, s.cc.serials, [], s.lc.lastState, a, rfl⟩

theorem State.report_callConsequent (s : State) (k : ReportKind) (a b : Nat) : CallConsequent s (s.report k a b) :=
  .of_reports s (s.report_extends k a b)

theorem State.reportIf_callConsequent (s : State) (c : Bool) (k : ReportKind) (a b : Nat) :
    CallConsequent s (s.reportIf c k a b) := by
  cases c
  · exact .refl s
  · exact s.report_callConsequent k a b

theorem settle_consequent (old s : State) (peer : Option Nat) (pressed : List Nat) :
    Consequent s (settle old s peer pressed) := by
  obtain ⟨refresh, x, l, hl⟩ := settle_line old s peer pressed
  obtain ⟨a, ha⟩ := settle_extends old s peer pressed
  obtain ⟨v1, r1, h1⟩ := fireFollow_changes old s
  obtain ⟨p1, p2, p3, p4, h2⟩ := phaseFollow_changes old (fireFollow old s)
  obtain ⟨lc, _, _, _, _, _, _, _, rp, _, h⟩ := settle_changes old s peer pressed
  have hlc : lc = (settle old s peer pressed).lc := by rw [h]
  have hrp : rp = (settle old s peer pressed).ap.reports := by rw [h]
  rw [show ({ s.lc with refresh := refresh } : LineController) =
    { s.lc with lastState := s.lc.lastState, refresh := refresh } from rfl, LineController.offerAll_apart] at hl
  rw [h, hlc, hl, hrp, ha, h2, h1]
  exact ⟨_, _, _, _, _, _, _, _, _, _, _, _, _, _, _, _, _, _, rfl⟩

/-- A press, and with it the node-fault transition, changes calls and reports alone. -/
theorem State.press_callConsequent (s : State) (src : Nat) (k : CallKind) (b : Nat) :
    CallConsequent s (s.press src k b) := by
  obtain ⟨a, ha⟩ := s.press_extends src k b
  obtain ⟨v, m, r, h⟩ := s.press_changes src k b
  have : r = (s.press src k b).ap.reports := by rw [h]
  rw [h, this, ha]
  exact ⟨v, m, [], s.lc.lastState, a, rfl⟩

theorem State.doorAlarm_callConsequent (s : State) (src : Nat) (k : CallKind) (b : Nat) :
    CallConsequent s (s.doorAlarm src k b) := by
  obtain ⟨x, l, hl⟩ := s.doorAlarm_line src k b
  obtain ⟨a, ha⟩ := s.doorAlarm_extends src k b
  obtain ⟨v, m, w, r, h⟩ := s.doorAlarm_changes src k b
  have hw : w = (s.doorAlarm src k b).lc := by rw [h]
  have hr : r = (s.doorAlarm src k b).ap.reports := by rw [h]
  rw [h, hw, hl, hr, ha]
  exact ⟨_, _, _, _, _, rfl⟩

theorem faultFollow_callConsequent (old s : State) : CallConsequent s (faultFollow old s) := by
  unfold faultFollow
  split
  · exact s.press_callConsequent _ _ _
  · exact .refl s

theorem stateFollow_callConsequent (old s : State) : CallConsequent s (stateFollow old s) := by
  obtain ⟨x, l, hl⟩ := stateFollow_line old s
  obtain ⟨v, h⟩ := stateFollow_changes old s
  have : v = (stateFollow old s).lc := by rw [h]
  rw [h, this, hl]
  exact ⟨s.cc.calls, s.cc.serials, x, l, [], rfl⟩

theorem announceFollow_callConsequent (old s : State) (pressed : List Nat) :
    CallConsequent s (announceFollow old s pressed) := by
  obtain ⟨x, l, hl⟩ := announceFollow_line old s pressed
  obtain ⟨v, w, h⟩ := announceFollow_changes old s pressed
  have : w = (announceFollow old s pressed).lc := by rw [h]
  rw [h, this, hl]
  exact ⟨v, s.cc.serials, x, l, [], rfl⟩

/-- An event that changes nothing the other blocks read but the test's state or a fault member: calls, offers, reports. -/
theorem settle_callConsequent {s t : State} (h : SameInputs s t) : CallConsequent t (settle s t none []) := by
  rw [settle_steady h]
  exact ((stateFollow_callConsequent s t).trans (faultFollow_callConsequent s _)).trans
    (announceFollow_callConsequent s _ [])

/-- The fault summary reads nothing that calls, offers and reports are. -/
theorem CallConsequent.hasFault {s t : State} (h : CallConsequent s t) : t.hasFault = s.hasFault := by
  obtain ⟨_, _, x, _, _, rfl⟩ := h
  obtain ⟨q, n, d, hq⟩ := s.lc.offerAll_keeps x
  rw [hq]
  rfl

/-- A response answered to a request comes after what follows it. -/
theorem Consequent.respond {s t : State} (h : Consequent s t) (r : Response) : Consequent (s.respond r) (t.respond r) := by
  obtain ⟨_, _, _, _, _, _, _, _, _, _, _, _, _, _, _, _, _, _, rfl⟩ := h
  exact ⟨_, _, _, _, _, _, _, _, _, _, _, _, _, _, _, _, _, _, rfl⟩

theorem CallConsequent.respond {s t : State} (h : CallConsequent s t) (r : Response) :
    CallConsequent (s.respond r) (t.respond r) := by
  obtain ⟨_, _, _, _, _, rfl⟩ := h
  exact ⟨_, _, _, _, _, rfl⟩

end Sys2Proof.Machine
end

