-- ==== Sys2Proof/Laws/PerInstr.lean ====
section
/-!
SUPPORT. PerInstr.lean: the statement made of every command, constructor by constructor: what it brings from the line.
-/

namespace Sys2Proof.Laws.Shape

/-- The source id and payload of the telegram that an arrival brings. -/
def brings : Instr → Option (BitVec 6 × Payload)
  | .stateArrival src p => some (src, .state p)
  | .callArrival src p => some (src, .call p)
  | .clearArrival src p => some (src, .clear p)
  | .clearRequestArrival src p => some (src, .clear p)
  | .takeArrival src p => some (src, .take p)
  | .giveupArrival src p => some (src, .giveup p)
  | .orderModeDay src target => some (src, .order ⟨0, target, 0⟩)
  | .orderModeNight src target => some (src, .order ⟨1, target, 0⟩)
  | .orderEvacuateOn src target => some (src, .order ⟨2, target, 0⟩)
  | .orderEvacuateOff src target => some (src, .order ⟨3, target, 0⟩)
  | .orderSilence src target => some (src, .order ⟨4, target, 0⟩)
  | .orderFireReset src target => some (src, .order ⟨5, target, 0⟩)
  | .orderDoorPulse src target door => some (src, .order ⟨6, target, door⟩)
  | _ => none

/-- A command that brings a telegram is an event of the line; a well-formed one brings a well-formed telegram (R44). -/
def Statement (i : Instr) : Prop :=
  ∀ src body cls, brings i = some (src, body) →
    Machine.commandGroup i = .event ∧ (i.wf = true → Telegram.wf ⟨cls, src, body⟩ = true)

/-- A command that brings none. -/
theorem of_none {i : Instr} (h : brings i = none) : Statement i := fun _ _ _ g => by
  rw [h] at g
  cases g

/-- A command that brings one. -/
theorem of_some {i : Instr} {src : BitVec 6} {body : Payload} (h : brings i = some (src, body))
    (e : Machine.commandGroup i = .event) (w : i.wf = true → (wfSource src && body.wf) = true) : Statement i :=
  fun s b _ g => by
    rw [h] at g
    cases g
    exact ⟨e, w⟩

theorem powerUp : Statement .powerUp := of_none rfl
theorem resetPin : Statement .resetPin := of_none rfl
theorem configReadComplete (bytes : List Byte) (strap : Mode) : Statement (.configReadComplete bytes strap) := of_none rfl
theorem listenTimerExpiry : Statement .listenTimerExpiry := of_none rfl
theorem transactionEnd : Statement .transactionEnd := of_none rfl
theorem unknownRequest (code len : Byte) : Statement (.unknownRequest code len) := of_none rfl
theorem readNode : Statement .readNode := of_none rfl
theorem readChannel (c : Byte) : Statement (.readChannel c) := of_none rfl
theorem readDoor (d : Byte) : Statement (.readDoor d) := of_none rfl
theorem readCall (source : Byte) : Statement (.readCall source) := of_none rfl
theorem readNeighbour (slot : Byte) : Statement (.readNeighbour slot) := of_none rfl
theorem readRoute : Statement .readRoute := of_none rfl
theorem readSignals : Statement .readSignals := of_none rfl
theorem readTest : Statement .readTest := of_none rfl
theorem listRead (pos : Byte) : Statement (.listRead pos) := of_none rfl
theorem readReport : Statement .readReport := of_none rfl
theorem take (origin source : Byte) : Statement (.take origin source) := of_none rfl
theorem giveup (origin source : Byte) : Statement (.giveup origin source) := of_none rfl
theorem clear (origin source : Byte) : Statement (.clear origin source) := of_none rfl
theorem order (code target door : Byte) : Statement (.order code target door) := of_none rfl
theorem fireReset : Statement .fireReset := of_none rfl
theorem isolate (c : Byte) : Statement (.isolate c) := of_none rfl
theorem restore (c : Byte) : Statement (.restore c) := of_none rfl
theorem walkStart (min : Byte) : Statement (.walkStart min) := of_none rfl
theorem walkStop : Statement .walkStop := of_none rfl
theorem doorPulse (d : Byte) : Statement (.doorPulse d) := of_none rfl
theorem lampClear : Statement .lampClear := of_none rfl
theorem lampCheck : Statement .lampCheck := of_none rfl
theorem testStart (min : Byte) : Statement (.testStart min) := of_none rfl
theorem testSuspend : Statement .testSuspend := of_none rfl
theorem testResume : Statement .testResume := of_none rfl
theorem testAbort : Statement .testAbort := of_none rfl
theorem restart : Statement .restart := of_none rfl
theorem sampleArrival (c : Fin 16) (code : BitVec 10) (odd : Bool) : Statement (.sampleArrival c code odd) := of_none rfl
theorem oddSlotGrant : Statement .oddSlotGrant := of_none rfl
theorem driftTimerExpiry : Statement .driftTimerExpiry := of_none rfl
theorem rateTimerExpiry : Statement .rateTimerExpiry := of_none rfl
theorem holdTimerExpiry (c : Fin 16) : Statement (.holdTimerExpiry c) := of_none rfl
theorem confirmDelayExpiry : Statement .confirmDelayExpiry := of_none rfl
theorem walkDurationExpiry : Statement .walkDurationExpiry := of_none rfl
theorem contend : Statement .contend := of_none rfl
theorem loss : Statement .loss := of_none rfl
theorem lineCollision : Statement .lineCollision := of_none rfl
theorem transmissionCompletion : Statement .transmissionCompletion := of_none rfl
theorem stuckPeriodStart : Statement .stuckPeriodStart := of_none rfl
theorem stuckPeriodEnd : Statement .stuckPeriodEnd := of_none rfl
theorem stuckClearTimerExpiry : Statement .stuckClearTimerExpiry := of_none rfl
theorem checkError (why : CheckErrorCause) : Statement (.checkError why) := of_none rfl
theorem noiseWindowAgeOut : Statement .noiseWindowAgeOut := of_none rfl
theorem telegramDiscarded (why : DiscardCause) : Statement (.telegramDiscarded why) := of_none rfl
theorem duplicateId (kind : TelegramKind) : Statement (.duplicateId kind) := of_none rfl
theorem stateArrival (src : BitVec 6) (p : StatePayload) : Statement (.stateArrival src p) := of_some rfl rfl id
theorem callArrival (src : BitVec 6) (p : CallPayload) : Statement (.callArrival src p) := of_some rfl rfl id
theorem clearArrival (src : BitVec 6) (p : ClearPayload) : Statement (.clearArrival src p) := of_some rfl rfl fun h => (Bool.and_eq_true_iff.mp h).1
theorem clearRequestArrival (src : BitVec 6) (p : ClearPayload) : Statement (.clearRequestArrival src p) := of_some rfl rfl fun h => (Bool.and_eq_true_iff.mp h).1
theorem takeArrival (src : BitVec 6) (p : RefPayload) : Statement (.takeArrival src p) := of_some rfl rfl id
theorem giveupArrival (src : BitVec 6) (p : RefPayload) : Statement (.giveupArrival src p) := of_some rfl rfl id
theorem orderModeDay (src : BitVec 6) (target : Byte) : Statement (.orderModeDay src target) := of_some rfl rfl id
theorem orderModeNight (src : BitVec 6) (target : Byte) : Statement (.orderModeNight src target) := of_some rfl rfl id
theorem orderEvacuateOn (src : BitVec 6) (target : Byte) : Statement (.orderEvacuateOn src target) := of_some rfl rfl id
theorem orderEvacuateOff (src : BitVec 6) (target : Byte) : Statement (.orderEvacuateOff src target) := of_some rfl rfl id
theorem orderSilence (src : BitVec 6) (target : Byte) : Statement (.orderSilence src target) := of_some rfl rfl id
theorem orderFireReset (src : BitVec 6) (target : Byte) : Statement (.orderFireReset src target) := of_some rfl rfl id
theorem orderDoorPulse (src : BitVec 6) (target door : Byte) : Statement (.orderDoorPulse src target door) := of_some rfl rfl id
theorem refreshTimerExpiry : Statement .refreshTimerExpiry := of_none rfl
theorem freshnessDeadlineExpiry (slot : Fin 8) : Statement (.freshnessDeadlineExpiry slot) := of_none rfl
theorem contactFirstQualified (d : Fin 8) (value : Contact) : Statement (.contactFirstQualified d value) := of_none rfl
theorem feedbackFirstQualified (d : Fin 8) (value : Lock) : Statement (.feedbackFirstQualified d value) := of_none rfl
theorem doorOpening (d : Fin 8) : Statement (.doorOpening d) := of_none rfl
theorem doorShutting (d : Fin 8) : Statement (.doorShutting d) := of_none rfl
theorem feedbackChange (d : Fin 8) (value : Lock) : Statement (.feedbackChange d value) := of_none rfl
theorem rexPress (d : Fin 8) : Statement (.rexPress d) := of_none rfl
theorem accessPulseExpiry (d : Fin 8) : Statement (.accessPulseExpiry d) := of_none rfl
theorem openTimerExpiry (d : Fin 8) : Statement (.openTimerExpiry d) := of_none rfl
theorem jamComparisonExpiry (d : Fin 8) : Statement (.jamComparisonExpiry d) := of_none rfl
theorem callPointPress (p : Fin 8) : Statement (.callPointPress p) := of_none rfl
theorem firePointLevelChange (p : Fin 8) (active : Bool) : Statement (.firePointLevelChange p active) := of_none rfl
theorem attendantKeyTurn : Statement .attendantKeyTurn := of_none rfl
theorem unansweredTimerExpiry (source : Fin 17) : Statement (.unansweredTimerExpiry source) := of_none rfl
theorem attendTimerExpiry (source : Fin 17) : Statement (.attendTimerExpiry source) := of_none rfl
theorem reannounceTimerExpiry (source : Fin 17) : Statement (.reannounceTimerExpiry source) := of_none rfl
theorem entryExpiry (origin : BitVec 6) (source : Fin 17) : Statement (.entryExpiry origin source) := of_none rfl
theorem takeTimeoutExpiry (origin : BitVec 6) (source : Fin 17) : Statement (.takeTimeoutExpiry origin source) := of_none rfl
theorem signStepExpiry (sense : BitVec 4) : Statement (.signStepExpiry sense) := of_none rfl
theorem stripStepExpiry (k : Fin 2) (sense : BitVec 32) : Statement (.stripStepExpiry k sense) := of_none rfl
theorem cadenceTimerExpiry : Statement .cadenceTimerExpiry := of_none rfl
theorem minuteTimerExpiry : Statement .minuteTimerExpiry := of_none rfl
theorem batteryLowChange (low : Bool) : Statement (.batteryLowChange low) := of_none rfl
theorem suspendTimerExpiry : Statement .suspendTimerExpiry := of_none rfl
theorem resetPinAsserted : Statement .resetPinAsserted := of_none rfl
theorem transactionBegin : Statement .transactionBegin := of_none rfl

end Sys2Proof.Laws.Shape
end

