-- ==== Sys2Proof/Tests/Slice0.lean ====
section
/-!
SUPPORT. Slice0.lean: tests. Ill-formed terms that the check refuses; one step of each command on a small bench, most of them rows of
the spec's worked sequences; and, for every statement of Obligations.lean with premises, states and operands that meet them.
-/

namespace Sys2Proof.Machine

set_option Elab.async false

/-! ### The bench -/

/-- The state after a command that completes. -/
def after (c : Instr) (s : State) : State :=
  match exec c s with
  | .next t => t
  | _ => s

/-- The state after a step that completes. -/
def stepped (s : State) : State :=
  match step s with
  | .next t => t
  | _ => s

/-- The reports in the queue, without their times and marks. -/
def State.reported (s : State) : List (ReportKind × Nat × Nat) :=
  s.ap.reports.map fun r => (r.kind, r.subject.toNat, r.value.toNat)

/-- A node in RUN with nothing configured, the line seen idle, a transaction begun. -/
def bare (id : Nat) (role : Role) : State :=
  { State.reset with
    cl := { State.reset.cl with
      phase := .run, node := { State.reset.cl.node with id := id, role := role, h := 2, v := 3, tc := 60 } }
    lc := { State.reset.lc with deaf := none }
    ap := ⟨.begun, [], []⟩ }

def withChannel (c : Nat) (v : Channel) (s : State) : State := s.setChannel c v
def withSlot (k : Nat) (v : Slot) (s : State) : State := s.setSlot k v
def withDoor (d : Nat) (v : Door) (s : State) : State := s.setDoor d v
def withPoint (p : Nat) (v : Point) (s : State) : State := s.setPoint p v
def withCall (i : Nat) (v : Call) (s : State) : State := s.setCall i (some v)
def withList (v : List Entry) (s : State) : State := s.setAl v
def withSign (n : Nat) (v : Sign) (s : State) : State := s.setSign n v
def withStrip (k : Nat) (v : Strip) (s : State) : State := s.setStrip k v
def withQueue (v : List TxEntry) (s : State) : State := s.setLc { s.lc with queue := v }
def atSecond (n : Nat) (s : State) : State := s.setNow (n * Config.second)
def inMode (m : Mode) (s : State) : State := s.setNt { s.nt with mode := m }
def inGallery (g : FireState) (s : State) : State := s.setFl { s.fl with gallery := g }
def inPhase (p : Phase) (s : State) : State := s.setCl { s.cl with phase := p }
def atPort (p : Port) (s : State) : State := s.setAp { s.ap with port := p }

/-- The route record as a computation finds it. -/
def routed (s : State) : State := s.setRu s.computedRoute

/-- The channel of section 1.11.1, its threshold pair the same by day. -/
def smoke (st : ChannelState) (m4 verify : Nat) : Channel :=
  { Channel.afterRestart ⟨.smoke, 40, 400, 20, 40, 20, 40, 0, 0⟩ with
    state := st, b := 120, m4 := m4, verify := verify, settled := true }

/-- The channel of section 1.11.2. -/
def heat (m4 : Nat) : Channel :=
  { Channel.afterRestart ⟨.heat, 0, 0, 0, 0, 0, 0, 58, 8⟩ with
    state := .normal, m4 := m4, settled := true, ring := [420, 428, 437, 446, 455, 464, 472, 480] }

/-- A fresh neighbour with f and x at 15. -/
def near (id : Nat) : Slot := { Slot.afterRestart id none 1 with presence := .fresh, h := some 2, deadline := some 600000 }

/-- A used door with lock feedback and remote pulses. -/
def doorOf (kind : DoorKind) (st : DoorState) (contact : Contact) (at_ : Lock) : Door :=
  { Door.idle ⟨kind, false, true, true, 8, 30⟩ with state := st, contact := some contact, feedback := some at_, lock := at_ }

def callOf (kind : CallKind) (priority serial taker : Nat) : Call :=
  ⟨kind, priority, priority, priority, serial, taker, false, false, if taker = 0 then some 6000000 else none,
    if taker = 0 then none else some 60000000, some 1600000⟩

def entryOf (origin source priority : Nat) (st : EntryState) (inserted : Nat) : Entry :=
  ⟨origin, source, .help, priority, 1, st, if st = .mine then 20 else if st = .others then 9 else 0, false, false, inserted,
    some 10000000, if st = .taking then some 500000 else none⟩

def txOf (body : Payload) (cls age : Nat) (onLine : Bool) : TxEntry := ⟨body, cls, age, 0, onLine, false⟩

def stateOf (g : FireState) (f x : BitVec 4) : StatePayload := ⟨f, x, g, .gallery, false, 2, .day, false⟩

def stateBody : Payload := .state (stateOf .quiet 15 15)

def callBody (source : BitVec 5) : Payload := .call ⟨source, 0, 1, 2, false, false, false, 0⟩

/-- A gallery by day, quiet, in step with its inputs: two channels, two neighbours, an EXIT, a STAFF and a magnet door, a HELP
and a FIRE point, a sign. -/
def gallery : State :=
  routed <| withChannel 6 (smoke .normal 480 0) <| withChannel 9 (heat 1946) <| withSlot 0 (near 5) <| withSlot 3 (near 9) <|
  withDoor 0 (doorOf .exit .shutFree .shut .free) <| withDoor 1 (doorOf .staff .shutLocked .shut .lock) <|
  withDoor 2 { doorOf .gallery .openFree .opened .free with cfg := ⟨.gallery, true, false, false, 8, 30⟩, feedback := none, magnet := .hold } <|
  withPoint 0 ⟨.help, false, 2, some false⟩ <| withPoint 1 ⟨.fire, true, 0, some false⟩ <|
  withSign 0 (Sign.afterRestart true .ahead (List.replicate 9 .left)) (bare 20 .gallery)

/-- The gallery with a strip whose latch is as given. -/
def striped (latch : Option Nat) : State :=
  withStrip 0 { Strip.afterRestart 10 2 5 4 0 (List.replicate 9 .forward) with latch := latch } gallery

/-- A station with three entries. -/
def station : State :=
  withList [entryOf 3 2 1 .opened 10, entryOf 4 0 2 .mine 5, entryOf 4 1 3 .taking 5] (bare 20 .station)

theorem gallery_shaped : gallery.Shaped := by constructor <;> decide +kernel

theorem station_shaped : station.Shaped := by constructor <;> decide +kernel

theorem gallery_bounded : gallery.Bounded := by constructor <;> decide +kernel

theorem station_bounded : station.Bounded := by constructor <;> decide +kernel

/-- A change of one record keeps the lengths. -/
theorem shaped_setChannel {s : State} (h : s.Shaped) (c : Nat) (v : Channel) : (withChannel c v s).Shaped :=
  { h with channels := by simp [withChannel, State.setChannel, State.setDs, h.channels] }

theorem shaped_setDoor {s : State} (h : s.Shaped) (d : Nat) (v : Door) : (withDoor d v s).Shaped :=
  { h with doors := by simp [withDoor, State.setDoor, State.setDoors, h.doors] }

theorem shaped_setSlot {s : State} (h : s.Shaped) (k : Nat) (v : Slot) : (withSlot k v s).Shaped :=
  { h with slots := by simp [withSlot, State.setSlot, State.setNt, h.slots] }

theorem shaped_setCall {s : State} (h : s.Shaped) (i : Nat) (v : Call) (le : v.base ≤ 3 ∧ v.escalated ≤ 3 ∧ v.current ≤ 3) :
    (withCall i v s).Shaped :=
  { h with
    calls := by simp [withCall, State.setCall, State.setCc, h.calls]
    priorities := fun place mem c is => by
      rcases List.mem_or_eq_of_mem_set mem with old | new
      · exact h.priorities place old c is
      · subst new; cases is; exact le }

theorem shaped_setPoint {s : State} (h : s.Shaped) (p : Nat) (v : Point) (le : v.priority ≤ 3) : (withPoint p v s).Shaped :=
  { h with
    points := by simp [withPoint, State.setPoint, State.setCc, h.points]
    pointPriorities := fun x mem used => by
      rcases List.mem_or_eq_of_mem_set mem with old | new
      · exact h.pointPriorities x old used
      · subst new; exact le }

theorem shaped_setStrip {s : State} (h : s.Shaped) (k : Nat) (v : Strip) : (withStrip k v s).Shaped :=
  { h with strips := by simp [withStrip, State.setStrip, State.setSd, h.strips] }

/-! ### Ill-formed terms are refused, one for each check -/

theorem test_wf_source :
    wfSource 0 = false ∧ wfSource 63 = false ∧ wfSource 1 = true ∧ wfSource 62 = true := by decide

theorem test_wf_state : (stateOf .quiet 15 15).wf = true ∧ StatePayload.wf { stateOf .quiet 15 15 with h := 0 } = false ∧
    StatePayload.wf { stateOf .quiet 15 15 with h := 9 } = false ∧
    Instr.wf (.stateArrival 63 (stateOf .quiet 15 15)) = false := by decide

theorem test_wf_call :
    let p : CallPayload := ⟨16, 5, 15, 3, true, true, true, 62⟩
    p.wf = true ∧ CallPayload.wf { p with source := 17 } = false ∧ CallPayload.wf { p with kind := 6 } = false ∧
      CallPayload.wf { p with taker := 63 } = false ∧ CallPayload.wf { p with taker := 0 } = false ∧
      CallPayload.wf { p with taken := false } = false ∧ Instr.wf (.callArrival 0 p) = false := by decide

theorem test_wf_take_giveup :
    let p : RefPayload := ⟨62, 16, 15⟩
    p.wf = true ∧ RefPayload.wf { p with origin := 0 } = false ∧ RefPayload.wf { p with origin := 63 } = false ∧
      RefPayload.wf { p with source := 17 } = false ∧ RefPayload.wf { p with serial := 16 } = false ∧
      Instr.wf (.takeArrival 0 p) = false ∧ Instr.wf (.giveupArrival 0 p) = false := by decide

theorem test_wf_clear :
    let p : ClearPayload := ⟨62, 16, 15, 62⟩
    p.wf = true ∧ ClearPayload.wf { p with origin := 0 } = false ∧ ClearPayload.wf { p with origin := 63 } = false ∧
      ClearPayload.wf { p with source := 17 } = false ∧ ClearPayload.wf { p with serial := 16 } = false ∧
      ClearPayload.wf { p with clearedBy := 63 } = false ∧ Instr.wf (.clearArrival 62 p) = true ∧
      Instr.wf (.clearArrival 61 p) = false ∧ Instr.wf (.clearRequestArrival 61 p) = true ∧
      Instr.wf (.clearRequestArrival 62 p) = false := by decide

theorem test_wf_order :
    let p : OrderPayload := ⟨6, 63, 7⟩
    p.wf = true ∧ OrderPayload.wf { p with code := 7 } = false ∧ OrderPayload.wf { p with target := 0 } = false ∧
      OrderPayload.wf { p with target := 64 } = false ∧ OrderPayload.wf { p with door := 8 } = false ∧
      OrderPayload.wf ⟨5, 63, 8⟩ = true ∧ Instr.wf (.orderDoorPulse 3 63 8) = false ∧
      Instr.wf (.orderModeDay 3 0) = false ∧ Instr.wf (.orderModeNight 0 1) = false ∧
      Instr.wf (.orderEvacuateOn 3 64) = false ∧ Instr.wf (.orderEvacuateOff 63 1) = false ∧
      Instr.wf (.orderSilence 3 0) = false ∧ Instr.wf (.orderFireReset 0 63) = false := by decide

theorem test_wf_operands :
    Instr.wf (.configReadComplete (List.replicate 256 0) .day) = true ∧
      Instr.wf (.configReadComplete (List.replicate 257 0) .day) = false ∧ Instr.wf (.unknownRequest 0x01 0) = false ∧
      Instr.wf (.unknownRequest 0x01 1) = true ∧ Instr.wf (.unknownRequest 0x99 0) = true ∧
      Instr.wf (.entryExpiry 0 3) = false ∧ Instr.wf (.takeTimeoutExpiry 63 3) = false := by decide +kernel

/-! ### One step of each command -/

/-- Section 1.11.1, row by row: the sample, the filter value before, the record after. -/
theorem test_sample_arrival :
    let run (st : ChannelState) (m4 verify : Nat) (code : BitVec 10) : Channel :=
      (after (.sampleArrival 6 code false) (withChannel 6 (smoke st m4 verify) gallery)).channel 6
    ((run .normal 480 0 170).m4, (run .normal 480 0 170).state) = (530, .normal) ∧
      ((run .normal 530 0 190).m4, (run .normal 530 0 190).state) = (588, .prealarm) ∧
      ((run .prealarm 588 0 200).m4, (run .prealarm 588 0 200).state, (run .prealarm 588 0 200).verify) = (641, .verify, 3) ∧
      ((run .verify 641 3 205).m4, (run .verify 641 3 205).verify) = (686, 2) ∧
      ((run .verify 641 1 150).m4, (run .verify 641 1 150).verify) = (631, 3) ∧
      ((run .verify 641 1 6).m4, (run .verify 641 1 6).state) = (641, .fault) ∧
      ((run .verify 725 1 210).m4, (run .verify 725 1 210).state) = (754, .alarm) := by
  decide +kernel

/-- Section 1.11.2: a rise of 66 codes meets the rate alarm; the burst's end is reported with d 68 (section 1.11.1). -/
theorem test_sample_arrival_reports :
    ((after (.sampleArrival 9 486 false) gallery).channel 9).state = .verify ∧
      (after (.sampleArrival 6 210 false) (withChannel 6 (smoke .verify 725 1) gallery)).reported =
        [(.channelAlarm, 6, 68), (.galleryState, 0, 2)] := by
  decide +kernel

/-- Section 1.2.1, at odd slots 40:25 and 41:09. -/
theorem test_odd_slot_grant :
    let waiting (slot : Nat) : Channel := { smoke .verify 1600 15 with lastOdd := slot * Config.slot }
    let at_ (slot : Nat) (s : State) : State := s.setDs { s.ds with nextSlot := slot }
    (after .oddSlotGrant (at_ 1305 (withChannel 5 (waiting 1303) (withChannel 11 (waiting 1302) gallery)))).ds.grant =
        some (11, 1305) ∧
      (after .oddSlotGrant
        (at_ 1321 (withChannel 5 (waiting 1319) (withChannel 11 (waiting 1317) (withChannel 2 (waiting 1316) gallery))))).ds.grant =
        some (2, 1321) := by
  decide +kernel

theorem test_drift_timer_expiry :
    let s := gallery.setDs { gallery.ds with drift := some 100 }
    ((after .driftTimerExpiry (withChannel 6 (smoke .normal 484 0) s)).channel 6).b = 121 ∧
      ((after .driftTimerExpiry (withChannel 6 (smoke .verify 484 3) s)).channel 6).b = 120 ∧
      (after .driftTimerExpiry s).ds.drift = some (100 + 10 * Config.minute) := by
  decide +kernel

/-- Section 1.11.2: the ring gives up its oldest value. -/
theorem test_rate_timer_expiry :
    ((after .rateTimerExpiry (gallery.setDs { gallery.ds with rate := some 100 })).channel 9).ring =
      [428, 437, 446, 455, 464, 472, 480, 486] := by
  decide +kernel

theorem test_hold_timer_expiry :
    ((after (.holdTimerExpiry 6) (withChannel 6 { smoke .prealarm 480 0 with hold := some 5 } gallery)).channel 6).state =
      .normal := by
  decide +kernel

theorem test_isolate_restore :
    let isolated := after (.isolate 6) gallery
    (isolated.channel 6).state = .isolated ∧ isolated.ap.dataOut = [0x00] ∧
      ((after (.restore 6) (atPort .begun isolated)).channel 6).state = .refill ∧
      (after (.isolate 5) gallery).ap.dataOut = [0x03, 0x00] := by
  decide +kernel

/-- Section 2.1.5, at 1198 and 1227. -/
theorem test_fire_by_double_alarm :
    let first := atSecond 1198 (withChannel 3 (smoke .verify 2000 1) (inGallery .caution gallery))
    let second := atSecond 1227 (withChannel 7 (smoke .verify 2000 1) (withChannel 3 (smoke .alarm 2000 0) (inGallery .suspect gallery)))
    (after (.sampleArrival 3 500 false) first).fl.gallery = .suspect ∧
      (after (.sampleArrival 3 500 false) first).fl.confirm.isSome = true ∧
      (after (.sampleArrival 7 500 false) second).fl.cause = ⟨.double, some 3, none, some 1227⟩ := by
  decide +kernel

theorem test_confirm_delay_expiry :
    let s := (withChannel 3 (smoke .alarm 2000 0) (inGallery .suspect gallery))
    (after .confirmDelayExpiry (s.setFl { s.fl with confirm := some (1258 * Config.second) })).fl =
      { s.fl with gallery := .fire, confirm := none, cause := ⟨.delay, some 3, none, some 1258⟩ } := by
  decide +kernel

/-- Section 2.3.3, at 3000, 3097 and 3182. -/
theorem test_walk_test :
    let begun := after (.walkStart 20) (atSecond 3000 gallery)
    let recorded := after (.sampleArrival 4 500 false) (withChannel 4 (smoke .verify 2000 1) (atSecond 3097 begun))
    let ended := after (.sampleArrival 4 500 false) (withChannel 4 (smoke .verify 2000 1) (atSecond 3102 recorded))
    begun.reported = [(.walkBegin, 0xFFFF, 20)] ∧ (recorded.channel 4).state = .refill ∧
      recorded.fl.tested.getD 4 false = true ∧ ended.fl.walkActive = false ∧ (ended.channel 4).state = .alarm ∧
      ended.fl.gallery = .suspect := by
  decide +kernel

theorem test_walk_stop_and_expiry :
    let s := gallery.setFl { gallery.fl with walkActive := true, walkTimer := some 7 }
    (after .walkStop s).fl = gallery.fl ∧ (after .walkDurationExpiry s).fl = gallery.fl := by
  decide +kernel

theorem test_fire_reset :
    let s := withChannel 6 (smoke .alarm 2000 0) (inGallery .fire gallery)
    (after .fireReset s).fl.gallery = .quiet ∧ ((after (.orderFireReset 3 63) s).channel 6).state = .refill ∧
      (after .fireReset (withPoint 1 ⟨.fire, true, 0, some true⟩ s)).ap.dataOut = [0x05] := by
  decide +kernel

/-! Chapter 3. -/

theorem test_contend_loss_collision :
    let s := withQueue [txOf (callBody 3) 1 4 false, txOf stateBody 2 1 false] gallery
    let sent := after .contend s
    sent.lc.sending = some ⟨1, 20, callBody 3⟩ ∧ (after .loss sent).lc.queue = s.lc.queue ∧
      (after .lineCollision sent).lc.queue = [{ txOf (callBody 3) 1 4 false with collisions := 1 }, txOf stateBody 2 1 false] ∧
      (after .lineCollision (withQueue [{ txOf (callBody 3) 1 4 true with collisions := 3 }] sent)).reported =
        [(.collision, 2, 0x0101), (.callRaised, 16, 0x0502)] := by
  decide +kernel

/-- Section 3.5.1: the whole sequence's first three decisions, and the completion of the ORDER of age 1. -/
theorem test_full_queue :
    let order (code : Byte) (age : Nat) (onLine : Bool) : TxEntry := txOf (.order ⟨code, 63, 0⟩) 0 age onLine
    let stateOn : Payload := .state ⟨15, 15, .quiet, .station, false, 2, .day, true⟩
    let calls : List TxEntry := [txOf (.take ⟨17, 1, 1⟩) 1 2 false, txOf (callBody 3) 1 3 false, txOf (callBody 9) 1 4 false,
      txOf (.clear ⟨2, 5, 0, 2⟩) 1 5 false, txOf (.giveup ⟨30, 1, 1⟩) 1 6 false, txOf (callBody 12) 1 8 false]
    let full := withQueue (order 2 1 false :: calls ++ [txOf stateOn 2 7 false]) (bare 2 .station)
    let s : State :=
      { full with
        nt := { full.nt with evacuate := true }
        ru := { full.ru with evacuating := some .building }
        lc := { full.lc with nextAge := 9, lastState := some ⟨15, 15, .quiet, .station, false, 2, .day, true⟩ } }
    let ordered := after (.order 3 63 0) s
    (s.lc.offer true (callBody 9) 1).1.queue = s.lc.queue ∧
      ordered.lc.queue = order 2 1 false :: order 3 9 false :: calls ∧ ordered.lc.queueDiscard = true ∧
      (after .transmissionCompletion (after .contend ordered)).lc.queue =
        order 3 9 false :: calls ++ [txOf stateOn 2 10 false] := by
  decide +kernel

theorem test_transmission_completion :
    let s := (withQueue [txOf stateBody 3 4 true] gallery)
    (after .transmissionCompletion (s.setLc { s.lc with sending := some ⟨3, 20, stateBody⟩ })).lc.queue = [] ∧
      (after .transmissionCompletion (s.setLc { s.lc with sending := some ⟨3, 20, stateBody⟩ })).lc.refresh =
        some (2 * Config.second) := by
  decide +kernel

theorem test_stuck_period :
    let stuck := after .stuckPeriodStart gallery
    let ended := after .stuckPeriodEnd stuck
    stuck.lc.lineStuck = true ∧ after .contend (withQueue [txOf stateBody 3 4 false] stuck) = withQueue [txOf stateBody 3 4 false] stuck ∧
      ended.lc.stuckClear = some Config.second ∧ (after .stuckClearTimerExpiry ended).lc.lineStuck = false := by
  decide +kernel

theorem test_noise_window :
    let noisy := after (.checkError .badCheck) (gallery.setLc { gallery.lc with noise := List.replicate 8 0 })
    noisy.lc.lineNoisy = true ∧ noisy.lc.noise.length = 9 ∧ (after .noiseWindowAgeOut noisy).lc.noise.length = 8 ∧
      (after .noiseWindowAgeOut noisy).now = 60 * Config.second := by
  decide +kernel

theorem test_telegram_discarded_duplicate_id :
    after (.telegramDiscarded .malformed) gallery = gallery ∧
      (after (.duplicateId .order) gallery).reported = [(.duplicateId, 20, 6), (.callRaised, 16, 0x0502)] ∧
      (after (.stateArrival 20 (stateOf .quiet 15 15)) gallery).lc.duplicateId = true := by
  decide +kernel

theorem test_refresh_timer_expiry :
    let s := after .refreshTimerExpiry (gallery.setLc { gallery.lc with refresh := some 50 })
    s.lc.queue.map (·.cls) = [3] ∧ s.lc.refresh = some (50 + 2 * Config.second) := by
  decide +kernel

/-! Chapters 4 and 5. -/

/-- Section 4.4.1, at 100, 108 and 400. -/
theorem test_neighbour_lost_in_a_fire :
    let heard := after (.stateArrival 5 (stateOf .fire 0 15)) (atSecond 100 gallery)
    let lost := after (.freshnessDeadlineExpiry 0) heard
    let cleared := after (.orderFireReset 3 63) { lost with ap := ⟨.begun, [], []⟩ }
    (heard.slot 0).deadline = some (106 * Config.second) ∧ heard.fl.gallery = .caution ∧ heard.ru.f = 1 ∧
      lost.now = 106 * Config.second ∧ ((lost.slot 0).presence, (lost.slot 0).fire, (lost.slot 0).f) = (.silent, .fire, 0) ∧
      lost.fl.gallery = .caution ∧ cleared.fl.gallery = .quiet ∧
      cleared.reported.contains (.neighbourCleared, 0, 3) = true ∧ cleared.ru.f = 15 := by
  decide +kernel

theorem test_flag_orders :
    (after (.orderModeNight 3 63) gallery).reported = [(.buildingMode, 3, 1)] ∧
      (after (.orderModeDay 3 7) (inMode .night gallery)).nt.mode = .day ∧
      ((after (.orderModeNight 3 63) gallery).door 0).state = .shutLocked ∧
      (after (.orderEvacuateOn 3 63) gallery).reported = [(.buildingEvacuate, 3, 1), (.evacuating, 15, 0x0101)] ∧
      (after (.orderEvacuateOff 3 63) (after (.orderEvacuateOn 3 63) gallery)).sounderOn = false := by
  decide +kernel

/-- Section 4.6.1, the first and the last event. -/
theorem test_silence :
    let s := routed (withSlot 0 { near 5 with f := 1 } gallery)
    let silenced := after (.orderSilence 8 63) s
    let nearer := after (.stateArrival 5 (stateOf .fire 0 15)) silenced
    silenced.reported = [(.silenceLatch, 8, 0x0201)] ∧ nearer.nt.latch = none ∧ nearer.sounderOn = true ∧
      nearer.reported.contains (.silenceLatch, 0, 0xFF00) = true := by
  decide +kernel

/-- Section 5.9.2: an exit that jams, then the neighbour's STATE. -/
theorem test_exit_jams :
    let door := { doorOf .exit .shutFree .shut .free with feedback := some .lock, jamTimer := some 300000 }
    let s := routed (withDoor 0 door (withSlot 0 { near 5 with x := 1 } gallery))
    let jammed := after (.jamComparisonExpiry 0) s
    (s.ru.xLocal, s.ru.via, s.ru.exitDoor) = (0, .own, some 0) ∧
      (jammed.ru.xLocal, jammed.ru.via, jammed.ru.exitDoor) = (2, .slot 0, none) ∧
      (after (.stateArrival 5 (stateOf .quiet 15 3)) jammed).ru.xLocal = 4 := by
  decide +kernel

theorem test_listen_timer_expiry :
    let s := inPhase .listen gallery
    let t := after .listenTimerExpiry (s.setCl { s.cl with listen := some 400000 })
    t.cl.phase = .run ∧ t.now = 400000 ∧ t.lc.queue.map (·.cls) = [2] ∧ t.ds.rate = some 900000 := by
  decide +kernel

/-! Chapter 6: sections 6.13.1 to 6.13.3, row by row. -/

theorem test_staff_door_at_night :
    let pressed := after (.rexPress 1) (inMode .night gallery)
    let freed := after (.feedbackChange 1 .free) pressed
    let opened := after (.doorOpening 1) freed
    let held := after (.openTimerExpiry 1) opened
    let shut := after (.doorShutting 1) held
    ((pressed.door 1).state, (pressed.door 1).lock, (pressed.door 1).jamTimer) = (.access, .free, some 300000) ∧
      (freed.door 1).jamTimer = none ∧ ((opened.door 1).state, (opened.door 1).accessMark) = (.openTimed, true) ∧
      ((held.door 1).state, (held.door 1).lock) = (.openLong, .lock) ∧
      held.reported = [(.doorHeld, 1, 30), (.callRaised, 9, 0x0403)] ∧
      ((shut.door 1).state, (shut.door 1).jamTimer.isSome) = (.shutLocked, true) := by
  decide +kernel

theorem test_forced_exit :
    let s := withDoor 0 (doorOf .exit .shutLocked .shut .lock) (inMode .night gallery)
    let forced := after (.doorOpening 0) s
    let freed := after (.stateArrival 5 (stateOf .fire 0 15)) forced
    let locked := after (.stateArrival 5 (stateOf .quiet 2 15)) freed
    forced.reported = [(.doorForced, 0, 1), (.callRaised, 8, 0x0300)] ∧
      ((freed.door 0).state, (freed.door 0).lock) = (.openFree, .free) ∧
      ((locked.door 0).state, (locked.door 0).lock, (locked.door 0).accessMark) = (.openTimed, .lock, false) := by
  decide +kernel

theorem test_exit_jams_under_release :
    let jammed : Door := { doorOf .exit .jammed .shut .free with feedback := some .lock }
    let s := withDoor 0 jammed gallery
    let agreed := after (.feedbackChange 0 .free) s
    let cleared := after (.jamComparisonExpiry 0) agreed
    after (.rexPress 0) s = State.setFreeCount (withDoor 0 { jammed with rex := ⟨some 0, 0⟩ } s) 1 ∧
      (after (.doorPulse 0) s).ap.dataOut = [0x03, 0x00] ∧ (agreed.door 0).jamTimer = some 300000 ∧
      (cleared.door 0).state = .shutFree ∧ cleared.reported = [(.doorJamCleared, 0, 1)] := by
  decide +kernel

theorem test_first_values :
    let s := withDoor 1 { doorOf .staff .shutLocked .shut .lock with contact := none, feedback := none } gallery
    ((after (.contactFirstQualified 1 .opened) s).door 1).state = .openTimed ∧
      ((after (.feedbackFirstQualified 1 .free) (withDoor 1 { doorOf .staff .shutLocked .shut .lock with feedback := none } gallery)).door
          1).jamTimer = some 300000 := by
  decide +kernel

theorem test_pulses :
    ((after (.doorPulse 1) gallery).door 1).accessTimer = some 800000 ∧
      ((after (.orderDoorPulse 3 20 1) gallery).door 1).state = .access ∧
      (after (.orderDoorPulse 3 20 2) gallery).reported = [(.pulseDenied, 2, 0x0300)] ∧
      ((after (.accessPulseExpiry 1) (after (.doorPulse 1) gallery)).door 1).state = .shutLocked := by
  decide +kernel

/-! Chapter 7: section 7.8. -/

theorem test_rotation_escalation_and_key :
    let raised := after (.callPointPress 0) gallery
    let taken := after (.takeArrival 3 ⟨20, 0, 0⟩) raised
    let cleared := after .attendantKeyTurn taken
    let overdue := after (.unansweredTimerExpiry 0) raised
    raised.reported = [(.callRaised, 0, 0x0002)] ∧ (taken.call 0).map (·.taker) = some 3 ∧
      cleared.call 0 = none ∧ (cleared.rotation 2).drop 15 = [16, 0] ∧ cleared.serial 0 = 1 ∧
      (overdue.call 0).map (fun c => (c.overdue, c.current)) = some (true, 1) ∧
      (after (.attendTimerExpiry 0) taken).now = 10 * Config.minute ∧
      (after (.reannounceTimerExpiry 0) raised).now = 16 * Config.second ∧
      ((after (.giveupArrival 3 ⟨20, 0, 0⟩) taken).call 0).map (·.taker) = some 0 := by
  decide +kernel

theorem test_fire_point_and_its_call :
    let broken := after (.firePointLevelChange 1 true) gallery
    let taken := after (.takeArrival 3 ⟨20, 1, 0⟩) broken
    let refused := after (.clearRequestArrival 3 ⟨20, 1, 0, 3⟩) taken
    let cleared := after (.clearRequestArrival 3 ⟨20, 1, 0, 3⟩) (after (.firePointLevelChange 1 false) taken)
    broken.fl.cause = ⟨.point, some 1, none, some 0⟩ ∧ (broken.call 1).map (·.kind) = some .fire ∧
      refused.reported.contains (.clearRefused, 1, 3) = true ∧ (refused.call 1).isSome = true ∧
      cleared.call 1 = none ∧ cleared.fl.gallery = .fire := by
  decide +kernel

/-! Chapter 8: section 8.6. -/

theorem test_two_stations_take_one_call :
    let call (taker : BitVec 6) : CallPayload := ⟨12, 3, 9, 0, taker != 0, false, false, taker⟩
    let s := bare 3 .station
    let heard := after (.callArrival 40 (call 0)) s
    let taking := after (.take 40 12) heard
    let sent := after .transmissionCompletion (after .contend taking)
    (heard.entry 40 12).map (·.state) = some .opened ∧ heard.reported = [(.listNew, 40 * 256 + 12, 48)] ∧
      (taking.entry 40 12).map (·.state) = some .taking ∧ taking.ap.dataOut = [0x00] ∧
      (sent.entry 40 12).bind (·.takeTimeout) = some 500000 ∧
      ((after (.callArrival 40 (call 3)) sent).entry 40 12).map (·.state) = some .mine ∧
      ((after (.callArrival 40 (call 8)) sent).entry 40 12).map (·.state) = some .others ∧
      ((after (.takeTimeoutExpiry 40 12) sent).entry 40 12).map (·.state) = some .opened := by
  decide +kernel

/-- Section 8.6.3's three newcomers. -/
theorem test_full_list :
    let last : List Entry := [entryOf 26 14 2 .mine 0, entryOf 12 16 2 .others 1, entryOf 30 0 3 .opened 2, entryOf 17 9 3 .mine 3]
    let full := withList ((List.range 20).map (fun i => entryOf (i + 1) 0 1 .opened i) ++ last) (bare 5 .station)
    let call (source : BitVec 5) (p : BitVec 2) : CallPayload := ⟨source, 0, 1, p, false, false, false, 0⟩
    let one := after (.callArrival 44 (call 2 1)) full
    let two := after (.callArrival 41 (call 8 2)) one
    let three := after (.callArrival 19 (call 3 3)) two
    one.reported = [(.listDisplaced, 12 * 256 + 16, 3), (.listNew, 44 * 256 + 2, 1)] ∧
      two.reported.drop 2 = [(.listDisplaced, 17 * 256 + 9, 2), (.listNew, 41 * 256 + 8, 2)] ∧
      three.reported.drop 4 = [(.truncated, 19 * 256 + 3, 3)] ∧ three.al = two.al := by
  decide +kernel

theorem test_entries_and_station_requests :
    ((after (.clearArrival 3 ⟨3, 2, 1, 3⟩) station).entry 3 2) = none ∧
      ((after (.entryExpiry 3 2) station).entry 3 2) = none ∧
      ((after (.giveup 4 0) station).entry 4 0).map (·.state) = some .opened ∧
      (after (.clear 4 0) station).lc.queue.map (·.body.kindCode) = [4] ∧
      (after (.take 4 1) station).ap.dataOut = [0x03, 0x0C] ∧ (after (.take 63 0) station).ap.dataOut = [0x04] ∧
      (after (.listRead 0) station).ap.dataOut.take 4 = [0x00, 3, 3, 2] ∧
      (after (.order 1 63 0) station).nt.mode = .night ∧ (after (.order 1 63 0) gallery).ap.dataOut = [0x02] := by
  decide +kernel

/-! Chapter 9: section 9.3.2 and the counts of R146, R147, R152, R155. -/

theorem test_chase :
    let found := after (.orderEvacuateOn 3 63) (striped (some 9))
    let evacuating := withStrip 0 { found.strip 0 with latch := none } found
    let lit (s : State) : List Nat := (List.range 10).filter fun i => (s.strip 0).lit.getD i false
    let sense : BitVec 32 := ~~~(128#32)
    let at_ (phase : Nat) : State := withStrip 0 { evacuating.strip 0 with phase := phase } evacuating
    lit evacuating = [0, 1, 5, 6] ∧ lit (after (.stripStepExpiry 0 sense) evacuating) = [0, 4, 5, 9] ∧
      lit (after (.stripStepExpiry 0 sense) (at_ 2)) = [2, 3, 7, 8] ∧
      ((after (.stripStepExpiry 0 sense) (at_ 2)).strip 0).latch = some 7 ∧
      (evacuating.strip 0).timer = some 20000 ∧ ((evacuating.sign 0).shown, (evacuating.sign 0).flash) = (some .left, some 0) ∧
      evacuating.sd.sounder = .evac := by
  decide +kernel

theorem test_signs_step :
    let s := gallery.setSd { gallery.sd with signTimer := some 6250 }
    ((after (.signStepExpiry 0) (withSign 0 { s.sign 0 with noCurrent := 31 } s)).sign 0).fault = true ∧
      ((after (.signStepExpiry 1) (withSign 0 { s.sign 0 with noCurrent := 31 } s)).sign 0).noCurrent = 0 ∧
      (after (.signStepExpiry 0) s).sd.signTimer = some 12500 := by
  decide +kernel

theorem test_lamp_requests_and_cadence :
    let checked := after .lampCheck (striped (some 9))
    let s := gallery.setSd { gallery.sd with sounder := .alert, cadence := some true, cadenceTimer := some 100000 }
    ((checked.strip 0).mode, (checked.strip 0).check) = (.check, some 4) ∧
      (after .lampClear (striped (some 3))).reported =
        [(.lampCleared, 0xFFFF, 1)] ∧
      (after .cadenceTimerExpiry s).sd.cadence = some false := by
  decide +kernel

/-! Chapter 10: sections 10.8.1 and 10.8.2. -/

theorem test_duration_test :
    let running := after (.testStart 2) gallery
    let minute := after .minuteTimerExpiry running
    let passed := after .minuteTimerExpiry minute
    let suspended := after .testSuspend (atPort .begun minute)
    running.reported = [(.testStarted, 0xFFFF, 2)] ∧ running.relayOpen = true ∧ minute.dt.completed = some 1 ∧
      passed.dt.last = .pass ∧ passed.marker = false ∧ suspended.dt.cause = some .host ∧
      (after .testResume (atPort .begun suspended)).dt.state = .running ∧
      (after .suspendTimerExpiry suspended).dt.last = .aborted .suspendTimeout ∧
      (after .testAbort (atPort .begun minute)).dt.last = .aborted .host ∧
      (after (.batteryLowChange true) minute).dt.last = .fail 1 ∧
      (after (.stateArrival 5 { stateOf .quiet 15 15 with testRunning := true }) running).dt.last = .aborted .peer := by
  decide +kernel

/-! Chapter 11. -/

/-- Node 2 of section 11.6.1: two slots name door 2, and the higher, at offset 21, loses its link. -/
def image : List Byte :=
  let node : List Byte := [0x4B, 0x47, 0x00, 0xFE, 2, 0x80, 2, 1, 60, 3, 10, 5, 60, 10]
  let slots : List Byte := [0, 0, 5, 0x21, 0, 0, 9, 0x21]
  node ++ slots ++ List.replicate 232 0 ++ [142, 242]

theorem test_config_read_complete :
    let listen := after (.configReadComplete image .night) State.reset
    imageFailure image = none ∧ listen.cl.phase = .listen ∧ listen.cl.listen = some 400000 ∧
      listen.reported = [(.config, 21, 0x0101), (.callRaised, 16, 0x0502)] ∧ (listen.slot 3).link = none ∧
      (listen.slot 1).link = some 2 := by
  decide +kernel

theorem test_config_read_cut_short :
    let bad := after (.configReadComplete (image.take 200) .night) State.reset
    bad.cl.invalid = some .noAck ∧ bad.nt.mode = .night ∧ bad.nodeId = 0 ∧ (bad.door 0).magnet = .drop ∧
      (bad.call 16).map (fun c => (c.base, c.serial, c.reannounce)) = some (2, 0, some 1600000) := by
  decide +kernel

theorem test_restart :
    let begun := after .transactionBegin (atPort .high gallery)
    let decoded := after .restart begun
    let restarted := after .transactionEnd decoded
    begun = atPort .begun gallery ∧ decoded.ap.dataOut = [0x00] ∧ restarted = State.reset ∧
      after .powerUp { gallery with pending := [.contend] } = { State.reset with pending := [.contend], ap := ⟨.deaf, [], []⟩ } ∧
      after .resetPin (after .resetPinAsserted (atPort .high gallery)) = State.reset ∧
      (after .resetPinAsserted gallery).cl.phase = .held := by
  decide +kernel

theorem test_port_refusals :
    (after (.unknownRequest 0x99 0) gallery).ap.dataOut = [0x01] ∧ (after (.take 3 2) gallery).ap.dataOut = [0x02] ∧
      (after .fireReset (inPhase .listen gallery)).ap.dataOut = [0x06] ∧
      (after .readNode (inPhase .loading gallery)).ap.dataOut = [0x06] ∧
      after .readNode (atPort .decoded gallery) = atPort .decoded gallery := by
  decide +kernel

theorem test_requests_with_select_high :
    let walked := after (.walkStart 20) (atPort .high gallery)
    let restarting := after .restart walked
    walked.ap.port = .high ∧ walked.ap.dataOut = [0x00] ∧ (after (.readDoor 8) walked).ap.dataOut = [0x04] ∧
      restarting.fl.walkActive = true ∧ after (.readDoor 8) restarting = restarting ∧
      after .transactionEnd restarting = State.reset := by
  decide +kernel

theorem test_status_reads :
    (after (.readDoor 8) gallery).ap.dataOut = [0x04] ∧ (after .readRoute gallery).ap.dataOut = [0x00, 15, 0, 8, 0, 0, 0, 0xFF, 1, 15, 15, 15, 15] ∧
      (after .readReport (gallery.report .doorHeld 1 30)).ap.dataOut = [0x00, 0x61, 0, 1, 0, 30, 0, 0, 0, 0, 0] ∧
      (after .readReport (gallery.report .doorHeld 1 30)).ap.reports = [] ∧
      (after .readNode (gallery.setLc { gallery.lc with queueDiscard := true })).lc.queueDiscard = false ∧
      (after (.readChannel 6) gallery).ap.dataOut.head? = some 0x00 ∧
      (after (.readNeighbour 0) gallery).ap.dataOut.head? = some 0x00 ∧
      (after (.readCall 16) gallery).ap.dataOut.head? = some 0x00 ∧
      (after .readSignals gallery).ap.dataOut.head? = some 0x00 ∧
      (after .readTest gallery).ap.dataOut.head? = some 0x00 := by
  decide +kernel

theorem test_decode_and_queue :
    decodeTableWord 16 0x1234 = none ∧ State.reset.withFetchWord 8 1 = State.reset ∧
      stepped { gallery with pending := [.telegramDiscarded .malformed, .contend] } = { gallery with pending := [.contend] } ∧
      stepped gallery = { gallery with now := 1 } ∧ stepped State.reset = State.reset := by
  decide +kernel

/-! ### States and operands that meet the premises of the statements, clause by clause -/

theorem test_premises_StepTakesFrontCommand :
    (∃ c rest, State.pending { gallery with pending := [.contend, .loss] } = c :: rest) ∧
      gallery.pending = [] ∧ gallery.awake = true ∧ State.reset.pending = [] ∧ State.reset.awake = false :=
  ⟨⟨_, _, rfl⟩, by decide +kernel⟩

theorem test_premises_NothingToActOn :
    gallery.cl.listen = none ∧ gallery.ds.drift = none ∧ gallery.ds.rate = none ∧ (gallery.channel 15).hold = none ∧
      gallery.fl.confirm = none ∧ gallery.fl.walkTimer = none ∧ gallery.lc.stuckClear = none ∧ gallery.lc.noise = [] ∧
      gallery.lc.refresh = none ∧ (gallery.slot 7).deadline = none ∧ (gallery.door 7).accessTimer = none ∧
      (gallery.door 7).openTimer = none ∧ (gallery.door 7).jamTimer = none ∧
      (gallery.call 16).all (fun c => decide (c.unanswered = none)) = true ∧
      ((withCall 0 (callOf .help 2 0 3) gallery).call 0).all (fun c => decide (c.unanswered = none)) = true ∧
      ((withCall 0 (callOf .help 2 0 0) gallery).call 0).all (fun c => decide (c.attend = none)) = true ∧
      (gallery.call 0).all (fun c => decide (c.reannounce = none)) = true ∧
      (gallery.entry 62 16).all (fun e => decide (e.expiry = none)) = true ∧
      (station.entry 3 2).all (fun e => decide (e.takeTimeout = none)) = true ∧ gallery.sd.signTimer = none ∧
      (gallery.strip 1).timer = none ∧ gallery.sd.cadenceTimer = none ∧ gallery.dt.minute = none ∧
      gallery.dt.suspend = none ∧ State.reset.awake = false ∧ commandGroup .contend = .event := by
  decide +kernel

/-- The premises of the five invariants, at a step that completes. -/
theorem test_premises_StepKeepsBounds :
    gallery.Shaped ∧ gallery.Bounded ∧ gallery.QueueOrdered ∧ gallery.ListOrdered ∧ step gallery = .next (stepped gallery) ∧
      station.Shaped ∧ station.Bounded ∧ station.ListOrdered := by
  refine ⟨gallery_shaped, gallery_bounded, ?_, ?_, rfl, station_shaped, station_bounded, ?_⟩ <;>
    (try unfold State.QueueOrdered) <;> (try unfold State.ListOrdered) <;> decide +kernel

theorem test_premises_StepKeepsGalleryState : gallery.Shaped ∧ gallery.GalleryFollows := by
  refine ⟨gallery_shaped, ?_⟩
  unfold State.GalleryFollows
  decide +kernel

theorem test_premises_StepKeepsRoute : gallery.Shaped ∧ gallery.RouteFollows := by
  refine ⟨gallery_shaped, ?_⟩
  unfold State.RouteFollows
  decide +kernel

theorem test_premises_StepKeepsDoorDrives : gallery.Shaped ∧ gallery.DrivesFollow := by
  refine ⟨gallery_shaped, ?_⟩
  unfold State.DrivesFollow State.DriveFollows
  decide +kernel

theorem test_premises_StepKeepsSignals : gallery.SignalsFollow := by
  unfold State.SignalsFollow
  decide +kernel

theorem test_premises_ThresholdConditions :
    (smoke .normal 480 0).cfg.kind = .smoke ∧ 1 ≤ (smoke .normal 480 0).cfg.dayP ∧
      (smoke .normal 480 0).cfg.dayP < (smoke .normal 480 0).cfg.dayA ∧
      (smoke .normal 480 0).cfg.nightP < (smoke .normal 480 0).cfg.nightA ∧ (heat 1946).cfg.kind = .heat := by
  decide +kernel

/-- Good samples at both bounds, fault samples next to them. -/
theorem test_premises_samples :
    gallery.awake = true ∧ (gallery.channel 6).state = .normal ∧ 16 ≤ (16 : BitVec 10).toNat ∧
      (1007 : BitVec 10).toNat ≤ 1007 ∧ (15 : BitVec 10).toNat < 16 ∧ 1007 < (1008 : BitVec 10).toNat := by
  decide +kernel

theorem test_premises_SampleInVerify :
    let at_ (m4 verify : Nat) : State := withChannel 6 (smoke .verify m4 verify) gallery
    let granted := (at_ 641 1).setDs { (at_ 641 1).ds with grant := some (6, 13) }
    let walking := (at_ 725 1).setFl { gallery.fl with walkActive := true }
    let filtered (m4 : Nat) (code : Nat) : Channel := smoke .verify (m4 - m4 / 4 + code) 1
    let recorded := walking.setFl { walking.fl with lastRecorded := walking.fl.lastRecorded.set 4 (some 0) }
    (at_ 641 3).awake = true ∧ ((at_ 641 3).channel 6).state = .verify ∧ (at_ 641 3).dueSlot 6 false = some 12 ∧
      granted.dueSlot 6 true = some 13 ∧ (filtered 641 150).band .day false = .prealarm ∧
      (filtered 725 210).band .day (at_ 725 1).slotHoldsFire = .alarm ∧ (at_ 725 1).fl.walkActive = false ∧
      walking.fl.walkActive = true ∧ (∀ i < 16, walking.fl.lastRecorded.getD i none = none) ∧
      recorded.fl.lastRecorded.getD 4 none = some 0 ∧ max recorded.now (slotEnd 12) < 0 + 30 * Config.second := by
  decide +kernel

theorem test_premises_SampleInVerify_shaped : (withChannel 6 (smoke .verify 725 1) gallery).Shaped :=
  shaped_setChannel gallery_shaped 6 _

theorem test_premises_SampleOutsideNormal :
    let at_ (v : Channel) : Channel := (withChannel 6 v gallery).channel 6
    (at_ { smoke .settle 480 0 with sampleCount := 14 }).sampleCount ≠ 15 ∧
      (at_ { smoke .settle 480 0 with sampleCount := 15 }).state = .settle ∧
      (at_ { smoke .refill 480 0 with sampleCount := 2 }).sampleCount ≠ 3 ∧
      (at_ { smoke .refill 480 0 with sampleCount := 3 }).state = .refill ∧ (at_ (smoke .alarm 480 0)).state = .alarm ∧
      (at_ { smoke .prealarm 480 0 with hold := some 5 }).hold = some 5 ∧
      (at_ { smoke .verify 480 2 with hold := some 5 }).state = .verify := by
  decide +kernel

theorem test_premises_SampleFaults :
    (withChannel 6 { smoke .fault 480 0 with goodCount := 3 } gallery).Shaped ∧
      (withChannel 6 { smoke .fault 480 0 with goodCount := 3 } gallery).dueSlot 6 false = some 12 ∧
      ((withChannel 6 { smoke .fault 480 0 with goodCount := 3 } gallery).channel 6).goodCount = 3 ∧
      ((withChannel 6 (smoke .fault 480 0) gallery).channel 6).goodCount ≠ 3 ∧
      ((withChannel 6 (smoke .alarm 480 0) gallery).channel 6).state = .alarm := by
  refine ⟨shaped_setChannel gallery_shaped 6 _, ?_⟩
  decide +kernel

theorem test_premises_OddSlotGranted :
    let s := withChannel 6 (smoke .verify 641 2) gallery
    s.awake = true ∧ (s.channel 6).state = .verify ∧
      (∀ j : Fin 16, (s.channel j).state = .verify →
        (s.channel 6).lastOdd < (s.channel j).lastOdd ∨ ((s.channel 6).lastOdd = (s.channel j).lastOdd ∧ 6 ≤ j.val)) ∧
      ∀ j : Fin 16, (gallery.channel j).state ≠ .verify := by
  decide +kernel

theorem test_premises_OddSlotGranted_shaped : (withChannel 6 (smoke .verify 641 2) gallery).Shaped :=
  shaped_setChannel gallery_shaped 6 _

theorem test_premises_DriftSteps :
    let s := gallery.setDs { gallery.ds with drift := some 100 }
    let at_ (m b : Nat) : Channel := { smoke .normal (4 * m) 0 with b := b }
    s.awake = true ∧ s.ds.drift = some 100 ∧ ((at_ 121 120).b < (at_ 121 120).m ∧ (at_ 121 120).b < (at_ 121 120).cfg.bmax) ∧
      ((at_ 401 400).b < (at_ 401 400).m ∧ (at_ 401 400).b = (at_ 401 400).cfg.bmax) ∧ (at_ 400 400).m = (at_ 400 400).b ∧
      ((at_ 40 41).m < (at_ 40 41).b ∧ (at_ 40 41).cfg.bmin < (at_ 40 41).b) ∧
      ((at_ 39 40).m < (at_ 39 40).b ∧ (at_ 39 40).b = (at_ 39 40).cfg.bmin) := by
  decide +kernel

theorem test_premises_RateSteps :
    (gallery.setDs { gallery.ds with rate := some 100 }).awake = true ∧
      (gallery.setDs { gallery.ds with rate := some 100 }).ds.rate = some 100 ∧
      (gallery.setDs { gallery.ds with rate := some 100 }).Bounded :=
  ⟨by decide +kernel, rfl, by constructor <;> decide +kernel⟩

theorem test_premises_IsolateAndRestore :
    gallery.running = true ∧ gallery.listens = true ∧ 16 ≤ (16 : Byte).toNat ∧ (15 : Byte).toNat < 16 ∧
      (gallery.channel 15).cfg.kind = .unused ∧ (gallery.channel 6).cfg.kind ≠ .unused ∧
      ((withChannel 6 (smoke .isolated 480 0) gallery).channel 6).state = .isolated ∧
      ((withChannel 6 (smoke .alarm 480 0) gallery).channel 6).state = .alarm := by
  decide +kernel

/-! Chapter 2. -/

theorem test_premises_FireLatches :
    let s := inGallery .fire gallery
    s.awake = true ∧ s.fl.gallery = .fire ∧ exec .contend s = .next (after .contend s) ∧
      (withPoint 1 ⟨.fire, true, 0, some true⟩ s).activeFirePoint = some 1 ∧
      exec .fireReset (withPoint 1 ⟨.fire, true, 0, some true⟩ s) =
        .next (after .fireReset (withPoint 1 ⟨.fire, true, 0, some true⟩ s)) :=
  ⟨by decide +kernel, by decide +kernel, rfl, by decide +kernel, rfl⟩

theorem test_premises_FireTimersExpire :
    let alarmed := withChannel 3 (smoke .alarm 2000 0) (inGallery .suspect gallery)
    let s := alarmed.setFl { alarmed.fl with confirm := some 100 }
    let walking := gallery.setFl { gallery.fl with walkActive := true, walkTimer := some 7 }
    s.awake = true ∧ s.GalleryFollows ∧ s.fl.gallery = .suspect ∧ s.fl.confirm = some 100 ∧ walking.awake = true ∧
      walking.fl.walkActive = true ∧ walking.fl.walkTimer = some 7 := by
  unfold State.GalleryFollows
  decide +kernel

theorem test_premises_WalkStartDecided :
    let walking := gallery.setFl { gallery.fl with walkActive := true }
    gallery.listens = true ∧ gallery.running = true ∧ (inPhase .listen gallery).running = false ∧
      ¬(1 ≤ (0 : Byte).toNat ∧ (0 : Byte).toNat ≤ 60) ∧ ¬(1 ≤ (61 : Byte).toNat ∧ (61 : Byte).toNat ≤ 60) ∧
      (60 : Byte).toNat ≤ 60 ∧ gallery.fl.walkActive = false ∧ gallery.fl.gallery = .quiet ∧ gallery.ru.f = 15 ∧
      (inGallery .caution gallery).fl.gallery ≠ .quiet ∧ walking.fl.walkActive = true ∧ walking.ru.f = 15 ∧
      (walking.setRu { walking.ru with f := 14 }).ru.f < 15 := by
  decide +kernel

theorem test_premises_WalkStopEndsWalkTest :
    gallery.listens = true ∧ (inPhase .listen gallery).listens = true ∧ (inPhase .listen gallery).running = false ∧
      gallery.running = true ∧ gallery.fl.walkActive = false ∧
      (gallery.setFl { gallery.fl with walkActive := true }).fl.walkActive = true := by
  decide +kernel

theorem test_premises_FireResetDecided :
    let active := withPoint 1 ⟨.fire, true, 0, some true⟩ gallery
    gallery.listens = true ∧ gallery.running = true ∧ gallery.awake = true ∧ gallery.receives = true ∧
      active.receives = true ∧ active.activeFirePoint = some 1 ∧ (20 : Byte).toNat ≠ 63 ∧
      gallery.activeFirePoint = none ∧ wfSource 62 = true ∧ (62 : BitVec 6).toNat ≠ gallery.nodeId ∧
      (62 : Byte).toNat ≠ gallery.nodeId ∧ (20 : Byte).toNat = gallery.nodeId ∧ (63 : Byte).toNat = 63 := by
  decide +kernel

theorem test_premises_FireResetDecided_shaped : (withPoint 1 ⟨.fire, true, 0, some true⟩ gallery).Shaped :=
  shaped_setPoint gallery_shaped 1 _ (by decide)

/-! Chapter 3. -/

theorem test_premises_TelegramReceivedAsSent :
    Telegram.wf ⟨3, 62, stateBody⟩ = true ∧ Telegram.wf ⟨1, 1, callBody 16⟩ = true ∧
      Telegram.wf ⟨1, 1, .take ⟨62, 16, 15⟩⟩ = true ∧ Telegram.wf ⟨1, 1, .clear ⟨62, 16, 15, 62⟩⟩ = true ∧
      Telegram.wf ⟨1, 1, .giveup ⟨1, 0, 0⟩⟩ = true ∧ Telegram.wf ⟨0, 1, .order ⟨6, 63, 7⟩⟩ = true := by
  decide

/-- A queue of eight, its youngest entry of class 3 next to one on the line. -/
def fullQueue : List TxEntry :=
  (List.range 6).map (fun i => txOf (callBody (BitVec.ofNat 5 i)) 1 i false) ++
    [txOf (callBody 9) 2 6 false, txOf stateBody 3 7 true]

def full : State := (withQueue fullQueue gallery).setLc { (withQueue fullQueue gallery).lc with nextAge := 8 }

theorem test_premises_OfferDecided :
    full.QueueOrdered ∧ full.running = true ∧ full.nodeId ≠ 0 ∧ (inPhase .listen full).running = false ∧
      collapsesInto stateBody (txOf stateBody 3 7 true) = true ∧ full.lc.queue.length = 8 ∧
      (∀ e ∈ full.lc.queue, collapsesInto (callBody 16) e = false) ∧ gallery.lc.queue.length < 8 ∧
      (∀ e ∈ full.lc.queue, e.onLine = true ∨ e = txOf (callBody 9) 2 6 false ∨ e.cls < 2 ∨ (e.cls = 2 ∧ e.age < 6)) := by
  unfold State.QueueOrdered
  decide +kernel

theorem test_premises_OfferDecided_bounded : full.Bounded := by constructor <;> decide +kernel

theorem test_premises_ContentionDecided :
    let waiting := withQueue [txOf (callBody 3) 1 4 false, txOf stateBody 2 1 false] gallery
    let sending := after .contend waiting
    waiting.lc.queue = txOf (callBody 3) 1 4 false :: [txOf stateBody 2 1 false] ∧ waiting.running = true ∧
      waiting.nodeId ≠ 0 ∧ waiting.lc.stuckPeriod = false ∧ waiting.lc.sending = none ∧ gallery.lc.queue = [] ∧
      sending.awake = true ∧ sending.lc.sending ≠ none ∧
      sending.lc.queue = [] ++ txOf (callBody 3) 1 4 true :: [txOf stateBody 2 1 false] ∧
      (∀ x ∈ ([] : List TxEntry) ++ [txOf stateBody 2 1 false], x.onLine = false) := by
  decide +kernel

theorem test_premises_TransmissionCompletes :
    let sending (body : Payload) (s : State) : State :=
      (withQueue [txOf body 1 4 true] s).setLc { (withQueue [txOf body 1 4 true] s).lc with sending := some ⟨1, 20, body⟩ }
    (sending stateBody gallery).running = true ∧ (sending stateBody gallery).nodeId ≠ 0 ∧
      (sending stateBody gallery).lc.queue = [] ++ txOf stateBody 1 4 true :: [] ∧
      (sending (.take ⟨4, 1, 1⟩) station).lc.sending = some ⟨1, 20, .take ⟨4, 1, 1⟩⟩ ∧
      (station.entry 4 1).map (fun x => (x.state, x.serial)) = some (.taking, 1) ∧
      (sending (.order ⟨3, 63, 0⟩) station).lc.sending = some ⟨1, 20, .order ⟨3, 63, 0⟩⟩ := by
  decide +kernel

theorem test_premises_StuckPeriods :
    let stuck := after .stuckPeriodStart gallery
    gallery.awake = true ∧ stuck.awake = true ∧ stuck.lc.stuckPeriod = true ∧
      (after .stuckPeriodEnd stuck).lc.stuckClear = some 100000 := by
  decide +kernel

theorem test_premises_NoiseWindow :
    let noisy := gallery.setLc { gallery.lc with noise := List.replicate 9 5 }
    noisy.awake = true ∧ noisy.receives = true ∧ gallery.receives = true ∧ noisy.lc.noise = 5 :: List.replicate 8 5 ∧ gallery.awake = true ∧ gallery.lc.noise = [] := by
  decide +kernel

/-- The ninth check error's 60 s are over as the next one comes: LINE_NOISY clears and is not set again. -/
theorem test_premises_NoiseWindow_quiet :
    let s := atSecond 61 (gallery.setLc { gallery.lc with noise := List.replicate 9 5, lineNoisy := true })
    let t := after (.checkError .badCheck) s
    s.awake = true ∧ s.receives = true ∧ s.lc.lineNoisy = true ∧ s.lc.noise ≠ [] ∧
      (s.lc.noise.filter fun t => decide (s.now < t + 60 * Config.second)) = [] ∧ t.lc.lineNoisy = false ∧
      t.lc.noise = [61 * Config.second] ∧ t.reported = [(.lineNoisy, 0xFFFF, 0)] := by
  decide +kernel

theorem test_premises_NoiseWindow_bounded : (gallery.setLc { gallery.lc with noise := List.replicate 9 5 }).Bounded := by
  constructor <;> decide +kernel

theorem test_premises_TelegramsNotDispatched :
    State.nodeId (bare 0 .gallery) = 0 ∧ (bare 0 .gallery).awake = true ∧ (bare 0 .gallery).receives = true ∧
      gallery.awake = true ∧ gallery.receives = true ∧ gallery.nodeId ≠ 0 ∧ wfSource 20 = true ∧
      (20 : BitVec 6).toNat = gallery.nodeId ∧ gallery.lc.deaf = none ∧ (stateOf .quiet 15 15).wf = true ∧ (9 : BitVec 4).toNat > 8 ∧
      16 < (17 : BitVec 5).toNat ∧ 5 < (6 : BitVec 3).toNat ∧ 62 < (63 : Byte).toNat ∧ 15 < (16 : Byte).toNat ∧
      63 < (64 : Byte).toNat ∧ 7 < (8 : Byte).toNat := by
  decide +kernel

theorem test_premises_RefreshOffersState :
    let s := gallery.setLc { gallery.lc with refresh := some 50 }
    s.running = true ∧ s.nodeId ≠ 0 ∧ s.lc.refresh = some 50 := by
  decide +kernel

/-! Chapters 4 and 5. -/

theorem test_premises_StateArrives :
    let p := stateOf .quiet 15 15
    gallery.awake = true ∧ gallery.receives = true ∧ wfSource 9 = true ∧ p.wf = true ∧ (9 : BitVec 6).toNat ≠ gallery.nodeId ∧
      (∀ k : Fin 8, (gallery.slot k).id ≠ (62 : BitVec 6).toNat) ∧ (gallery.slot 3).id = (9 : BitVec 6).toNat ∧
      (∀ j : Fin 8, j < 3 → (gallery.slot j).id ≠ (9 : BitVec 6).toNat) ∧
      ((withSlot 3 { near 9 with presence := .absent } gallery).slot 3).presence = .absent ∧
      ((withSlot 3 { near 9 with presence := .silent } gallery).slot 3).presence = .silent := by
  decide +kernel

theorem test_premises_SlotFallsSilent : gallery.awake = true ∧ (gallery.slot 3).deadline = some 600000 ∧ (gallery.slot 3).id ≠ 0 := by
  decide +kernel

theorem test_premises_OrdersTaken :
    gallery.awake = true ∧ gallery.receives = true ∧ wfSource 3 = true ∧ (3 : BitVec 6).toNat ≠ gallery.nodeId ∧ 1 ≤ (1 : Byte).toNat ∧
      (1 : Byte).toNat ≠ gallery.nodeId ∧ (20 : Byte).toNat = gallery.nodeId ∧ (63 : Byte).toNat ≤ 63 := by
  decide +kernel

theorem test_premises_RouteComputed :
    let jammed := withDoor 0 (doorOf .exit .jammed .shut .free) gallery
    let guided := withSlot 0 { near 5 with x := 1 } jammed
    (∀ k ∈ gallery.nt.slots, 1 ≤ k.cost) ∧ (inGallery .fire gallery).fl.gallery = .fire ∧ gallery.fl.gallery ≠ .fire ∧
      ((gallery.door 0).cfg.kind = .exit ∧ (gallery.door 0).state ≠ .jammed) ∧
      (∀ d < 8, ¬((jammed.door d).cfg.kind = .exit ∧ (jammed.door d).state ≠ .jammed)) ∧
      jammed.computedRoute.xLocal = 15 ∧ guided.computedRoute.xLocal = 2 ∧
      (guided.setRu { guided.ru with via := .slot 0 }).ru.via = .slot 0 := by
  decide +kernel

theorem test_premises_ListenEnds :
    let s := (inPhase .listen gallery).setCl { (inPhase .listen gallery).cl with listen := some 400000 }
    s.cl.phase = .listen ∧ s.cl.listen = some 400000 ∧ s.nodeId ≠ 0 := by
  decide +kernel

/-! Chapter 6. -/

theorem test_premises_LockDriveAndJamComparison :
    let free := doorOf .exit .shutFree .shut .free
    let jams := { free with feedback := some .lock }
    free.cfg.kind ≠ .unused ∧ free.lock = .free ∧ gallery.freeCondition free = true ∧
      State.freeCondition (inMode .night gallery) free = false ∧
      (jams.cfg.feedback = true ∧ jams.contact = some .shut ∧ jams.feedback = some .lock) := by
  decide +kernel

theorem test_premises_DoorOpensAndIsHeld :
    let put (st : DoorState) (contact : Option Contact) : Door := { doorOf .staff st .shut .lock with contact := contact, openTimer := some 9 }
    let door (st : DoorState) (contact : Option Contact) : Door := (withDoor 1 (put st contact) gallery).door 1
    gallery.awake = true ∧ (door .shutLocked none).cfg.kind ≠ .unused ∧ (door .shutLocked none).contact = none ∧
      (door .access none).state = .access ∧ (door .shutLocked (some .shut)).contact ≠ some .opened ∧
      (door .shutFree (some .shut)).state = .shutFree ∧ (door .jammed (some .shut)).state = .jammed ∧
      gallery.call 9 = none ∧ (door .openTimed (some .opened)).state = .openTimed ∧
      (door .openTimed (some .opened)).openTimer = some 9 := by
  decide +kernel

theorem test_premises_DoorOpensAndIsHeld_shaped : (withDoor 1 (doorOf .staff .openTimed .opened .lock) gallery).Shaped :=
  shaped_setDoor gallery_shaped 1 _

theorem test_premises_DoorShuts :
    let door (st : DoorState) : Door := (withDoor 1 (doorOf .staff st .opened .lock) gallery).door 1
    gallery.awake = true ∧ (door .openFree).cfg.kind ≠ .unused ∧ (door .openFree).contact ≠ some .shut ∧
      (door .openFree).state = .openFree ∧ (door .openTimed).state = .openTimed ∧ (door .forced).state = .forced ∧
      (door .openLong).state = .openLong ∧ (door .jammed).state ∈ [.shutLocked, .shutFree, .access, .jammed] := by
  decide +kernel

theorem test_premises_RexPressGrants :
    gallery.awake = true ∧ gallery.DrivesFollow ∧ (gallery.door 7).cfg.kind = .unused ∧
      (gallery.door 1).cfg.kind ≠ .unused ∧ (gallery.door 1).state = .shutLocked ∧
      (gallery.door 0).state ∈ [.shutFree, .openFree, .openTimed, .openLong, .forced, .jammed] := by
  unfold State.DrivesFollow State.DriveFollows
  decide +kernel

theorem test_premises_AccessPulses :
    let pulsing := withDoor 1 { doorOf .staff .access .shut .free with accessTimer := some 9 } gallery
    let jammed := withDoor 0 (doorOf .exit .jammed .shut .free) gallery
    gallery.awake = true ∧ gallery.listens = true ∧ gallery.running = true ∧ 8 ≤ (8 : Byte).toNat ∧ (7 : Byte).toNat < 8 ∧
      (gallery.door 7).cfg.kind = .unused ∧ (jammed.door 0).state = .jammed ∧ jammed.DrivesFollow ∧
      (gallery.door 1).state ∈ [.shutLocked, .access] ∧ (gallery.door 0).state ∈ [.shutFree, .openFree] ∧
      gallery.receives = true ∧ jammed.receives = true ∧ wfSource 3 = true ∧ (3 : BitVec 6).toNat ≠ gallery.nodeId ∧
      (20 : Byte).toNat = gallery.nodeId ∧ (gallery.door 2).cfg.remote = false ∧ (gallery.door 1).cfg.remote = true ∧ (pulsing.door 1).state = .access ∧
      (pulsing.door 1).accessTimer = some 9 ∧ pulsing.DrivesFollow := by
  unfold State.DrivesFollow State.DriveFollows
  decide +kernel

/-- A jam comparison that runs. -/
def comparing (st : DoorState) : State := routed (withDoor 0 { doorOf .exit st .shut .free with jamTimer := some 9 } gallery)

theorem test_premises_JamsDeclaredAndCleared :
    let unread := withDoor 0 { doorOf .exit .shutFree .shut .free with feedback := none } gallery
    unread.awake = true ∧ (unread.door 0).cfg.kind ≠ .unused ∧ (unread.door 0).cfg.feedback = true ∧
      (unread.door 0).feedback = none ∧ (gallery.door 0).feedback ≠ some .lock ∧
      ((comparing .shutFree).door 0).jamTimer = some 9 ∧ ((comparing .shutFree).door 0).feedback = some .free ∧ ((comparing .shutFree).door 0).state ≠ .jammed ∧
      ((comparing .jammed).door 0).state = .jammed ∧ ((comparing .jammed).door 0).contact = some .shut := by
  decide +kernel

theorem test_premises_JamsDeclaredAndCleared_declared : (comparing .shutFree).RouteFollows := by
  unfold State.RouteFollows
  decide +kernel

theorem test_premises_JamsDeclaredAndCleared_cleared : (comparing .jammed).RouteFollows := by
  unfold State.RouteFollows
  decide +kernel

theorem test_premises_JamsDeclaredAndCleared_shaped : (comparing .shutFree).Shaped ∧ (comparing .jammed).Shaped := by
  constructor <;> constructor <;> decide +kernel

theorem test_premises_JamsDeclaredAndCleared_first_value :
    State.RouteFollows (withDoor 0 { doorOf .exit .shutFree .shut .free with feedback := none } gallery) := by
  unfold State.RouteFollows
  decide +kernel

/-! Chapter 7. -/

theorem test_premises_CallPointInputs :
    let unread := withPoint 0 ⟨.help, true, 2, none⟩ gallery
    let held := withCall 0 (callOf .help 2 0 3) gallery
    gallery.awake = true ∧ (gallery.point 0).kind ≠ .unused ∧ (gallery.point 1).kind = .fire ∧
      (gallery.point 1).input = some false ∧ (unread.point 0).input = none ∧ (unread.point 0).level = true ∧
      gallery.call 0 = none ∧ held.call 0 = some (callOf .help 2 0 3) ∧ (gallery.point 7).kind = .unused ∧
      ((withPoint 0 ⟨.help, false, 2, none⟩ gallery).point 0).level = false ∧
      ((withPoint 1 ⟨.fire, true, 0, some true⟩ gallery).point 1).input = some true := by
  decide +kernel

theorem test_premises_CallTimersExpire :
    let waiting := withCall 16 (callOf .fault 2 0 0) gallery
    let taken := withCall 16 (callOf .fault 2 0 3) gallery
    gallery.awake = true ∧ waiting.call 16 = some (callOf .fault 2 0 0) ∧
      (callOf .fault 2 0 0).unanswered = some 6000000 ∧ (callOf .fault 2 0 0).taker = 0 ∧
      taken.call 16 = some (callOf .fault 2 0 3) ∧ (callOf .fault 2 0 3).attend = some 60000000 ∧
      (callOf .fault 2 0 3).taker ≠ 0 ∧ (callOf .fault 2 0 3).reannounce = some 1600000 := by
  decide +kernel

theorem test_premises_calls_shaped : (withCall 16 (callOf .fault 2 0 3) gallery).Shaped := shaped_setCall gallery_shaped 16 _ (by decide)

theorem test_premises_TakeDecided_GiveupDecided :
    let waiting := withCall 0 (callOf .help 2 5 0) gallery
    let taken := withCall 0 (callOf .help 2 5 3) gallery
    gallery.awake = true ∧ gallery.receives = true ∧ waiting.receives = true ∧ taken.receives = true ∧ wfSource 3 = true ∧
      RefPayload.wf ⟨20, 0, 5⟩ = true ∧ (3 : BitVec 6).toNat ≠ gallery.nodeId ∧
      (62 : Byte).toNat ≠ gallery.nodeId ∧ (20 : Byte).toNat = gallery.nodeId ∧
      waiting.call 0 = some (callOf .help 2 5 0) ∧ (callOf .help 2 5 0).serial = (5 : Byte).toNat ∧
      (callOf .help 2 5 0).taker = 0 ∧ (callOf .help 2 5 0).serial ≠ (6 : Byte).toNat ∧
      taken.call 0 = some (callOf .help 2 5 3) ∧ (callOf .help 2 5 3).taker = (3 : BitVec 6).toNat ∧
      gallery.call 0 = none := by
  decide +kernel

theorem test_premises_CallsCleared :
    let taken := withCall 0 (callOf .help 2 5 3) gallery
    let waiting := withCall 0 (callOf .help 2 5 0) gallery
    let fire := withCall 1 (callOf .fire 0 5 3) (withPoint 1 ⟨.fire, true, 0, some true⟩ gallery)
    let first (s : State) (t : Bool) : Option Nat := s.tableOrder.find? fun source =>
      (s.call source).any fun c =>
        decide (((c.taker ≠ 0) ↔ t = true) ∧ ¬(c.kind = .fire ∧ (s.point source).input = some true))
    gallery.awake = true ∧ first taken true = some 0 ∧ taken.call 0 = some (callOf .help 2 5 3) ∧
      first waiting true = none ∧ first waiting false = some 0 ∧ first fire true = none ∧ first fire false = none ∧
      gallery.receives = true ∧ taken.receives = true ∧ fire.receives = true ∧ ClearPayload.wf ⟨20, 1, 5, 3⟩ = true ∧ (20 : Byte).toNat ≠ (3 : BitVec 6).toNat ∧
      fire.call 1 = some (callOf .fire 0 5 3) ∧ (fire.point 1).input = some true ∧ gallery.call 1 = none := by
  decide +kernel

/-! Chapter 8. -/

theorem test_premises_CallArrives :
    let p : CallPayload := ⟨2, 0, 1, 2, false, false, false, 0⟩
    let full := withList ((List.range 24).map fun i => entryOf (i + 30) 0 1 (if i = 5 then .others else .opened) i) station
    let taking := withList [entryOf 4 1 3 .taking 5] station
    station.awake = true ∧ station.receives = true ∧ full.receives = true ∧ gallery.receives = true ∧ wfSource 3 = true ∧ p.wf = true ∧ (3 : BitVec 6).toNat ≠ station.nodeId ∧
      gallery.cl.node.role = .gallery ∧ station.cl.node.role = .station ∧
      (station.al.find? fun x => decide (x.origin = 5 ∧ x.source = 2)) = none ∧ station.al.length < 24 ∧
      full.al.length = 24 ∧ (displaced full.al 1).map (·.origin) = some 35 ∧ displaced full.al 3 = none ∧
      (station.al.find? fun x => decide (x.origin = 3 ∧ x.source = 2)) = some (entryOf 3 2 1 .opened 10) ∧
      (entryOf 3 2 1 .opened 10).serial = (1 : BitVec 4).toNat ∧ (entryOf 3 2 1 .opened 10).serial ≠ (2 : BitVec 4).toNat ∧
      (taking.entry 4 1).map (·.state) = some .taking := by
  decide +kernel

theorem test_premises_CallArrives_bounded :
    (withList ((List.range 24).map fun i => entryOf (i + 30) 0 1 .opened i) station).Bounded := by
  constructor <;> decide +kernel

theorem test_premises_CallArrives_displaced :
    let others := entryOf 12 16 2 .others 1
    let mine := entryOf 17 9 3 .mine 3
    [others, mine] = [] ++ others :: [mine] ∧ (others.state = .others ∧ 2 ≤ others.priority) ∧ mine.state ≠ .others ∧
      (∀ x ∈ [mine], ¬(x.state = .others ∧ 2 ≤ x.priority)) ∧ 2 < mine.priority ∧
      (∀ x ∈ [mine], ¬(x.state = .others ∧ 3 ≤ x.priority) ∧ ¬3 < x.priority) := by
  decide +kernel

theorem test_premises_EntriesRemovedOrReopened :
    station.awake = true ∧ station.receives = true ∧ wfSource 4 = true ∧ ClearPayload.wf ⟨4, 0, 1, 3⟩ = true ∧ (4 : BitVec 6).toNat ≠ station.nodeId ∧
      (4 : Byte).toNat = (4 : BitVec 6).toNat ∧ station.cl.node.role = .station ∧
      station.entry 4 0 = some (entryOf 4 0 2 .mine 5) ∧ (entryOf 4 0 2 .mine 5).serial = (1 : Byte).toNat ∧
      (entryOf 4 0 2 .mine 5).serial ≠ (2 : Byte).toNat ∧ station.entry 4 16 = none ∧
      (entryOf 4 0 2 .mine 5).expiry = some 10000000 ∧ station.entry 4 1 = some (entryOf 4 1 3 .taking 5) ∧
      (entryOf 4 1 3 .taking 5).takeTimeout = some 500000 ∧ (entryOf 4 1 3 .taking 5).state = .taking := by
  decide +kernel

theorem test_premises_StationRequestsDecided :
    let r (s : State) (body : Payload) (cls : Nat) : OfferAnswer := (s.lc.offer s.offersOpen body cls).2
    let crowded := (withQueue ((List.range 8).map fun i => txOf (.order ⟨0, 63, 0⟩) 0 i false) station)
    station.listens = true ∧ station.running = true ∧ station.cl.node.role = .station ∧
      ¬(1 ≤ (63 : Byte).toNat ∧ (63 : Byte).toNat ≤ 62) ∧ (62 : Byte).toNat ≤ 62 ∧ (16 : Byte).toNat ≤ 16 ∧
      station.entry 62 16 = none ∧ station.entry 3 2 = some (entryOf 3 2 1 .opened 10) ∧
      station.entry 4 0 = some (entryOf 4 0 2 .mine 5) ∧ r station (.take ⟨3, 2, 1⟩) 1 = .entered ∧
      r crowded (.take ⟨3, 2, 1⟩) 1 ≠ .entered ∧ r crowded (.order ⟨2, 63, 0⟩) 0 ≠ .entered ∧
      r station (.order ⟨6, 63, 7⟩) 0 = .entered ∧ r station (.order ⟨3, 1, 0⟩) 0 = .entered ∧ ¬(7 : Byte).toNat ≤ 6 := by
  decide +kernel

/-! Chapter 9. -/

theorem test_premises_SignsStep :
    let s := gallery.setSd { gallery.sd with signTimer := some 6250 }
    s.awake = true ∧ s.sd.signTimer = some 6250 ∧ (s.sign 3).used = false ∧ (s.sign 0).used = true ∧
      (s.sign 0).noCurrent < 31 ∧ 31 ≤ ((withSign 0 { s.sign 0 with noCurrent := 31 } s).sign 0).noCurrent ∧
      (1 : BitVec 4).getLsbD 0 = true ∧ (0 : BitVec 4).getLsbD 0 = false := by
  decide +kernel

theorem test_premises_StripSteps :
    let at_ (mode : StripMode) (dir : Option Dir) (flash check latch : Option Nat) : State :=
      withStrip 0 { (striped none).strip 0 with
        mode := mode, dir := dir, flash := flash, check := check, latch := latch, timer := some 20000 } gallery
    (at_ .steady none none none none).awake = true ∧ ((at_ .steady none none none none).strip 0).timer = some 20000 ∧
      ((at_ .noRoute none (some 65535) none none).strip 0).flash = some 65535 ∧
      ((at_ .chase (some .forward) none none (some 7)).strip 0).latch = some 7 ∧
      ((at_ .chase (some .reverse) none none none).strip 0).dir = some .reverse ∧
      ((at_ .check none none (some 2) none).strip 0).check = some 2 ∧
      ((at_ .check none none (some 1) none).strip 0).mode = .check ∧ gallery.ru.evacuating = none := by
  decide +kernel

theorem test_premises_StripSteps_shaped (v : Strip) : (withStrip 0 v gallery).Shaped := shaped_setStrip gallery_shaped 0 v

theorem test_premises_LampCheckAndCadence :
    let evacuating := after (.orderEvacuateOn 3 63) gallery
    let alert := gallery.setSd { gallery.sd with cadence := some true, cadenceTimer := some 9 }
    gallery.listens = true ∧ gallery.running = true ∧ gallery.ru.evacuating = none ∧ evacuating.ru.evacuating ≠ none ∧
      evacuating.listens = true ∧ evacuating.running = true ∧ (gallery.strip 1).n = 0 ∧ ((striped none).strip 0).n ≠ 0 ∧
      alert.awake = true ∧ alert.sd.cadenceTimer = some 9 := by
  decide +kernel

theorem test_premises_LampsCleared :
    gallery.listens = true ∧ gallery.running = true ∧ (inPhase .listen gallery).listens = true ∧
      (inPhase .listen gallery).running = false := by
  decide +kernel

/-! Chapter 10. -/

theorem test_premises_TestRequestsDecided :
    let in_ (st : TestState) (low : Option Bool) : State := gallery.setDt { gallery.dt with state := st, battery := low }
    let far := gallery.setRu { gallery.ru with f := 14 }
    let ordered := gallery.setNt { gallery.nt with evacuate := true }
    let peer := withSlot 3 { near 9 with test := true } gallery
    let nightOnly := gallery.setCl { gallery.cl with node := { gallery.cl.node with nightOnly := true } }
    gallery.listens = true ∧ gallery.running = true ∧ ¬(1 ≤ (0 : Byte).toNat ∧ (0 : Byte).toNat ≤ 180) ∧
      ¬(1 ≤ (181 : Byte).toNat ∧ (181 : Byte).toNat ≤ 180) ∧ (180 : Byte).toNat ≤ 180 ∧ gallery.dt.state = .idle ∧
      (in_ .running none).dt.state ≠ .idle ∧ (in_ .suspended none).dt.state = .suspended ∧
      (inGallery .caution gallery).fl.gallery ≠ .quiet ∧ far.ru.f ≠ 15 ∧ ordered.nt.evacuate = true ∧
      peer.noPeerTesting = false ∧ gallery.noPeerTesting = true ∧ nightOnly.cl.node.nightOnly = true ∧
      nightOnly.nt.mode = .day ∧ gallery.fl.gallery = .quiet ∧ gallery.ru.f = 15 ∧ gallery.nt.evacuate = false ∧
      gallery.cl.node.nightOnly = false ∧ gallery.dt.battery ≠ some true ∧ (in_ .idle (some true)).dt.battery = some true := by
  decide +kernel

theorem test_premises_TestAborted :
    (inPhase .listen gallery).running = false ∧ gallery.listens = true ∧ gallery.running = true ∧ gallery.dt.state = .idle ∧
      (after (.testStart 2) gallery).dt.state ≠ .idle := by
  decide +kernel

theorem test_premises_TestTimersAndBattery :
    let s := after (.testStart 2) gallery
    let t := after .minuteTimerExpiry s
    s.awake = true ∧ s.dt.state = .running ∧ s.dt.minute = some 6000000 ∧ s.dt.completed = some 0 ∧
      s.dt.requested ≠ some (0 + 1) ∧ t.dt.completed = some 1 ∧ t.dt.requested = some (1 + 1) ∧
      (after .testSuspend (atPort .begun t)).dt.suspend = some (6000000 + 60 * Config.minute) ∧
      gallery.dt.state ≠ .running := by
  decide +kernel

/-! Chapter 11. -/

theorem test_premises_RestartsAndTransactions :
    (inPhase .held gallery).cl.phase = .held ∧ gallery.cl.phase ≠ .held ∧ gallery.listens = true ∧
      (after .restart gallery).ap.port = .restartDecoded ∧ gallery.ap.port ≠ .restartDecoded := by
  decide +kernel

theorem test_premises_PortRefusals :
    (atPort .decoded gallery).listens = false ∧ gallery.listens = true ∧ requestLength 0x01 ≠ some (1 : Byte).toNat ∧
      requestLength 0x14 ≠ some (0 : Byte).toNat ∧ (inPhase .loading gallery).listens = true ∧
      (inPhase .loading gallery).awake = false ∧ (inPhase .listen gallery).running = false ∧
      gallery.cl.node.role = .gallery ∧ gallery.awake = true ∧ gallery.running = true ∧
      commandGroup .readNode = .statusRead ∧ commandGroup (.listRead 0) = .stationRead ∧
      commandGroup .fireReset = .change ∧ commandGroup (.take 1 0) = .stationChange := by
  decide +kernel

theorem test_premises_StatusReadsAnswered :
    station.listens = true ∧ station.awake = true ∧ station.cl.node.role = .station ∧ (15 : Byte).toNat < 16 ∧
      16 ≤ (16 : Byte).toNat ∧ (7 : Byte).toNat < 8 ∧ 8 ≤ (8 : Byte).toNat ∧ (16 : Byte).toNat < 17 ∧
      17 ≤ (17 : Byte).toNat ∧ (23 : Byte).toNat < 24 ∧ 24 ≤ (24 : Byte).toNat ∧ station.ap.reports = [] ∧
      (station.report .doorHeld 1 30).ap.reports = ⟨.doorHeld, 1, 30, 0, false⟩ :: [] := by
  decide +kernel

theorem test_premises_ConfigurationTaken :
    State.reset.cl.phase = .loading ∧ gallery.cl.phase ≠ .loading ∧ imageFailure image = none := by
  decide +kernel

/-- Each failure of R174 on an image that passes the tests before it, and the check of the image as the statement computes it. -/
theorem test_premises_ConfigurationTaken_failures :
    imageFailure (image.take 255) = some .noAck ∧ imageFailure (image.set 1 0x48) = some .marker ∧
      imageFailure (image.set 3 0xFF) = some .length ∧ imageFailure (image.set 255 241) = some .crc ∧
      imageFailure ((image.set 4 63).take 254 ++ [118, 19]) = some .nodeId := by
  decide +kernel

theorem test_premises_ConfigurationTaken_check :
    (((image.take 254).flatMap fun b => [7, 6, 5, 4, 3, 2, 1, 0].map b.getLsbD).foldl
      (fun r bit => if (r / 32768 + bit.toNat) % 2 = 1 then Nat.xor (2 * r % 65536) 0x1021 else 2 * r % 65536) 0xFFFF) =
      142 * 256 + 242 := by
  decide +kernel

/-! ### The codecs that stand beside the commands -/

/-- R46: what is decoded first, the length or the stuff violation, classes the telegram. -/
theorem test_bad_length_before_stuff_violation :
    let head (len : List Bool) : List Bool :=
      [false, false, true, false, false, false, true, false, true, false, false, true, false] ++ len ++ List.replicate 9 true
    receive (head [true, true, false, true]) = .badLength ∧ receive (head [false, false, true, true]) = .framing := by
  decide

/-- R169: the three points at which a request is decoded, and what is shifted out beside its bytes. -/
theorem test_port_bytes :
    portRead [] = none ∧ portRead [0x99] = some (.unknownRequest 0x99 0, 1) ∧ portRead [0x10] = none ∧
      portRead [0x10, 3] = some (.unknownRequest 0x10 3, 2) ∧ portRead [0x10, 2, 40] = none ∧
      portRead [0x10, 2, 40, 12, 0] = some (.take 40 12, 4) ∧ portRead [0x01, 0] = some (.readNode, 2) ∧
      (List.range 6).map (shiftedOut 4 [0x00]) = [0xFF, 0xFF, 0xFF, 0xFF, 0x00, 0xFF] ∧
      transactionCommands [0x10, 2, 40] = [.transactionBegin, .transactionEnd] ∧
      transactionCommands [0x20, 0] = [.transactionBegin, .fireReset, .transactionEnd] := by
  decide

/-- R91: a level held for 200 ms is qualified; a press is a change to PRESSED from RELEASED alone. -/
theorem test_qualification :
    let q := (Qualifier.atStart false 0).settle Config.qualify 20000
    q.value = some false ∧ ((Qualifier.atStart false 0).settle Config.qualify 19999).value = none ∧
      ((q.change Config.qualify true 30000).settle Config.qualify 49999).value = some false ∧
      ((q.change Config.qualify true 30000).settle Config.qualify 50000).value = some true ∧
      rexCommand 3 none (some true) = none ∧ rexCommand 3 (some false) (some true) = some (.rexPress 3) ∧
      contactCommand 3 (some .opened) (some .shut) = some (.doorShutting 3) := by
  decide

/-! ### More of one step -/

/-- R4: a slot granted is granted once, though the channel is isolated before its sample. -/
theorem test_odd_slot_granted_once :
    let waiting (slot : Nat) : Channel := { smoke .verify 1600 15 with lastOdd := slot * Config.slot }
    let s := withChannel 5 (waiting 3) (withChannel 11 (waiting 2) gallery)
    let once := after .oddSlotGrant (s.setDs { s.ds with nextSlot := 25 })
    let twice := after .oddSlotGrant (after (.isolate 11) once)
    once.ds.grant = some (11, 25) ∧ twice.ds.grant = some (5, 27) ∧ (twice.channel 5).lastOdd = 27 * Config.slot := by
  decide +kernel

/-- R115: a FIRE point's press that starts an evacuation offers the CALLs of one event in table order, HELP calls at 0 among them. -/
theorem test_calls_announced_in_table_order :
    let s := withCall 0 (callOf .help 2 0 0) gallery
    let t := after (.firePointLevelChange 1 true) s
    t.tableOrder = [0, 1] ∧
      (t.lc.queue.filterMap fun e => match e.body with | .call p => some p.source.toNat | _ => none) = [0, 1] ∧
      t.lc.queue.map (·.cls) = [0, 1, 1] := by
  decide +kernel

/-! ### Premises of the clauses that follow what other blocks do -/

/-- The gallery with the last STATE offered that it has. -/
def announcedGallery : State := gallery.setLc { gallery.lc with lastState := some gallery.statePayload }

theorem test_premises_StepKeepsSignals_latch :
    let s := gallery.setNt { gallery.nt with latch := some 15 }
    s.Shaped ∧ s.LatchFollows ∧ gallery.Shaped := by
  refine ⟨by constructor <;> decide +kernel, ?_, gallery_shaped⟩
  unfold State.LatchFollows
  rintro _ ⟨⟩
  decide +kernel

theorem test_premises_ContentionDecided_collision :
    let waiting := withQueue [{ txOf (callBody 3) 1 4 false with collisions := 3 }, txOf stateBody 2 1 false] gallery
    let sending := after .contend waiting
    let faulty := sending.setLc { sending.lc with duplicateId := true }
    sending.awake = true ∧ sending.lc.sending ≠ none ∧ sending.hasFault = false ∧
      sending.lc.queue = [] ++ { txOf (callBody 3) 1 4 true with collisions := 3 } :: [txOf stateBody 2 1 false] ∧
      faulty.hasFault = true ∧ faulty.lc.sending ≠ none ∧ (txOf (callBody 3) 1 4 true).collisions ≠ 3 := by
  decide +kernel

theorem test_premises_ContentionDecided_shaped :
    (after .contend (withQueue [{ txOf (callBody 3) 1 4 false with collisions := 3 }, txOf stateBody 2 1 false] gallery)).Shaped := by
  constructor <;> decide +kernel

theorem test_premises_TransmissionCompletes_take_and_order :
    let sending (body : Payload) (s : State) : State :=
      (withQueue [txOf body 1 4 true] s).setLc { (withQueue [txOf body 1 4 true] s).lc with sending := some ⟨1, 20, body⟩ }
    let gone : RefPayload := ⟨7, 1, 1⟩
    let reopened : RefPayload := ⟨3, 2, 1⟩
    (sending (.take gone) station).entry gone.origin.toNat gone.source.toNat = none ∧
      (station.entry reopened.origin.toNat reopened.source.toNat).map (·.state) = some .opened ∧
      (sending (.order ⟨4, 63, 0⟩) station).lc.sending = some ⟨1, 20, .order ⟨4, 63, 0⟩⟩ ∧ 4 ≤ (4 : Byte).toNat ∧
      (2 : Byte).toNat ≤ 3 ∧ (sending (.call ⟨2, 0, 1, 2, false, false, false, 0⟩) station).running = true := by
  decide +kernel

/-- The contents change at this command, and the STATE is the one of the moment before it. -/
theorem test_premises_RefreshOffersState_change :
    let t := after (.orderModeNight 3 63) announcedGallery
    announcedGallery.running = true ∧ announcedGallery.nodeId ≠ 0 ∧ t.running = true ∧
      t.statePayload ≠ announcedGallery.statePayload ∧
      exec (.orderModeNight 3 63) announcedGallery = .next t ∧
      step { announcedGallery with pending := [.orderModeNight 3 63] } = .next t := by
  refine ⟨?_, ?_, ?_, ?_, rfl, rfl⟩ <;> decide +kernel

theorem test_premises_invariants :
    announcedGallery.TestFollows ∧ announcedGallery.LastStateFollows ∧ (withCall 0 (callOf .help 2 0 0) gallery).PrioritiesFollow := by
  unfold State.TestFollows State.LastStateFollows State.PrioritiesFollow
  decide +kernel

/-- A listening node with a HELP call, with an id and with none. -/
def listening (id : Nat) : State :=
  let s := withCall 0 (callOf .help 2 0 0) (inPhase .listen gallery)
  s.setCl { s.cl with listen := some 400000, node := { s.cl.node with id := id } }

theorem test_premises_ListenEnds_calls :
    (listening 20).Shaped ∧ (listening 20).PrioritiesFollow ∧ (listening 20).cl.phase = .listen ∧
      (listening 20).cl.listen = some 400000 ∧ (listening 20).nodeId ≠ 0 ∧ (listening 0).nodeId = 0 ∧
      (listening 0).cl.phase = .listen ∧ (listening 20).call 0 = some (callOf .help 2 0 0) ∧ (listening 20).call 16 = none := by
  refine ⟨by constructor <;> decide +kernel, ?_, ?_⟩
  · unfold State.PrioritiesFollow
    decide +kernel
  · decide +kernel

/-- R105: the free condition begins at one command and ends at another, neither of them the doors' own. -/
theorem test_premises_LockDriveAndJamComparison_moves :
    let evacuating := after (.orderEvacuateOn 3 63) gallery
    let night := after (.orderModeNight 3 63) gallery
    actsOnDoors (.orderEvacuateOn 3 63) = false ∧ actsOnDoors (.orderModeNight 3 63) = false ∧ gallery.awake = true ∧
      exec (.orderEvacuateOn 3 63) gallery = .next evacuating ∧ exec (.orderModeNight 3 63) gallery = .next night ∧
      evacuating.awake = true ∧ night.awake = true ∧ (gallery.door 1).state = .shutLocked ∧
      gallery.freeCondition (gallery.door 1) = false ∧ evacuating.freeCondition (gallery.door 1) = true ∧
      (gallery.door 2).state = .openFree ∧ gallery.freeCondition (gallery.door 2) = true ∧
      night.freeCondition (gallery.door 2) = false := by
  refine ⟨rfl, rfl, ?_, rfl, rfl, ?_⟩ <;> decide +kernel

/-- R117 at a source that has a call: replaced by the more urgent alarm, or announced again. -/
theorem test_premises_DoorOpensAndIsHeld_alarms :
    let held := withCall 9 (callOf .held 3 0 3) gallery
    let forced := withCall 9 (callOf .forced 0 0 3) gallery
    held.call 9 = some (callOf .held 3 0 3) ∧ 1 < (callOf .held 3 0 3).base ∧ ¬3 < (callOf .held 3 0 3).base ∧
      forced.call 9 = some (callOf .forced 0 0 3) ∧ ¬0 < (callOf .forced 0 0 3).base ∧ held.awake = true ∧
      (held.door 1).state = .shutLocked ∧ (held.door 1).cfg.kind ≠ .unused ∧ (held.door 1).contact ≠ some .opened := by
  decide +kernel

theorem test_premises_DoorOpensAndIsHeld_alarms_shaped : (withCall 9 (callOf .held 3 0 3) gallery).Shaped :=
  shaped_setCall gallery_shaped 9 _ (by decide)

theorem test_premises_CallPointInputs_fault :
    let called := withCall 16 (callOf .fault 2 0 3) gallery
    let faulty := after (.duplicateId .state) gallery
    gallery.hasFault = false ∧ gallery.call 16 = none ∧ called.hasFault = false ∧
      called.call 16 = some (callOf .fault 2 0 3) ∧ faulty.hasFault = true ∧ faulty.awake = true := by
  decide +kernel

theorem test_premises_CallTimersExpire_repriced :
    let s := withCall 0 (callOf .help 2 0 0) gallery
    let t := after (.orderEvacuateOn 3 63) s
    s.awake = true ∧ exec (.orderEvacuateOn 3 63) s = .next t ∧ (s.ru.evacuating = none ∧ t.ru.evacuating ≠ none) ∧
      s.call 0 = some (callOf .help 2 0 0) ∧ (t.call 0).map (·.current) = some 0 ∧ (callOf .help 2 0 0).current ≠ 0 ∧
      t.running = true ∧ t.nodeId ≠ 0 := by
  refine ⟨?_, rfl, ?_⟩ <;> decide +kernel

theorem test_premises_StationRequestsDecided_flags :
    let r (code target : Byte) : OfferAnswer := (station.lc.offer station.offersOpen (.order ⟨code, target, 0⟩) 0).2
    (∀ code ∈ ([0, 1, 2, 3, 4, 5, 6] : List Byte), r code 1 = .entered ∧ r code 63 = .entered) ∧
      (3 : Byte).toNat ≤ 3 ∧ 4 ≤ (4 : Byte).toNat ∧ (6 : Byte).toNat ≤ 6 ∧ ¬(1 ≤ (0 : Byte).toNat) ∧ ¬((64 : Byte).toNat ≤ 63) ∧
      ¬((8 : Byte).toNat ≤ 7) := by
  decide +kernel

/-- A test that runs where automatic resumption is configured. -/
def testing : State :=
  let s := after (.testStart 2) gallery
  s.setCl { s.cl with node := { s.cl.node with autoResume := true } }

/-- A test that the building has suspended. -/
def suspendedTest : State := after (.orderEvacuateOn 3 63) testing

/-- A test beside a testing neighbour on either side of the id, and one suspended by the building. -/
theorem test_premises_TestAborted_building :
    testing.running = true ∧ testing.receives = true ∧ suspendedTest.receives = true ∧ testing.dt.state = .running ∧ suspendedTest.dt.state = .suspended ∧
      suspendedTest.dt.cause ≠ some .host ∧ suspendedTest.cl.node.autoResume = true ∧ suspendedTest.nt.evacuate = true ∧
      suspendedTest.fl.gallery = .quiet ∧ suspendedTest.ru.f = 15 ∧ suspendedTest.noPeerTesting = true ∧
      suspendedTest.dt.battery ≠ some true ∧ (5 : BitVec 6).toNat < testing.nodeId ∧
      testing.nodeId ≤ (62 : BitVec 6).toNat ∧ (testing.slot 0).id = (5 : BitVec 6).toNat ∧
      ((withSlot 3 (near 62) testing).slot 3).id = (62 : BitVec 6).toNat ∧
      StatePayload.wf { stateOf .quiet 15 15 with testRunning := true } = true := by
  decide +kernel

theorem test_premises_TestAborted_running :
    testing.TestFollows ∧ (withSlot 3 (near 62) testing).TestFollows ∧ suspendedTest.TestFollows := by
  unfold State.TestFollows
  refine ⟨?_, ?_, ?_⟩ <;> decide +kernel

theorem test_premises_TestAborted_route_running : testing.RouteFollows := by
  unfold State.RouteFollows
  decide +kernel

theorem test_premises_TestAborted_route_suspended : suspendedTest.RouteFollows := by
  unfold State.RouteFollows
  decide +kernel

/-- A node in LOADING whose last test the restart cut short. -/
theorem test_premises_ConfigurationTaken_marker :
    (State.reset.setMarker true).cl.phase = .loading ∧ (State.reset.setMarker true).marker = true := by
  decide +kernel

/-! Premises of the clauses on reports and on further rows. -/

theorem test_premises_SampleOutsideNormal_drift :
    let s := withChannel 6 { smoke .normal 1604 0 with b := 400 } (gallery.setDs { gallery.ds with drift := some 100 })
    s.awake = true ∧ (after .driftTimerExpiry s).awake = true ∧ exec .driftTimerExpiry s = .next (after .driftTimerExpiry s) ∧
      (s.channel 6).driftLimit = false ∧ ((after .driftTimerExpiry s).channel 6).driftLimit = true := by
  refine ⟨?_, ?_, rfl, ?_⟩ <;> decide +kernel

/-- A smoke alarm beside a verifying channel, and a neighbour that announces SUSPECT. -/
def nearFire (k : Slot) : State :=
  withSlot 3 k (withChannel 7 (smoke .verify 2000 1) (withChannel 3 (smoke .alarm 2000 0) (inGallery .suspect gallery)))

/-- Each cause of FIRE is reached: HEAT, POINT, DOUBLE, NEIGHBOUR and, with no confirm delay, DELAY. -/
theorem test_fire_causes :
    let cause (c : Instr) (s : State) : CauseRecord := (after c s).fl.cause
    let lone := withChannel 7 (smoke .verify 2000 1) gallery
    cause (.sampleArrival 9 900 false) (withChannel 9 { heat 3600 with state := .verify, verify := 1 } gallery) =
        ⟨.heat, some 9, none, some 0⟩ ∧
      cause (.callPointPress 1) gallery = ⟨.point, some 1, none, some 0⟩ ∧
      cause (.sampleArrival 7 500 false) (nearFire (near 9)) = ⟨.double, some 3, none, some 0⟩ ∧
      cause (.sampleArrival 7 500 false) (withSlot 3 { near 9 with fire := .suspect } lone) =
        ⟨.neighbour, some 7, some 3, some 0⟩ ∧
      cause (.sampleArrival 7 500 false) (lone.setCl { lone.cl with node := { lone.cl.node with tc := 0 } }) =
        ⟨.delay, some 7, none, some 0⟩ := by
  decide +kernel

theorem test_premises_FireTimersExpire_causes :
    (nearFire (near 9)).awake = true ∧ (after (.sampleArrival 7 500 false) (nearFire (near 9))).awake = true ∧
      (nearFire (near 9)).fl.gallery = .suspect ∧
      (after (.sampleArrival 7 500 false) (nearFire (near 9))).fl.gallery = .fire := by
  decide +kernel

theorem test_premises_FireTimersExpire_shaped : (nearFire (near 9)).Shaped := by constructor <;> decide +kernel

theorem test_premises_FireResetDecided_held :
    let s := withSlot 3 { near 9 with presence := .silent, fire := .fire, f := 0 } gallery
    s.activeFirePoint = none ∧ (63 : Byte).toNat = 63 ∧ (s.slot 3).id ≠ 0 ∧ (s.slot 3).presence = .silent ∧
      (s.slot 3).fire ≠ .quiet ∧ (after (.orderFireReset 3 63) s).reported.contains (.neighbourCleared, 3, 3) = true ∧
      (after (.orderFireReset 3 63) s).reported.contains (.fireReset, 63, 3) = true := by
  decide +kernel

theorem test_premises_TelegramsNotDispatched_own :
    wfSource 20 = true ∧ (20 : BitVec 6).toNat = gallery.nodeId ∧ CallPayload.wf ⟨16, 5, 15, 3, true, true, true, 62⟩ = true ∧
      RefPayload.wf ⟨20, 16, 15⟩ = true ∧ ClearPayload.wf ⟨20, 16, 15, 62⟩ = true ∧ (63 : Byte).toNat ≤ 63 ∧
      (7 : Byte).toNat ≤ 7 ∧ (after (.takeArrival 20 ⟨20, 16, 15⟩) gallery).reported =
        [(.duplicateId, 20, 3), (.callRaised, 16, 0x0502)] := by
  decide +kernel

/-- A node whose only way out is a neighbour. -/
def guided (x : Nat) : State :=
  routed (withSlot 0 { near 5 with x := x } (withDoor 0 (doorOf .exit .jammed .shut .free) gallery))

/-- R88: NO_ROUTE as the last route goes and as one comes back, by a via slot 0, NONE and LOCAL; EVACUATING both ways. -/
theorem test_route_reports :
    let heard (x : BitVec 4) (s : State) : State := after (.stateArrival 5 (stateOf .quiet 15 x)) s
    let door := { doorOf .exit .shutFree .shut .free with feedback := some .lock, jamTimer := some 300000 }
    let jammed := after (.jamComparisonExpiry 0) (routed (withDoor 0 door gallery))
    let evacuating := after (.orderEvacuateOn 3 63) gallery
    (guided 1).running = true ∧ (guided 1).ru.xLocal = 2 ∧ (heard 15 (guided 1)).reported = [(.noRoute, 0, 0xFF01)] ∧
      (guided 15).ru.xLocal = 15 ∧ (heard 1 (guided 15)).reported = [(.noRoute, 9, 0x0000)] ∧
      jammed.reported.contains (.noRoute, 8, 0xFF01) = true ∧ evacuating.ru.evacuating = some .building ∧
      (after (.orderEvacuateOff 3 63) evacuating).reported.contains (.evacuating, 15, 0xFF00) = true := by
  decide +kernel

theorem test_premises_RouteComputed_reports : (guided 1).RouteFollows ∧ (guided 15).RouteFollows := by
  unfold State.RouteFollows
  refine ⟨?_, ?_⟩ <;> decide +kernel

theorem test_premises_CallPointInputs_announced :
    let held := withCall 0 (callOf .help 2 0 3) gallery
    let t := after (.callPointPress 0) held
    held.PrioritiesFollow ∧ gallery.PrioritiesFollow ∧ t.running = true ∧ t.nodeId ≠ 0 ∧
      (t.call 0).map (fun c => (c.reminder, c.reannounce)) = some (true, some (32 * Config.second)) ∧
      t.lc.queue.map (·.body.kindCode) = [2] := by
  unfold State.PrioritiesFollow
  decide +kernel

theorem test_premises_SignsStep_fault :
    let s := withSign 0 { gallery.sign 0 with noCurrent := 31 } (gallery.setSd { gallery.sd with signTimer := some 6250 })
    (s.sign 0).fault = false ∧ (after (.signStepExpiry 0) s).reported.contains (.signLampFault, 0, 0) = true := by
  decide +kernel

/-! Reception while a telegram is on the line, after a collision, and since restart. -/

/-- The gallery with a CALL on the line, and after a collision of it. -/
def sendingCall : State := after .contend (withQueue [txOf (callBody 3) 1 4 false] gallery)

def collided : State := after .lineCollision sendingCall

/-- A STATE of node 9 in FIRE, which slot 3 names. -/
def heardState : Instr := .stateArrival 9 (stateOf .fire 0 15)

/-- R46, R50, R51: nothing is received while the node sends, all again after a loss; and all again after a collision once the node has
contended and lost, or a stuck period has ended. -/
theorem test_reception :
    let lost := after .loss sendingCall
    let stuck := after .stuckPeriodEnd (after .stuckPeriodStart collided)
    after heardState sendingCall = sendingCall ∧ after (.checkError .badCheck) sendingCall = sendingCall ∧
      ((after heardState lost).slot 3).fire = .fire ∧ collided.lc.deaf = some 0 ∧ (after .contend collided).lc.deaf = none ∧
      ((after heardState (after .loss (after .contend collided))).slot 3).fire = .fire ∧ stuck.receives = true := by
  decide +kernel

/-- A node in LISTEN that has not seen the line idle, as the end of LOADING leaves it, and the node in RUN after that. -/
def started : State := (listening 20).setLc { (listening 20).lc with deaf := some 22 }
def speaking : State := after .listenTimerExpiry started

/-- R41, R51: after a collision the STATE that ends before a whole one fits is the rest of the traffic, and is ignored; the one after it, and
one that begins after the collision, are received. -/
theorem test_reception_after_collision :
    let rest := after heardState (collided.setNow 121)
    rest = (collided.setNow 121).idle ∧ rest.receives = true ∧ ((after heardState rest).slot 3).fire = .fire ∧
      after heardState (collided.setNow 150) = after heardState (collided.setNow 150).idle ∧
      ((after heardState (collided.setNow 150)).slot 3).fire = .fire := by
  decide +kernel

/-- R61: a telegram already in progress when the node leaves LOADING is ignored; 11.6.1: a STATE that arrives 1.2 s later is received. -/
theorem test_reception_after_restart :
    let rest := after heardState (started.setNow 143)
    let heard := after heardState (started.setNow 120000)
    (started.setNow 21) = after heardState (started.setNow 21) ∧ rest = (started.setNow 143).idle ∧ rest.receives = true ∧
      ((after heardState (started.setNow 172)).slot 3).fire = .fire ∧ (heard.slot 3).presence = .fresh ∧
      heard.cl.phase = .listen ∧ speaking.lc.deaf = some 22 ∧ (after .contend speaking).lc.deaf = none := by
  decide +kernel

/-- At the end of a telegram whose stuff bits leave it open, it is received or ignored; the one after it is received in either case. -/
theorem heardState_between {s : State} (a : s.awake = true) (n : s.lc.sending = none) {hears : Nat}
    (d : s.lc.deaf = some hears) (l : hears + 122 ≤ s.now) (h : s.now < hears + 150) :
    after heardState s = if Config.freeIdle s.freeCount then after heardState s.idleChosen else s.idleChosen := by
  have e : exec heardState s = if Config.freeIdle s.freeCount then exec heardState s.idleChosen else .next s.idleChosen :=
    State.arrival_between (body := .state (stateOf .fire 0 15)) a n d l h 9
  unfold after
  rw [e]
  cases Config.freeIdle s.freeCount <;> rfl

theorem test_reception_between (received : Bool) :
    let open_ (s : State) (now : Nat) : Prop := Config.freeIdle (s.setNow now).freeCount = received →
      ((after heardState (s.setNow now)).slot 3).fire = (if received then .fire else .quiet) ∧
        (after heardState (s.setNow now)).receives = true
    open_ collided 122 ∧ open_ collided 149 ∧ open_ started 144 ∧ open_ started 171 := by
  refine ⟨fun hf => ?_, fun hf => ?_, fun hf => ?_, fun hf => ?_⟩
  · rw [heardState_between (hears := 0) (by decide +kernel) (by decide +kernel) (by decide +kernel) (by decide +kernel)
      (by decide +kernel), hf]
    cases received <;> decide +kernel
  · rw [heardState_between (hears := 0) (by decide +kernel) (by decide +kernel) (by decide +kernel) (by decide +kernel)
      (by decide +kernel), hf]
    cases received <;> decide +kernel
  · rw [heardState_between (hears := 22) (by decide +kernel) (by decide +kernel) (by decide +kernel) (by decide +kernel)
      (by decide +kernel), hf]
    cases received <;> decide +kernel
  · rw [heardState_between (hears := 22) (by decide +kernel) (by decide +kernel) (by decide +kernel) (by decide +kernel)
      (by decide +kernel), hf]
    cases received <;> decide +kernel

/-- The premises, with the clock in each of the four ranges. -/
theorem test_premises_TelegramsNotDispatched_missed :
    sendingCall.lc.sending ≠ none ∧ collided.awake = true ∧ collided.lc.deaf = some 0 ∧ collided.lc.sending = none ∧
      started.awake = true ∧ started.lc.deaf = some 22 ∧ started.lc.sending = none ∧
      (started.setNow 21).now < 22 ∧ 22 ≤ (started.setNow 22).now ∧ (started.setNow 143).now < 22 + 122 ∧
      22 + 122 ≤ (started.setNow 144).now ∧ (started.setNow 171).now < 22 + 150 ∧ 22 + 150 ≤ (started.setNow 172).now := by
  decide +kernel

theorem test_premises_ContentionDecided_line :
    gallery.LineFollows ∧ sendingCall.LineFollows ∧ collided.LineFollows ∧ started.LineFollows ∧ speaking.LineFollows := by
  refine ⟨⟨?_, ?_⟩, ⟨?_, ?_⟩, ⟨?_, ?_⟩, ⟨?_, ?_⟩, ⟨?_, ?_⟩⟩ <;> decide +kernel

/-- A walk test with one recording. -/
def walking : State :=
  gallery.setFl { gallery.fl with
    walkActive := true, walkTimer := some 7000000, tested := gallery.fl.tested.set 6 true
    lastRecorded := gallery.fl.lastRecorded.set 6 (some 0) }

/-- R39: a walk test ends at a FIRE point that becomes active and at a neighbour's FIRE. -/
theorem test_premises_FireTimersExpire_walk_ends :
    let pressed := after (.callPointPress 1) walking
    let heard := after (.stateArrival 9 (stateOf .fire 0 15)) walking
    walking.awake = true ∧ walking.fl.walkActive = true ∧ pressed.awake = true ∧ heard.awake = true ∧
      ((pressed.point 1).kind = .fire ∧ (pressed.point 1).input = some true ∧ (walking.point 1).input = some false) ∧
      ((heard.slot 3).id ≠ 0 ∧ (heard.slot 3).presence = .fresh ∧ (heard.slot 3).fire = .fire ∧
        (walking.slot 3).fire = .quiet ∧ (heard.point 1).input = some false) ∧
      pressed.reported.contains (.walkEnd, 2, 64) = true ∧ heard.reported.contains (.walkEnd, 3, 64) = true ∧
      pressed.fl.walkActive = false ∧ heard.fl.walkActive = false := by
  decide +kernel

theorem test_premises_FireTimersExpire_walk_shaped : walking.Shaped := by constructor <;> decide +kernel

/-! What a change starts at the signals, and the reports of latch, lamps, adoption and test. -/

/-- A gallery with a strip, in step with a route record without an evacuation. -/
def stripGallery : State := striped (some 9)

/-- The same, guided along a neighbour (via slot 0, or slot 3 where that is nearer) and evacuating. -/
def chasing (x : BitVec 4) : State :=
  after (.orderEvacuateOn 3 63)
    (routed (withSlot 0 { near 5 with x := x.toNat } (withDoor 0 (doorOf .exit .jammed .shut .free) stripGallery)))

/-- R145, R149, R150, R155: an evacuation starts arrow, chase and sounder; a change of via starts the chase afresh; with no route left the
cross and NO_ROUTE begin. -/
theorem test_signals_start :
    let s := chasing 1
    let moved := after (.stateArrival 9 (stateOf .quiet 15 0)) s
    let shut := after (.stateArrival 5 (stateOf .quiet 15 15)) s
    (s.strip 0).mode = .chase ∧ (s.strip 0).phase = 0 ∧ (s.strip 0).timer = some 20000 ∧ (s.sign 0).flash = some 0 ∧
      s.sd.sounder = .evac ∧ s.ru.via = .slot 0 ∧ moved.ru.via = .slot 3 ∧ (moved.strip 0).mode = .chase ∧
      (shut.strip 0).mode = .noRoute ∧ (shut.strip 0).flash = some 0 ∧ (shut.sign 0).display = .cross ∧
      (shut.sign 0).flash = some 0 := by
  decide +kernel

theorem test_premises_StepKeepsSignals_start :
    (stripGallery.awake = true ∧ stripGallery.SignalsFollow ∧ (stripGallery.sign 0).used = true ∧ (stripGallery.strip 0).n ≠ 0) ∧
      (chasing 1).awake = true ∧ (chasing 1).SignalsFollow := by
  unfold State.SignalsFollow
  decide +kernel

theorem test_premises_StepKeepsSignals_start_shaped : stripGallery.Shaped ∧ (chasing 1).Shaped := by
  constructor <;> constructor <;> decide +kernel

theorem test_premises_StepKeepsSignals_alert :
    let alert := after (.stateArrival 5 (stateOf .quiet 9 15)) gallery
    gallery.sd.sounder = .off ∧ alert.sd.sounder = .alert ∧ alert.sd.cadence = some true ∧
      alert.sd.cadenceTimer = some Config.second := by
  decide +kernel

/-- The gallery with the silence latch set. -/
def latched (stored : Nat) : State := gallery.setNt { gallery.nt with latch := some stored }

/-- R73: the four reasons. -/
theorem test_premises_OrdersTaken_latch :
    let heard (f : BitVec 4) (s : State) : State := after (.stateArrival 5 (stateOf .quiet f 15)) s
    let far := routed (withSlot 0 { near 5 with f := 9 } gallery)
    let held := far.setNt { far.nt with latch := some 9 }
    (latched 15).nt.latch = some 15 ∧ (latched 15).awake = true ∧
      (after .fireReset (latched 15)).reported.contains (.silenceLatch, 3, 0xFF00) = true ∧
      (after (.orderEvacuateOn 3 63) (latched 15)).reported.contains (.silenceLatch, 2, 0xFF00) = true ∧
      (heard 8 (latched 15)).reported.contains (.silenceLatch, 0, 0xFF00) = true ∧ held.nt.latch = some 9 ∧
      (heard 15 held).reported.contains (.silenceLatch, 1, 0xFF00) = true ∧ (heard 15 held).ru.f = 15 := by
  decide +kernel

theorem test_premises_OrdersTaken_latch_route :
    (latched 15).RouteFollows ∧ (routed (withSlot 0 { near 5 with f := 9 } gallery)).RouteFollows := by
  unfold State.RouteFollows
  refine ⟨?_, ?_⟩ <;> decide +kernel

theorem test_premises_StateArrives_adopted :
    let p : StatePayload := { stateOf .quiet 15 15 with role := .station, mode := .night, evacuate := true }
    let t := after (.stateArrival 9 p) gallery
    gallery.nt.orderHeard = false ∧ p.wf = true ∧ p.mode ≠ gallery.nt.mode ∧ p.evacuate ≠ gallery.nt.evacuate ∧
      t.reported.contains (.buildingMode, 0x0109, 1) = true ∧ t.reported.contains (.buildingEvacuate, 0x0109, 1) = true := by
  decide +kernel

/-- R152, R153: an evacuation ends the check that LAMP_CHECK began. What a step senses is free, so the latch filled is one of a step that
carries its currents. -/
theorem test_premises_LampCheckAndCadence_reports :
    let checked := after .lampCheck (striped (some 9))
    let t := after (.orderEvacuateOn 3 63) checked
    let dark := withStrip 0 { (striped none).strip 0 with mode := .steady, timer := some 20000 } gallery
    checked.awake = true ∧ (checked.strip 0).n ≠ 0 ∧ (checked.strip 0).check ≠ none ∧ checked.ru.evacuating = none ∧
      t.ru.evacuating ≠ none ∧ t.reported.contains (.lampCheckEnd, 0xFFFF, 0xFFFE) = true ∧ (dark.strip 0).latch = none ∧
      ((after (.stripStepExpiry 0 0xFFFFFFFB) dark).strip 0).latch = some 2 ∧
      (after (.stripStepExpiry 0 0xFFFFFFFB) dark).reported.contains (.stripLampFault, 0, 2) = true := by
  decide +kernel

theorem test_premises_AccessPulses_other :
    (3 : BitVec 6).toNat ≠ gallery.nodeId ∧ (21 : Byte).toNat ≠ gallery.nodeId ∧ (21 : Byte).toNat ≠ 63 ∧
      gallery.lc.deaf = none ∧ after (.orderDoorPulse 3 21 1) gallery = gallery := by
  decide +kernel

theorem test_premises_JamsDeclaredAndCleared_no_feedback :
    let s := routed (withDoor 0 { doorOf .exit .shutFree .shut .free with cfg := ⟨.exit, false, false, false, 8, 30⟩ } gallery)
    (s.door 0).cfg.kind ≠ .unused ∧ (s.door 0).cfg.feedback = false ∧ after (.feedbackChange 0 .lock) s = s := by
  decide +kernel

theorem test_premises_TestRequestsDecided_low :
    let low := gallery.setDt { gallery.dt with battery := some true }
    low.dt.battery = some true ∧ (after (.testStart 2) low).reported.contains (.testResult, 2, 0) = true := by
  decide +kernel

theorem test_premises_TestAborted_low :
    let low := suspendedTest.setDt { suspendedTest.dt with battery := some true }
    let t := after (.orderEvacuateOff 3 63) low
    low.running = true ∧ low.receives = true ∧ low.dt.state = .suspended ∧ low.dt.cause ≠ some .host ∧
      low.cl.node.autoResume = true ∧ low.nt.evacuate = true ∧ low.fl.gallery = .quiet ∧ low.ru.f = 15 ∧
      low.noPeerTesting = true ∧ low.dt.battery = some true ∧ t.reported.contains (.testResumed, 1, 0) = true ∧
      t.reported.contains (.testResult, 2, 0) = true := by
  decide +kernel

theorem test_premises_TestAborted_reports :
    let resumed := after (.orderEvacuateOff 3 63) suspendedTest
    let held := after .testSuspend (atPort .begun testing)
    testing.dt.state = .running ∧ suspendedTest.dt.state = .suspended ∧ suspendedTest.dt.cause = some .evacuate ∧
      suspendedTest.reported.contains (.testSuspended, 3, 0) = true ∧ resumed.dt.state = .running ∧
      resumed.reported.contains (.testResumed, 1, 0) = true ∧ held.dt.cause = some .host ∧
      (after .testResume (atPort .begun held)).dt.state = .running := by
  decide +kernel

/-- R175: the one field out of range in the image is the second of two slots that name one link door. -/
theorem test_premises_ConfigurationTaken_clamped :
    (configOf image .night).clamps = [21] ∧ imageFailure image = none := by
  decide +kernel

/-! The report queue, the confirm delay, the tables of the invariants, RUN by FIRE, and what any command may bring. -/

/-- A queue of fifteen takes one more, a queue of sixteen has a newest entry to mark. -/
theorem test_premises_StepKeepsBounds_reports :
    let r : Report := ⟨.galleryState, 0, 3, 0, false⟩
    (List.replicate 15 r).length < 16 ∧ List.replicate 16 r = List.replicate 15 r ++ [r] ∧ 16 ≤ (List.replicate 16 r).length ∧
      State.reset.awake = false ∧ State.reset.ap.reports = [] ∧ step State.reset = .next State.reset ∧ gallery.attn = false ∧
      (gallery.report .galleryState 0 3).attn = true := by
  refine ⟨by decide, by decide, by decide, by decide +kernel, rfl, rfl, ?_⟩
  decide +kernel

/-- A channel in VERIFY at its last odd sample, the gallery in step with it. -/
def verifying : State := inGallery .caution (withChannel 7 (smoke .verify 2000 1) gallery)

/-- The lone smoke alarm that this sample completes. -/
def suspected : State := after (.sampleArrival 7 500 false) verifying

/-- R28: SUSPECT is entered, kept at a heat sample, and left by a fire reset and by a neighbour that agrees. -/
theorem test_premises_StepKeepsGalleryState_confirm :
    verifying.awake = true ∧ suspected.awake = true ∧ verifying.fl.gallery = .caution ∧ suspected.fl.gallery = .suspect ∧
      suspected.fl.confirm = some (suspected.now + 60 * Config.second) ∧
      (after (.sampleArrival 9 486 false) suspected).fl = suspected.fl ∧
      (after (.orderFireReset 3 63) suspected).fl.confirm = none ∧
      (after (.stateArrival 9 (stateOf .suspect 15 15)) suspected).fl.gallery = .fire ∧
      (after (.stateArrival 9 (stateOf .suspect 15 15)) suspected).fl.confirm = none := by
  decide +kernel

/-- The three states below FIRE, each in step with its inputs. -/
theorem test_premises_StepKeepsGalleryState_states :
    gallery.GalleryFollows ∧ verifying.GalleryFollows ∧ suspected.GalleryFollows ∧ gallery.fl.gallery = .quiet ∧
      (suspected.channel 7).cfg.kind = .smoke ∧ (suspected.channel 7).state = .alarm := by
  unfold State.GalleryFollows
  decide +kernel

theorem test_premises_StepKeepsGalleryState_shaped : verifying.Shaped ∧ suspected.Shaped := by
  constructor <;> constructor <;> decide +kernel

/-- A gallery in FIRE, one under the building's evacuate flag, and one under both; one in LISTEN, and that one under the flag. -/
def burning : State := after (.callPointPress 1) gallery
def ordered : State := after (.orderEvacuateOn 3 63) gallery
def burningOrdered : State := after (.orderEvacuateOn 3 63) burning
def waiting : State := (inPhase .listen gallery).setRu .afterRestart
def waitingOrdered : State := after (.orderEvacuateOn 3 63) waiting

/-- R84, R86: none, RADIUS, BUILDING and both. -/
theorem test_premises_StepKeepsRoute_causes :
    gallery.ru.evacuating = none ∧ burning.ru.evacuating = some .radius ∧ ordered.ru.evacuating = some .building ∧
      burningOrdered.ru.evacuating = some .both ∧ waiting.cl.phase = .listen ∧ waiting.ru.evacuating = none ∧
      waitingOrdered.cl.phase = .listen ∧ waitingOrdered.ru.evacuating = some .building := by
  decide +kernel

theorem test_premises_StepKeepsRoute_run :
    burning.RouteFollows ∧ ordered.RouteFollows ∧ burningOrdered.RouteFollows := by
  unfold State.RouteFollows
  refine ⟨?_, ?_, ?_⟩ <;> decide +kernel

theorem test_premises_StepKeepsRoute_listen : waiting.RouteFollows ∧ waitingOrdered.RouteFollows := by
  unfold State.RouteFollows
  refine ⟨?_, ?_⟩ <;> decide +kernel

/-- R93, R94: a magnet that holds and one that a linked neighbour's FIRE drops; a lock in either position. -/
theorem test_premises_StepKeepsDoorDrives_drives :
    let linked := after (.stateArrival 5 (stateOf .fire 0 15)) (withSlot 0 { near 5 with link := some 2 } gallery)
    gallery.awake = true ∧ (gallery.door 2).cfg.kind = .gallery ∧ (gallery.door 2).magnet = .hold ∧
      (gallery.door 0).lock = .free ∧ (gallery.door 1).lock = .lock ∧ (linked.door 2).magnet = .drop ∧ linked.DrivesFollow := by
  unfold State.DrivesFollow State.DriveFollows
  decide +kernel

/-- The strip gallery with no route left, in a lamp check, guided along a way that is mapped STEADY, and beside a distant fire. -/
def lostStrip : State := after (.stateArrival 5 (stateOf .quiet 15 15)) (chasing 1)
def checkedStrip : State := after .lampCheck stripGallery
def steadyStrip : State :=
  after (.orderEvacuateOn 3 63)
    (withStrip 0 { Strip.afterRestart 10 2 5 4 0 (List.replicate 9 .steady) with latch := some 9 } gallery)
def alertStrip : State := after (.stateArrival 5 (stateOf .quiet 9 15)) stripGallery

/-- R145, R149, R155: every line of the three tables. -/
theorem test_premises_StepKeepsSignals_tables :
    (stripGallery.strip 0).mode = .off ∧ ((chasing 1).strip 0).mode = .chase ∧ (lostStrip.strip 0).mode = .noRoute ∧
      (checkedStrip.strip 0).mode = .check ∧ (steadyStrip.strip 0).mode = .steady ∧ (stripGallery.sign 0).display = .plain ∧
      ((chasing 1).sign 0).display = .arrow ∧ (lostStrip.sign 0).display = .cross ∧ stripGallery.sd.sounder = .off ∧
      lostStrip.sd.sounder = .evac ∧ alertStrip.sd.sounder = .alert := by
  decide +kernel

theorem test_premises_StepKeepsSignals_tables_follow :
    lostStrip.SignalsFollow ∧ checkedStrip.SignalsFollow ∧ steadyStrip.SignalsFollow ∧ alertStrip.SignalsFollow := by
  unfold State.SignalsFollow
  refine ⟨?_, ?_, ?_, ?_⟩ <;> decide +kernel

/-- R33, R39: a reset by the host and one by a station end the walk test. -/
theorem test_premises_FireResetDecided_walk :
    walking.listens = true ∧ walking.running = true ∧ walking.receives = true ∧ walking.activeFirePoint = none ∧
      walking.fl.walkActive = true ∧ gallery.fl.walkActive = false ∧
      (after .fireReset walking).reported = [(.walkEnd, 4, 64), (.fireReset, 20, 0)] ∧
      (after (.orderFireReset 3 63) walking).reported = [(.walkEnd, 4, 64), (.fireReset, 63, 3)] := by
  decide +kernel

/-- R82, R85: the via kept, and the route computed afresh, as a neighbour's STATE changes a slot. -/
theorem test_premises_RouteComputed_kept :
    let t := after (.stateArrival 9 (stateOf .quiet 15 1)) (guided 1)
    let moved := after (.stateArrival 9 (stateOf .quiet 15 0)) (guided 1)
    (guided 1).awake = true ∧ (guided 1).ru.via = .slot 0 ∧ t.running = true ∧ t.ru.via = .slot 0 ∧ moved.running = true ∧
      moved.ru.via = .slot 3 := by
  decide +kernel

theorem test_premises_RouteComputed_shaped : (guided 1).Shaped := by constructor <;> decide +kernel

/-- R177, R178: FIRE in LISTEN enters RUN, at a node with an id and at one with none. -/
theorem test_premises_ListenEnds_fire :
    let t (id : Nat) : State := after (.callPointPress 1) (listening id)
    (listening 20).LineFollows ∧ (listening 0).LineFollows ∧ (listening 20).fl.gallery ≠ .fire ∧ (t 20).awake = true ∧
      (t 20).fl.gallery = .fire ∧ (t 20).running = true ∧ (t 20).lc.queue.length = 3 ∧ (t 0).running = true ∧
      (t 0).fl.gallery = .fire ∧ (t 0).lc.queue = [] := by
  refine ⟨⟨?_, ?_⟩, ⟨?_, ?_⟩, ?_⟩ <;> decide +kernel

/-- The same with the line not yet seen idle: the press does not end that. -/
theorem test_premises_ListenEnds_deaf :
    let t := after (.callPointPress 1) started
    started.LineFollows ∧ started.lc.deaf = some 22 ∧ t.fl.gallery = .fire ∧ t.running = true ∧ t.lc.deaf = some 22 := by
  refine ⟨⟨?_, ?_⟩, ?_⟩ <;> decide +kernel

/-- R118: a neighbour that falls silent is the first fault member, at a node without a fault call and beside a TAKEN one. -/
theorem test_premises_CallPointInputs_first_member :
    let called := withCall 16 (callOf .fault 2 0 3) gallery
    let t (s : State) : State := after (.freshnessDeadlineExpiry 3) s
    gallery.hasFault = false ∧ (t gallery).hasFault = true ∧ (t gallery).awake = true ∧ (t gallery).running = true ∧
      (t gallery).nodeId ≠ 0 ∧ (t gallery).reported = [(.neighbourSilent, 3, 0), (.callRaised, 16, 0x0502)] ∧
      called.hasFault = false ∧ called.PrioritiesFollow ∧ (t called).hasFault = true ∧
      (t called).reported = [(.neighbourSilent, 3, 0), (.callReminder, 16, 3)] := by
  unfold State.PrioritiesFollow
  decide +kernel

/-- R164: a test suspended by a neighbour's fire distance is resumed when that is 15 again, and fails there on a LOW battery. -/
theorem test_premises_TestAborted_resumed :
    let heard (f : BitVec 4) (s : State) : State := after (.stateArrival 5 (stateOf .quiet f 15)) s
    let near := heard 9 testing
    let low := near.setDt { near.dt with battery := some true }
    near.awake = true ∧ near.dt.state = .suspended ∧ near.dt.cause = some .fireNear ∧ near.cl.node.autoResume = true ∧
      near.ru.f = 10 ∧ near.dt.battery ≠ some true ∧ (heard 15 near).ru.f = 15 ∧ (heard 15 near).awake = true ∧
      (heard 15 near).dt.state = .running ∧ (heard 15 near).reported.contains (.testResumed, 1, 0) = true ∧
      low.dt.battery = some true ∧ (heard 15 low).dt.last = .fail 0 := by
  decide +kernel

theorem test_premises_TestAborted_resumed_shaped :
    (after (.stateArrival 5 (stateOf .quiet 9 15)) testing).Shaped := by constructor <;> decide +kernel

/-- An answer within a transaction that has begun, and to a request that is a whole transaction. -/
theorem test_premises_PortRefusals_answers :
    gallery.ap.port ≠ .high ∧ (atPort .high gallery).ap.port = .high ∧
      (after .fireReset (atPort .high (withPoint 1 ⟨.fire, true, 0, some true⟩ gallery))).ap.dataOut = [0x05] ∧
      (after .testAbort gallery).ap.dataOut = [0x03, 0x01] ∧ (after .testAbort gallery).ap.port = .decoded := by
  decide +kernel

/-- R115: by priority, and at one level by the rotation order, which a clearing has changed. -/
theorem test_premises_CallsCleared_order :
    let turned := after .attendantKeyTurn (withCall 0 (callOf .help 2 0 0) gallery)
    let s := withCall 0 (callOf .help 2 1 0) (withCall 1 (callOf .fire 0 0 0) (withCall 16 (callOf .fault 2 0 0) turned))
    turned.call 0 = none ∧ s.rotation 2 = (List.range 17).erase 0 ++ [0] ∧ s.tableOrder = [1, 16, 0] := by
  decide +kernel

theorem test_premises_CallsCleared_order_shaped : (withCall 16 (callOf .fault 2 0 0) gallery).Shaped :=
  shaped_setCall gallery_shaped 16 _ (by decide)

end Sys2Proof.Machine
end

/-! ## Samples at the detector channels (R3 to R20) -/

section
namespace Sys2Proof.Machine

/-! ### A channel's place in the list -/

/-- A channel that is not ISOLATED is one of the list: what lies outside reads as an unused record. -/
theorem State.channel_lt_of_state {s : State} {c : Nat} (h : (s.channel c).state ≠ .isolated) :
    c < s.ds.channels.length := by
  by_contra hc
  exact h (by simp [State.channel, Nat.not_lt.1 hc, Channel.afterRestart, ChannelConfig.unused])

theorem State.setChannel_channel {s : State} {c : Nat} (h : c < s.ds.channels.length) (v : Channel) :
    (s.setChannel c v).channel c = v := by simp [State.channel, State.setChannel, h]

theorem State.setChannel_channel_ne (s : State) {c i : Nat} (h : c ≠ i) (v : Channel) :
    (s.setChannel c v).channel i = s.channel i := by
  simp [State.channel, State.setChannel, List.getD_eq_getElem?_getD, h]

/-- What a new record does not change is unchanged for every channel. -/
theorem State.channel_setChannel_congr {α : Type} (p : Channel → α) {s : State} {c : Nat} {v : Channel}
    (h : p v = p (s.channel c)) (i : Nat) : p ((s.setChannel c v).channel i) = p (s.channel i) := by
  by_cases hi : c = i
  · subst hi
    by_cases hc : c < s.ds.channels.length
    · rw [State.setChannel_channel hc, h]
    · rw [State.setChannel, List.set_eq_of_length_le (Nat.not_lt.1 hc)]; rfl
  · rw [s.setChannel_channel_ne hi]

/-- A set of a record with the same reading leaves the list of readings. -/
theorem map_set_same {α β : Type} (p : α → β) {l : List α} {i : Nat} {d v : α} (h : p v = p (l.getD i d)) :
    (l.set i v).map p = l.map p := by
  rw [List.map_set, h]
  apply List.ext_getElem (by simp)
  intro j h1 h2
  rw [List.getElem_set]
  split
  · rename_i hij
    subst hij
    have hi : i < l.length := by simpa using h2
    simp [List.getD_eq_getElem?_getD, hi]
  · rfl

theorem State.map_setChannel {α : Type} (p : Channel → α) {s : State} {c : Nat} {v : Channel}
    (h : p v = p (s.channel c)) : (s.setChannel c v).ds.channels.map p = s.ds.channels.map p := map_set_same p h

/-! ### One sample at a record -/

/-- R6: in every state but at the first sample of SETTLE or REFILL. -/
theorem Channel.filter_running {ch : Channel} (h : ch.firstSample = false) (code : Nat) :
    ch.filter code = { ch with m4 := ch.m4 - ch.m4 / 4 + code } := by simp [Channel.filter, h]

theorem Channel.sample_good {code : Nat} (l : 16 ≤ code) (h : code ≤ 1007) (ch : Channel) (mode : Mode) (reduced : Bool)
    (v now : Nat) : ch.sample code mode reduced v now = ch.goodSample code mode reduced v now := by
  simp [Channel.sample, classOf, Nat.not_lt.2 l, Nat.not_lt.2 h]

/-- R5, R20: a fault sample, with its class as a report gives it. -/
theorem Channel.sample_fault {code : Nat} (h : code < 16 ∨ 1007 < code) (ch : Channel) (mode : Mode) (reduced : Bool)
    (v now : Nat) : ∃ cls : SampleClass, cls.code = (if code < 16 then 0 else 1) ∧
      ch.sample code mode reduced v now = ch.faultSample cls := by
  by_cases l : code < 16
  · exact ⟨.openLoop, by simp [l, SampleClass.code], by simp [Channel.sample, classOf, l]⟩
  · have g : 1007 < code := by omega
    exact ⟨.shortCircuit, by simp [l, SampleClass.code], by simp [Channel.sample, classOf, l, g]⟩

/-! ### SAMPLE_ARRIVAL -/

/-- What the owner of the event does: the record takes the sample as it stands at the slot's end. -/
theorem State.takeSample_at_slotEnd (s : State) (c code n : Nat) :
    ((s.reach (slotEnd n)).passSlot n).takeSample c code =
      let r := (s.channel c).sample code s.nt.mode s.slotHoldsFire s.cl.node.v (max s.now (slotEnd n))
      (s.sampledAs c n r.1).takeSampleEvent c (s.channel c).driftLimit r.2 := rfl

/-- A sample that ends a slot: the record is filtered, classed and evaluated at the slot's end, then every block acts. -/
theorem exec_sampleArrival_due {s : State} {c : Fin 16} {code : BitVec 10} {odd : Bool} {n : Nat} {after : Channel}
    {e : SampleEvent} (a : s.awake = true) (due : s.dueSlot c odd = some n)
    (r : (s.channel c).sample code.toNat s.nt.mode s.slotHoldsFire s.cl.node.v (max s.now (slotEnd n)) = (after, e)) :
    exec (.sampleArrival c code odd) s =
      .next (settle (s.reach (slotEnd n))
        ((s.sampledAs c n after).takeSampleEvent c (s.channel c).driftLimit e) none []) := by
  show execSampleArrival c code odd s = _
  simp only [execSampleArrival, due]
  rw [State.eventAt_awake a, State.takeSample_at_slotEnd, r]

/-- What a sample brings about beyond the record only offers reports, but for a completed burst. -/
theorem State.takeSampleEvent_callConsequent (s : State) (c : Nat) (before : Bool) {e : SampleEvent} (h : e ≠ .burst) :
    CallConsequent s (s.takeSampleEvent c before e) := by
  cases e with
  | nothing => exact s.reportIf_callConsequent _ _ _ _
  | faulted cls => exact s.report_callConsequent _ _ _
  | faultInAlarm cls => exact s.report_callConsequent _ _ _
  | recovered => exact s.report_callConsequent _ _ _
  | burst => exact absurd rfl h

/-- A sample that completes no burst leaves the channel's record as the sample makes it, and the rest to what follows. -/
theorem sampleArrival_consequent {s : State} {c : Fin 16} {code : BitVec 10} {odd : Bool} {n : Nat} {after : Channel}
    {e : SampleEvent} (a : s.awake = true) (due : s.dueSlot c odd = some n)
    (r : (s.channel c).sample code.toNat s.nt.mode s.slotHoldsFire s.cl.node.v (max s.now (slotEnd n)) = (after, e))
    (h : e ≠ .burst) :
    Completes (.sampleArrival c code odd) s fun t => Consequent (s.sampledAs c n after) t :=
  ⟨_, exec_sampleArrival_due a due r,
    ((s.sampledAs c n after).takeSampleEvent_callConsequent c _ h).consequent.trans (settle_consequent _ _ _ _)⟩

/-- R3: a channel that is not ISOLATED is sampled at the end of its even slot. -/
theorem State.dueSlot_even {s : State} {c : Nat} (h : (s.channel c).state ≠ .isolated) :
    s.dueSlot c false = some (s.evenSlot c) := by simp [State.dueSlot, h]

/-- R4: an odd-slot sample reaches a channel in VERIFY alone. -/
theorem State.dueSlot_odd_of_ne {s : State} {c : Nat} (h : (s.channel c).state ≠ .verify) :
    s.dueSlot c true = none := by
  unfold State.dueSlot
  simp only [if_true]
  split
  · exact if_neg fun k => h k.2
  · rfl

theorem exec_sampleArrival_none {s : State} {c : Fin 16} {odd : Bool} (h : s.dueSlot c odd = none) (code : BitVec 10) :
    exec (.sampleArrival c code odd) s = .next s := by
  show execSampleArrival c code odd s = _
  simp [execSampleArrival, h]

/-! ### Good samples by state -/

theorem Channel.goodSample_normal {ch : Channel} (h : ch.state = .normal) (code : Nat) (mode : Mode) (reduced : Bool)
    (v now : Nat) :
    let g : Channel := { ch with m4 := ch.m4 - ch.m4 / 4 + code }
    ch.goodSample code mode reduced v now =
      (match g.band mode reduced with
        | .alarm => { g with state := .verify, verify := v, lastOdd := now }
        | .prealarm => { g with state := .prealarm, hold := some (now + 10 * Config.second) }
        | .clear => g, .nothing) := by
  unfold Channel.goodSample
  rw [Channel.filter_running (by simp [Channel.firstSample, h]), h]
  dsimp only
  split <;> simp only [Channel.toVerify, *]

theorem Channel.goodSample_prealarm {ch : Channel} (h : ch.state = .prealarm) (code : Nat) (mode : Mode)
    (reduced : Bool) (v now : Nat) :
    let g : Channel := { ch with m4 := ch.m4 - ch.m4 / 4 + code }
    ch.goodSample code mode reduced v now =
      (match g.band mode reduced with
        | .alarm => { g with state := .verify, verify := v, lastOdd := now }
        | .prealarm => { g with hold := some (now + 10 * Config.second) }
        | .clear => g, .nothing) := by
  unfold Channel.goodSample
  rw [Channel.filter_running (by simp [Channel.firstSample, h]), h]
  dsimp only
  split <;> simp only [Channel.toVerify, *]

/-- Settles O10, by the band that the filtered sample meets. -/
theorem sampleInNormal : Obligations.SampleInNormal := by
  intro s c code a h l u n now ch g
  have even : s.dueSlot c false = some n := State.dueSlot_even (by simp [h])
  have r := (ch.sample_good l u s.nt.mode s.slotHoldsFire s.cl.node.v now).trans (Channel.goodSample_normal h _ _ _ _ _)
  exact ⟨exec_sampleArrival_none (State.dueSlot_odd_of_ne (by simp [h])) code,
    sampleArrival_consequent a even r nofun⟩

end Sys2Proof.Machine
end

/-! ## The sample that completes a burst (R18, R19, R36) -/

section
namespace Sys2Proof.Machine

/-! ### What follows, of the walk test -/

/-- New fire logic and new reports are among what can follow. -/
theorem Consequent.of_fire (s : State) (fl : FireLogic) {r : List Report} (h : Extends s.ap.reports r) :
    Consequent s { s with fl := fl, ap := { s.ap with reports := r } } := by
  obtain ⟨a, rfl⟩ := h
  exact ⟨s.cl.phase, s.cl.listen, s.ds.drift, s.ds.rate, fl, s.ru, [], s.lc.lastState, s.lc.refresh, s.nt.latch, s.doors,
    s.cc.calls, s.cc.serials, s.sd, s.dt, s.marker, a, s.freeCount, rfl⟩

theorem State.endWalk_consequent (s : State) (w : WalkEnd) : Consequent s (s.endWalk w) := by
  have ext := s.endWalk_extends w
  obtain ⟨_, _, _, _, r, h⟩ := s.endWalk_changes w
  rw [h] at ext ⊢
  exact .of_fire s _ ext

/-- With no point newly ACTIVE and no slot newly in FIRE no walk test ends (R39). -/
theorem walkFollow_same {old s : State} (slots : s.nt.slots = old.nt.slots) (points : s.fireLevels = old.fireLevels) :
    walkFollow old s = s := by
  have : s.slotFires = old.slotFires := by simp [State.slotFires, slots]
  simp [walkFollow, points, this, risen_self]

theorem settle_keeps_walk {old s : State} (slots : s.nt.slots = old.nt.slots) (points : s.fireLevels = old.fireLevels)
    (peer : Option Nat) (pressed : List Nat) :
    (settle old s peer pressed).fl.walkActive = s.fl.walkActive ∧
      (settle old s peer pressed).fl.walkTimer = s.fl.walkTimer ∧
      (settle old s peer pressed).fl.tested = s.fl.tested ∧
      (settle old s peer pressed).fl.lastRecorded = s.fl.lastRecorded := by
  rw [settle_fl, fireFollow, walkFollow_same slots points]
  obtain ⟨g, c, t, r, h⟩ := s.evaluate_changes false
  split
  · rw [h]; exact ⟨rfl, rfl, rfl, rfl⟩
  · exact ⟨rfl, rfl, rfl, rfl⟩

/-- R36, over the sixteen channels' last-recorded times. -/
theorem State.recentRecording_iff {s : State} (h : s.fl.lastRecorded.length = 16) :
    s.recentRecording = true ↔
      ∃ i < 16, ∃ r, s.fl.lastRecorded.getD i none = some r ∧ s.now < r + 30 * Config.second := by
  unfold State.recentRecording
  rw [List.any_eq_true]
  constructor
  · rintro ⟨x, hx, recent⟩
    obtain ⟨i, hi, rfl⟩ := List.getElem_of_mem hx
    split at recent
    · rename_i r hr
      exact ⟨i, h ▸ hi, r, by simpa [List.getD_eq_getElem?_getD, hi] using hr, by simpa using recent⟩
    · cases recent
  · rintro ⟨i, hi, r, hr, recent⟩
    rw [← h] at hi
    refine ⟨s.fl.lastRecorded[i], List.getElem_mem hi, ?_⟩
    have : s.fl.lastRecorded[i] = some r := by simpa [List.getD_eq_getElem?_getD, hi] using hr
    simpa [this] using recent

/-! ### The two ends of a completed burst -/

theorem State.sampledAs_channel {s : State} {c : Nat} (h : c < s.ds.channels.length) (n : Nat) (ch : Channel) :
    (s.sampledAs c n ch).channel c = ch := by simp [State.channel, State.sampledAs, h]

theorem State.sampledAs_setChannel (s : State) (c n : Nat) (ch v : Channel) :
    (s.sampledAs c n ch).setChannel c v = s.sampledAs c n v := by
  simp [State.sampledAs, State.setChannel, State.setDs, List.set_set]

/-- The end of a walk test and a channel's record have nothing to do with each other. -/
theorem State.endWalk_setChannel (s : State) (w : WalkEnd) (c : Nat) (v : Channel) :
    (s.endWalk w).setChannel c v = (s.setChannel c v).endWalk w := by
  by_cases h : s.fl.walkActive = true
  · have h' : (s.setChannel c v).fl.walkActive = true := h
    rw [State.endWalk, State.endWalk, if_pos h, if_pos h']; rfl
  · have h' : ¬(s.setChannel c v).fl.walkActive = true := h
    rw [State.endWalk, State.endWalk, if_neg h, if_neg h']

theorem State.endWalk_channel (s : State) (w : WalkEnd) (c : Nat) : (s.endWalk w).channel c = s.channel c := by
  obtain ⟨_, _, _, _, _, h⟩ := s.endWalk_changes w
  rw [h]; rfl

theorem State.endWalk_inactive {s : State} (h : s.fl.walkActive = false) (w : WalkEnd) : s.endWalk w = s := by
  simp [State.endWalk, h]

/-- R19, R39: a burst that is no recording ends an active walk test, and the channel enters ALARM. -/
theorem State.completeBurst_alarm {s : State} {c : Nat} (hc : c < s.ds.channels.length) {n : Nat} {ch : Channel}
    (h : s.fl.walkActive = false ∨ (s.sampledAs c n ch).recentRecording = true) :
    (s.sampledAs c n ch).completeBurst c =
      ((s.sampledAs c n ch.toAlarm).endWalk .secondAlarm).report .channelAlarm c ch.reading := by
  have record : ((s.sampledAs c n ch).endWalk .secondAlarm).channel c = ch := by
    rw [State.endWalk_channel, State.sampledAs_channel hc]
  have no : ((s.sampledAs c n ch).fl.walkActive && !(s.sampledAs c n ch).recentRecording) = false := by
    rcases h with idle | recent
    · rw [show (s.sampledAs c n ch).fl.walkActive = false from idle, Bool.false_and]
    · rw [recent, Bool.not_true, Bool.and_false]
  rw [State.completeBurst, no, if_neg Bool.false_ne_true, State.enterAlarm, record, State.endWalk_setChannel,
    State.sampledAs_setChannel]

/-- Channel `c` has been recorded (R36). -/
def State.recorded (s : State) (c : Nat) : State :=
  s.setFl { s.fl with tested := s.fl.tested.set c true, lastRecorded := s.fl.lastRecorded.set c (some s.now) }

/-- R36: a recording, after which the channel refills. -/
theorem State.completeBurst_record {s : State} {c : Nat} (hc : c < s.ds.channels.length) {n : Nat} {ch : Channel}
    (active : s.fl.walkActive = true) (h : (s.sampledAs c n ch).recentRecording = false) :
    (s.sampledAs c n ch).completeBurst c =
      ((s.sampledAs c n ch.refill).recorded c).report .walkTested c ch.reading := by
  have yes : ((s.sampledAs c n ch).fl.walkActive && !(s.sampledAs c n ch).recentRecording) = true := by
    rw [show (s.sampledAs c n ch).fl.walkActive = true from active, h]; rfl
  rw [State.completeBurst, yes, if_pos rfl, State.record, State.sampledAs_channel hc]
  exact congrArg (fun u : State => (u.recorded c).report .walkTested c ch.reading) (s.sampledAs_setChannel c n ch ch.refill)

theorem State.takeSampleEvent_burst (s : State) (c : Nat) (before : Bool) :
    s.takeSampleEvent c before .burst = s.completeBurst c := rfl

/-! ### Good samples in VERIFY -/

/-- R18: the burst goes on, starts again, or is abandoned. -/
theorem Channel.goodSample_verify {ch : Channel} (h : ch.state = .verify) (code : Nat) (mode : Mode) (reduced : Bool)
    (v now : Nat) :
    let g : Channel := { ch with m4 := ch.m4 - ch.m4 / 4 + code }
    ¬(g.band mode reduced = .alarm ∧ ch.verify ≤ 1) →
    ch.goodSample code mode reduced v now =
      (match g.band mode reduced with
        | .alarm => { g with verify := ch.verify - 1 }
        | .prealarm => { g with verify := v }
        | .clear => { g with
            state := .prealarm
            verify := 0
            hold := if ch.hold = none then some (now + 10 * Config.second) else ch.hold }, .nothing) := by
  intro g going
  have filtered : ch.filter code = g := Channel.filter_running (by simp [Channel.firstSample, h]) code
  conv_lhs => rw [Channel.goodSample, h, filtered]
  dsimp only
  cases band : g.band mode reduced with
  | alarm =>
    have more : ¬g.verify ≤ 1 := fun k => going ⟨band, k⟩
    dsimp only
    rw [if_neg more]
  | prealarm => rfl
  | clear =>
    have held : some (g.hold.getD (now + holdTicks)) =
        if ch.hold = none then some (now + 10 * Config.second) else ch.hold := by
      show some (ch.hold.getD _) = _
      cases ch.hold <;> rfl
    dsimp only
    rw [held]

/-- R19: the sample that brings the verify count to 0. -/
theorem Channel.goodSample_burst {ch : Channel} (h : ch.state = .verify) (code : Nat) (mode : Mode) (reduced : Bool)
    (v now : Nat) :
    let g : Channel := { ch with m4 := ch.m4 - ch.m4 / 4 + code }
    g.band mode reduced = .alarm → ch.verify ≤ 1 →
    ch.goodSample code mode reduced v now = ({ g with verify := ch.verify - 1 }, .burst) := by
  intro g band last
  have filtered : ch.filter code = g := Channel.filter_running (by simp [Channel.firstSample, h]) code
  have last : g.verify ≤ 1 := last
  conv_lhs => rw [Channel.goodSample, h, filtered]
  dsimp only
  rw [band]
  dsimp only
  rw [if_pos last]

/-! ### What a completed burst brings -/

theorem State.recentRecording_sampledAs {s : State} (h : s.Shaped) (c n : Nat) (ch : Channel) :
    (s.sampledAs c n ch).recentRecording = true ↔
      ∃ i < 16, ∃ r, s.fl.lastRecorded.getD i none = some r ∧ max s.now (slotEnd n) < r + 30 * Config.second :=
  (s.sampledAs c n ch).recentRecording_iff h.recorded

/-- An alarm outside a walk test. -/
theorem settle_burst_alarm (old u : State) (c reading : Nat) {v : State} (hv : v = u.report .channelAlarm c reading) :
    Consequent u (settle old v none []) ∧ Reports u .channelAlarm c reading (settle old v none []) := by
  have ext : Extends (u.report .channelAlarm c reading).ap.reports v.ap.reports := hv ▸ .refl _
  have conseq : CallConsequent u v := hv ▸ State.report_callConsequent ..
  exact ⟨conseq.consequent.trans (settle_consequent ..), ext.settle ..⟩

/-- An alarm that ends a walk test (R39). -/
theorem settle_burst_secondAlarm {old u : State} (active : u.fl.walkActive = true) (slots : u.nt.slots = old.nt.slots)
    (points : u.fireLevels = old.fireLevels) (c reading : Nat) {v : State}
    (hv : v = (u.endWalk .secondAlarm).report .channelAlarm c reading) :
    Consequent u (settle old v none []) ∧ (settle old v none []).fl.walkActive = false ∧
      Extends ((u.report .walkEnd 5 (bitsToNat u.fl.tested)).report .channelAlarm c reading).ap.reports
        (settle old v none []).ap.reports := by
  have conseq : Consequent u v :=
    hv ▸ (u.endWalk_consequent _).trans (State.report_callConsequent ..).consequent
  have ended : u.endWalk .secondAlarm = (u.report .walkEnd 5 (bitsToNat u.fl.tested)).setFl { u.fl with
      walkActive := false
      walkTimer := none
      tested := List.replicate 16 false
      lastRecorded := List.replicate 16 none } := if_pos active
  rw [ended] at hv
  have inactive : v.fl.walkActive = false := hv ▸ rfl
  have reports : v.ap.reports =
      ((u.report .walkEnd 5 (bitsToNat u.fl.tested)).report .channelAlarm c reading).ap.reports := hv ▸ rfl
  have walk := settle_keeps_walk (old := old) (s := v) (hv ▸ slots) (hv ▸ points) none []
  exact ⟨conseq.trans (settle_consequent ..), walk.1.trans inactive, (Extends.of_eq reports).settle ..⟩

/-- A recording (R36). -/
theorem settle_burst_recorded {old u : State} (active : u.fl.walkActive = true) (slots : u.nt.slots = old.nt.slots)
    (points : u.fireLevels = old.fireLevels) (c reading : Nat) {v : State}
    (hv : v = (u.recorded c).report .walkTested c reading) :
    Consequent u (settle old v none []) ∧ Reports u .walkTested c reading (settle old v none []) ∧
      (settle old v none []).fl.walkActive = true ∧ (settle old v none []).fl.walkTimer = u.fl.walkTimer ∧
      (settle old v none []).fl.tested = u.fl.tested.set c true ∧
      (settle old v none []).fl.lastRecorded = u.fl.lastRecorded.set c (some u.now) := by
  have ext : Extends (u.report .walkTested c reading).ap.reports v.ap.reports := hv ▸ .refl _
  have fire : v.fl = (u.recorded c).fl := hv ▸ rfl
  have conseq : Consequent u v := hv ▸ Consequent.of_fire u (u.recorded c).fl (u.report_extends .walkTested c reading)
  obtain ⟨act, timer, tested, recorded⟩ := settle_keeps_walk (old := old) (s := v) (hv ▸ slots) (hv ▸ points) none []
  rw [fire] at act timer tested recorded
  exact ⟨conseq.trans (settle_consequent ..), ext.settle .., act.trans active, timer, tested, recorded⟩

/-- Settles O11: a burst that goes on is a sample like any other; one that completes is a recording or an alarm. -/
theorem sampleInVerify : Obligations.SampleInVerify := by
  constructor
  · intro s c code odd n a h l u due now ch g band going
    exact sampleArrival_consequent a due
      ((ch.sample_good l u _ _ _ _).trans (ch.goodSample_verify h _ _ _ _ _ going)) nofun
  · intro s c code odd n a shaped h l u due now ch g reading alarm band last
    have hc : (c : Nat) < s.ds.channels.length := by rw [shaped.channels]; exact c.isLt
    obtain ⟨done, hdone⟩ : ∃ done : Channel, done = { g with verify := ch.verify - 1 } := ⟨_, rfl⟩
    have read : done.reading = reading := by rw [hdone]; rfl
    have alarmed : done.toAlarm = alarm := by rw [hdone]; rfl
    have refilled : g.Refilled done.refill := by rw [hdone]; rfl
    have sample := (ch.sample_good l u s.nt.mode s.slotHoldsFire s.cl.node.v now).trans
      (ch.goodSample_burst h _ _ _ _ now band last)
    rw [← hdone] at sample
    have run := exec_sampleArrival_due a due sample
    rw [State.takeSampleEvent_burst] at run
    have recent := State.recentRecording_sampledAs shaped c n done
    refine ⟨fun idle => ⟨_, run, ?_⟩, fun active old => ⟨_, refilled, _, run, ?_⟩, fun active fresh => ⟨_, run, ?_⟩⟩
    · have hv := State.completeBurst_alarm hc (.inl idle) (n := n) (ch := done)
      rw [State.endWalk_inactive (by exact idle), read, alarmed] at hv
      exact settle_burst_alarm _ _ c reading hv
    · have none_recent : (s.sampledAs c n done).recentRecording = false := by
        rw [Bool.eq_false_iff]
        intro k
        obtain ⟨i, hi, r, hr, k⟩ := recent.1 k
        have apart : 30 * Config.second ≤ max s.now (slotEnd n) - r := old i hi r hr
        have : 0 < Config.second := by decide
        omega
      have hv := State.completeBurst_record hc active none_recent
      rw [read] at hv
      have walk := settle_burst_recorded (old := s.reach (slotEnd n)) (u := s.sampledAs c n done.refill)
        active rfl rfl c reading hv
      exact walk
    · have hv := State.completeBurst_alarm hc (.inr (recent.2 fresh))
      rw [read, alarmed] at hv
      have walk := settle_burst_secondAlarm (old := s.reach (slotEnd n)) (u := s.sampledAs c n alarm)
        active rfl rfl c reading hv
      exact walk

end Sys2Proof.Machine
end

/-! ## Fault samples, and samples outside NORMAL and VERIFY (R7, R8, R17, R19, R20) -/

section
namespace Sys2Proof.Machine

/-! ### Fault samples, and good samples in FAULT -/

/-- R20: a fault sample in a sampled state other than ALARM and FAULT. -/
theorem Channel.faultSample_sampled {ch : Channel} (h : ch.state ∈ [.settle, .refill, .normal, .prealarm, .verify])
    (cls : SampleClass) : ch.faultSample cls = (ch.toFault, .faulted cls) := by
  unfold Channel.faultSample
  cases k : ch.state <;> simp_all

theorem Channel.faultSample_alarm {ch : Channel} (h : ch.state = .alarm) (cls : SampleClass) :
    ch.faultSample cls =
      ({ ch with faultInAlarm := true }, if ch.faultInAlarm = true then .nothing else .faultInAlarm cls) := by
  cases ch
  subst h
  unfold Channel.faultSample
  dsimp only
  split
  · rename_i known
    rw [known]
  · rfl

theorem Channel.faultSample_fault {ch : Channel} (h : ch.state = .fault) (cls : SampleClass) :
    ch.faultSample cls = ({ ch with goodCount := 0 }, .nothing) := by
  cases ch
  subst h
  rfl

theorem Channel.goodSample_fault {ch : Channel} (h : ch.state = .fault) (code : Nat) (mode : Mode) (reduced : Bool)
    (v now : Nat) :
    ch.goodSample code mode reduced v now =
      if ch.goodCount = 3 then (Channel.refill { ch with goodCount := 4 }, .recovered)
      else ({ ch with goodCount := ch.goodCount + 1 }, .nothing) := by
  cases ch
  subst h
  unfold Channel.goodSample
  dsimp only
  split
  · rename_i fourth
    rw [if_pos (by omega), fourth]
  · rename_i more
    rw [if_neg (by omega)]

/-! ### What a sample reports -/

/-- A sample whose event is a report brings that report first. -/
theorem sampleArrival_reports {s : State} {c : Fin 16} {code : BitVec 10} {odd : Bool} {n : Nat} {after : Channel}
    {e : SampleEvent} (a : s.awake = true) (due : s.dueSlot c odd = some n)
    (r : (s.channel c).sample code.toNat s.nt.mode s.slotHoldsFire s.cl.node.v (max s.now (slotEnd n)) = (after, e))
    (h : e ≠ .burst) :
    Completes (.sampleArrival c code odd) s fun t =>
      Consequent (s.sampledAs c n after) t ∧ t.ds.channels = s.ds.channels.set c after ∧
        Extends ((s.sampledAs c n after).takeSampleEvent c (s.channel c).driftLimit e).ap.reports t.ap.reports := by
  have own := (s.sampledAs c n after).takeSampleEvent_callConsequent c (s.channel c).driftLimit h
  have kept : ((s.sampledAs c n after).takeSampleEvent c (s.channel c).driftLimit e).ds = (s.sampledAs c n after).ds := by
    obtain ⟨_, _, _, _, _, hv⟩ := own
    rw [hv]
  refine ⟨_, exec_sampleArrival_due a due r, own.consequent.trans (settle_consequent ..), ?_, settle_extends ..⟩
  rw [(settle_keeps_detector ..).1, kept]
  rfl

/-- A channel in FAULT, or with FAULT_IN_ALARM, is a fault member (R173). -/
theorem State.hasFault_of_channel {s : State} {ch : Channel} (m : ch ∈ s.ds.channels)
    (h : ch.state = .fault ∨ ch.faultInAlarm = true) : s.hasFault = true := by
  unfold State.hasFault State.faultMembers
  rw [List.any_eq_true]
  rcases h with h | h
  · exact ⟨true, List.mem_cons.2 (.inl (List.any_eq_true.2 ⟨ch, m, by simp [h]⟩).symm), rfl⟩
  · exact ⟨true, List.mem_cons_of_mem _ (List.mem_cons_of_mem _ (List.mem_cons.2
      (.inl (List.any_eq_true.2 ⟨ch, m, h⟩).symm))), rfl⟩

/-- Settles O13, by the record's state. -/
theorem sampleFaults : Obligations.SampleFaults := by
  intro s c code odd n a shaped due ch isFault value faulted run
  have hc : (c : Nat) < s.ds.channels.length := by rw [shaped.channels]; exact c.isLt
  have member : ∀ {t : State} {v : Channel}, t.ds.channels = s.ds.channels.set c v → v ∈ t.ds.channels :=
    fun ht => ht ▸ List.mem_set hc _
  have faultSample (fault : isFault) : ∃ cls : SampleClass, cls.code = value ∧
      ch.sample code.toNat s.nt.mode s.slotHoldsFire s.cl.node.v (max s.now (slotEnd n)) = ch.faultSample cls :=
    Channel.sample_fault fault ch _ _ _ _
  have goodSample (good : ¬isFault) := Channel.sample_good (code := code.toNat) (by omega) (by omega) ch
    s.nt.mode s.slotHoldsFire s.cl.node.v (max s.now (slotEnd n))
  refine ⟨fun fault state => ?_, fun fault state => ?_, fun fault state => ?_, fun good state more => ?_,
    fun good state fourth => ⟨_, rfl, ?_⟩⟩
  · obtain ⟨cls, hcls, r⟩ := faultSample fault
    obtain ⟨t, ht, conseq, chans, ext⟩ :=
      sampleArrival_reports a due (r.trans (Channel.faultSample_sampled state cls)) nofun
    rw [State.takeSampleEvent, hcls] at ext
    exact ⟨t, ht, conseq, ext, State.hasFault_of_channel (member chans) (.inl rfl)⟩
  · obtain ⟨cls, hcls, r⟩ := faultSample fault
    obtain ⟨t, ht, conseq, chans, ext⟩ :=
      sampleArrival_reports a due (r.trans (Channel.faultSample_alarm state cls)) (by split <;> exact nofun)
    refine ⟨t, ht, conseq, ?_, State.hasFault_of_channel (member chans) (.inr rfl)⟩
    by_cases known : ch.faultInAlarm = true
    · rw [if_pos known, State.takeSampleEvent, State.sampledAs_channel hc] at ext
      rw [known]
      cases k : ch.driftLimit <;> (rw [show (s.channel c).driftLimit = _ from k] at ext; exact ext)
    · rw [if_neg known, State.takeSampleEvent, hcls] at ext
      rw [Bool.not_eq_true] at known
      rw [known]
      exact ext
  · obtain ⟨cls, -, r⟩ := faultSample fault
    obtain ⟨t, ht, conseq⟩ := sampleArrival_consequent a due (r.trans (Channel.faultSample_fault state cls)) nofun
    exact ⟨t, ht, conseq, trivial⟩
  · have r := (goodSample good).trans (Channel.goodSample_fault state ..)
    rw [if_neg more] at r
    obtain ⟨t, ht, conseq⟩ := sampleArrival_consequent a due r nofun
    exact ⟨t, ht, conseq, trivial⟩
  · have r := (goodSample good).trans (Channel.goodSample_fault state ..)
    rw [if_pos fourth] at r
    obtain ⟨t, ht, conseq, -, ext⟩ := sampleArrival_reports a due r nofun
    rw [State.takeSampleEvent, State.sampledAs_channel hc] at ext
    exact ⟨t, ht, conseq, ext⟩

end Sys2Proof.Machine
end

section
namespace Sys2Proof.Machine

/-! ### Good samples in SETTLE, REFILL and ALARM; the hold timer -/

/-- R6: in SETTLE and REFILL the first good sample sets the filter. -/
theorem Channel.filter_counting {ch : Channel} (h : ch.state = .settle ∨ ch.state = .refill) (code : Nat) :
    ch.filter code =
      { ch with m4 := if ch.sampleCount = 0 then 4 * code else ch.m4 - ch.m4 / 4 + code } := by
  rcases h with h | h <;> simp [Channel.filter, Channel.firstSample, h]

/-- R7, R10: what the sixteenth good sample makes of a record. -/
theorem Channel.completeSettle_eq (ch : Channel) :
    let clamped := max ch.cfg.bmin (min ch.cfg.bmax (ch.m4 / 4))
    ch.completeSettle = { ch with
      state := .normal
      settled := true
      hold := none
      verify := 0
      b := if ch.cfg.kind = .smoke then clamped else 0
      driftLimit := ch.driftLimit || decide (ch.cfg.kind = .smoke ∧ clamped ≠ ch.m4 / 4) } := by
  intro clamped
  have limit : (ch.cfg.kind = .smoke && ch.settledBaseline != ch.m) =
      decide (ch.cfg.kind = .smoke ∧ clamped ≠ ch.m4 / 4) := by
    by_cases smoke : ch.cfg.kind = .smoke
    · simp [smoke, Channel.settledBaseline, Channel.m, clamped, bne, BEq.beq]
    · simp [smoke]
  rw [Channel.completeSettle, limit]
  rfl

theorem Channel.goodSample_settle {ch : Channel} (h : ch.state = .settle) (code : Nat) (mode : Mode) (reduced : Bool)
    (v now : Nat) :
    let g : Channel := { ch with m4 := if ch.sampleCount = 0 then 4 * code else ch.m4 - ch.m4 / 4 + code }
    ch.goodSample code mode reduced v now =
      (if ch.sampleCount = 15 then Channel.completeSettle { g with sampleCount := 16 }
        else { g with sampleCount := ch.sampleCount + 1 }, .nothing) := by
  intro g
  have filtered : ch.filter code = g := Channel.filter_counting (.inl h) code
  conv_lhs => rw [Channel.goodSample, h, filtered]
  dsimp only
  by_cases last : ch.sampleCount = 15
  · have : g.sampleCount + 1 = 16 := congrArg (· + 1) last
    rw [if_pos this, if_pos last, this]
  · have : ¬g.sampleCount + 1 = 16 := fun k => last (Nat.succ.inj k)
    rw [if_neg this, if_neg last]

theorem Channel.goodSample_refill {ch : Channel} (h : ch.state = .refill) (code : Nat) (mode : Mode) (reduced : Bool)
    (v now : Nat) :
    let g : Channel := { ch with m4 := if ch.sampleCount = 0 then 4 * code else ch.m4 - ch.m4 / 4 + code }
    ch.goodSample code mode reduced v now =
      (if ch.sampleCount = 3 then Channel.toNormal { g with sampleCount := 4 }
        else { g with sampleCount := ch.sampleCount + 1 }, .nothing) := by
  intro g
  have filtered : ch.filter code = g := Channel.filter_counting (.inr h) code
  conv_lhs => rw [Channel.goodSample, h, filtered]
  dsimp only
  by_cases last : ch.sampleCount = 3
  · have : g.sampleCount + 1 = 4 := congrArg (· + 1) last
    rw [if_pos this, if_pos last, this]
  · have : ¬g.sampleCount + 1 = 4 := fun k => last (Nat.succ.inj k)
    rw [if_neg this, if_neg last]

theorem Channel.goodSample_alarm {ch : Channel} (h : ch.state = .alarm) (code : Nat) (mode : Mode) (reduced : Bool)
    (v now : Nat) :
    ch.goodSample code mode reduced v now = ({ ch with m4 := ch.m4 - ch.m4 / 4 + code }, .nothing) := by
  rw [← Channel.filter_running (by simp [Channel.firstSample, h]) code, Channel.goodSample, h]

/-- The first part of O12. -/
theorem sample_in_settle_refill_alarm (s : State) (c : Fin 16) (code : BitVec 10) (a : s.awake = true)
    (l : 16 ≤ code.toNat) (u : code.toNat ≤ 1007) :
    let n := s.evenSlot c
    let ch := s.channel c
    let g : Channel := { ch with m4 := if ch.sampleCount = 0 then 4 * code.toNat else ch.m4 - ch.m4 / 4 + code.toNat }
    let run (after : Channel) : Prop :=
      Completes (.sampleArrival c code false) s fun t => Consequent (s.sampledAs c n after) t
    (ch.state = .settle → ch.sampleCount ≠ 15 → run { g with sampleCount := ch.sampleCount + 1 }) ∧
    (ch.state = .settle → ch.sampleCount = 15 → run (Channel.completeSettle { g with sampleCount := 16 })) ∧
    (ch.state = .refill → ch.sampleCount ≠ 3 → run { g with sampleCount := ch.sampleCount + 1 }) ∧
    (ch.state = .refill → ch.sampleCount = 3 → run (Channel.toNormal { g with sampleCount := 4 })) ∧
    (ch.state = .alarm → run { ch with m4 := ch.m4 - ch.m4 / 4 + code.toNat }) := by
  intro n ch g run
  have sampled {after : Channel} (h : ch.state ≠ .isolated)
      (r : ch.goodSample code.toNat s.nt.mode s.slotHoldsFire s.cl.node.v (max s.now (slotEnd n)) = (after, .nothing)) :
      run after :=
    sampleArrival_consequent a (State.dueSlot_even h) ((ch.sample_good l u ..).trans r) nofun
  refine ⟨fun h more => ?_, fun h last => ?_, fun h more => ?_, fun h last => ?_, fun h => ?_⟩
  · exact sampled (by simp [h]) ((Channel.goodSample_settle h ..).trans (by rw [if_neg more]))
  · exact sampled (by simp [h]) ((Channel.goodSample_settle h ..).trans (by rw [if_pos last]))
  · exact sampled (by simp [h]) ((Channel.goodSample_refill h ..).trans (by rw [if_neg more]))
  · exact sampled (by simp [h]) ((Channel.goodSample_refill h ..).trans (by rw [if_pos last]))
  · exact sampled (by simp [h]) (Channel.goodSample_alarm h ..)

/-! ### Records changed in nothing that other blocks read -/

/-- The fault members that a channel holds (R173). -/
def Channel.members (ch : Channel) : Bool × Bool × Bool := (ch.state = .fault, ch.driftLimit, ch.faultInAlarm)

/-- With the channels' members the same, and nothing else but the clock and the scanner's own changed, no fault member comes up. -/
theorem State.hasFault_setDs {s : State} {now : Nat} {ds : Scanner}
    (h : ds.channels.map Channel.members = s.ds.channels.map Channel.members) :
    ({ s with now := now, ds := ds } : State).hasFault = s.hasFault := by
  have any_eq (p : Bool × Bool × Bool → Bool) :
      ds.channels.any (p ∘ Channel.members) = s.ds.channels.any (p ∘ Channel.members) := by
    rw [← List.any_map, ← List.any_map, h]
  have fault : ds.channels.any (·.state = .fault) = s.ds.channels.any (·.state = .fault) := any_eq (·.1)
  have limit : ds.channels.any (·.driftLimit) = s.ds.channels.any (·.driftLimit) := any_eq (·.2.1)
  have alarm : ds.channels.any (·.faultInAlarm) = s.ds.channels.any (·.faultInAlarm) := any_eq (·.2.2)
  simp only [State.hasFault, State.faultMembers, fault, limit, alarm]

/-- With the channels' states the same, nothing that other blocks read differs. -/
theorem SameInputs.of_scanner (s : State) (now : Nat) {ds : Scanner}
    (h : ds.channels.map (·.state) = s.ds.channels.map (·.state)) : SameInputs s { s with now := now, ds := ds } :=
  ⟨rfl, h, rfl, rfl, rfl, rfl, rfl, rfl, rfl⟩

/-- The channels' states are among their fault members and phases: a scanner that keeps both is left to itself. -/
theorem settle_scanner {s : State} {ds : Scanner} (states : ds.channels.map (·.state) = s.ds.channels.map (·.state))
    (members : ds.channels.map Channel.members = s.ds.channels.map Channel.members) :
    settle s (s.setDs ds) none [] = s.setDs ds :=
  settle_idle (.of_scanner s s.now states) rfl fun h => (State.hasFault_setDs members).symm.trans h

/-! ### HOLD_TIMER_EXPIRY -/

theorem exec_holdTimerExpiry {s : State} {c : Fin 16} {deadline : Nat} (a : s.awake = true)
    (h : (s.channel c).hold = some deadline) :
    exec (.holdTimerExpiry c) s =
      .next (settle (s.reach deadline) ((s.reach deadline).setChannel c (s.channel c).holdExpire) none []) :=
  State.expiry_running a h _

/-- R17: outside PREALARM the timer just stops, and no other block has anything to act on. -/
theorem exec_holdTimerExpiry_stops {s : State} {c : Fin 16} {deadline : Nat} (a : s.awake = true)
    (h : (s.channel c).hold = some deadline) (other : (s.channel c).state ≠ .prealarm) :
    exec (.holdTimerExpiry c) s = .next ((s.reach deadline).setChannel c { s.channel c with hold := none }) := by
  rw [exec_holdTimerExpiry a h, Channel.holdExpire, if_neg other]
  have quiet := settle_scanner (s := s.reach deadline)
    (State.map_setChannel (s := s.reach deadline) (c := c) (·.state) (v := { s.channel c with hold := none }) rfl)
    (State.map_setChannel (s := s.reach deadline) (c := c) Channel.members (v := { s.channel c with hold := none }) rfl)
  exact congrArg _ quiet

/-- The second part of O12. -/
theorem sample_in_prealarm_and_hold_expiry (s : State) (c : Fin 16) (code : BitVec 10) (a : s.awake = true) :
    let ch := s.channel c
    (ch.state = .prealarm → 16 ≤ code.toNat → code.toNat ≤ 1007 →
      let n := s.evenSlot c
      let now := max s.now (slotEnd n)
      let g : Channel := { ch with m4 := ch.m4 - ch.m4 / 4 + code.toNat }
      Completes (.sampleArrival c code false) s fun t =>
        Consequent
          (s.sampledAs c n
            (match g.band s.nt.mode s.slotHoldsFire with
            | .alarm => { g with state := .verify, verify := s.cl.node.v, lastOdd := now }
            | .prealarm => { g with hold := some (now + 10 * Config.second) }
            | .clear => g)) t) ∧
    (∀ deadline, ch.hold = some deadline →
      let after (v : Channel) : State :=
        { s with now := max s.now deadline, ds := { s.ds with channels := s.ds.channels.set c v } }
      (ch.state = .prealarm →
        Completes (.holdTimerExpiry c) s fun t =>
          Consequent (after { ch with state := .normal, hold := none, verify := 0 }) t) ∧
      (ch.state = .verify → exec (.holdTimerExpiry c) s = .next (after { ch with hold := none }))) := by
  intro ch
  refine ⟨fun h l u => ?_, fun deadline hold => ⟨fun h => ?_, fun h => ?_⟩⟩
  · exact sampleArrival_consequent a (State.dueSlot_even (by rw [show (s.channel c).state = _ from h]; exact nofun))
      ((ch.sample_good l u ..).trans (Channel.goodSample_prealarm h ..)) nofun
  · refine ⟨_, exec_holdTimerExpiry a hold, ?_⟩
    rw [Channel.holdExpire, if_pos h]
    exact settle_consequent ..
  · exact exec_holdTimerExpiry_stops a hold (by rw [show (s.channel c).state = _ from h]; exact nofun)

end Sys2Proof.Machine
end

/-! ## The odd slots' arbiter and the timers of the scanner (R4, R9, R14) -/

section
namespace Sys2Proof.Machine

/-! ### The arbiter (R4) -/

theorem longestWaiting_eq_none {l : List (Nat × Channel)} :
    longestWaiting l = none ↔ ∀ p ∈ l, p.2.state ≠ .verify := by
  induction l with
  | nil => simp [longestWaiting]
  | cons p rest ih =>
    obtain ⟨i, ch⟩ := p
    rw [List.forall_mem_cons, ← ih, longestWaiting]
    cases hr : longestWaiting rest with
    | none => by_cases v : ch.state = .verify <;> simp [v]
    | some q =>
      dsimp only
      split <;> simp

/-- Of the verifying channels the choice has waited longest, and is the first in the list among equals. -/
theorem longestWaiting_spec {l : List (Nat × Channel)} {p : Nat × Channel} (h : longestWaiting l = some p)
    (ordered : l.Pairwise fun a b => a.1 < b.1) :
    p ∈ l ∧ p.2.state = .verify ∧
      ∀ q ∈ l, q.2.state = .verify → p.2.lastOdd < q.2.lastOdd ∨ (p.2.lastOdd = q.2.lastOdd ∧ p.1 ≤ q.1) := by
  induction l generalizing p with
  | nil => cases h
  | cons a rest ih =>
    obtain ⟨i, ch⟩ := a
    obtain ⟨first, ordered⟩ := List.pairwise_cons.1 ordered
    rw [longestWaiting] at h
    cases hr : longestWaiting rest with
    | none =>
      rw [hr] at h
      obtain ⟨v, rfl⟩ : ch.state = .verify ∧ (i, ch) = p := by simpa using h
      refine ⟨List.mem_cons_self, v, fun q hq hv => ?_⟩
      rcases List.mem_cons.1 hq with rfl | hq
      · exact .inr ⟨rfl, le_refl _⟩
      · exact absurd hv (longestWaiting_eq_none.1 hr q hq)
    | some r =>
      obtain ⟨member, waits, least⟩ := ih hr ordered
      obtain ⟨j, c2⟩ := r
      rw [hr] at h
      dsimp only at h
      split at h
      · rename_i longer
        cases h
        obtain ⟨v, le⟩ : ch.state = .verify ∧ ch.lastOdd ≤ c2.lastOdd := by simpa using longer
        refine ⟨List.mem_cons_self, v, fun q hq hv => ?_⟩
        rcases List.mem_cons.1 hq with rfl | hq
        · exact .inr ⟨rfl, le_refl _⟩
        · have before : i < q.1 := first q hq
          rcases least q hq hv with lt | ⟨eq, -⟩ <;> dsimp only at * <;> omega
      · rename_i shorter
        cases h
        refine ⟨List.mem_cons_of_mem _ member, waits, fun q hq hv => ?_⟩
        rcases List.mem_cons.1 hq with rfl | hq
        · have lt : c2.lastOdd < ch.lastOdd := by simpa [show ch.state = .verify from hv] using shorter
          exact .inl lt
        · exact least q hq hv

theorem State.mem_indexedChannels {s : State} {p : Nat × Channel} :
    p ∈ s.indexedChannels ↔ p.1 < 16 ∧ p.2 = s.channel p.1 := by
  obtain ⟨i, ch⟩ := p
  simp only [State.indexedChannels, List.mem_map, List.mem_range, Prod.mk.injEq]
  constructor
  · rintro ⟨j, hj, rfl, rfl⟩; exact ⟨hj, rfl⟩
  · rintro ⟨hi, rfl⟩; exact ⟨i, hi, rfl, rfl⟩

theorem State.indexedChannels_ordered (s : State) : s.indexedChannels.Pairwise fun a b => a.1 < b.1 :=
  List.pairwise_map.2 List.pairwise_lt_range

theorem State.arbiterChoice_eq_none {s : State} (h : ∀ j : Fin 16, (s.channel j).state ≠ .verify) :
    s.arbiterChoice = none := by
  rw [State.arbiterChoice, Option.map_eq_none_iff, longestWaiting_eq_none]
  intro p hp
  obtain ⟨hi, hp⟩ := State.mem_indexedChannels.1 hp
  rw [hp]
  exact h ⟨p.1, hi⟩

theorem State.arbiterChoice_eq_some {s : State} {c : Fin 16} (v : (s.channel c).state = .verify)
    (h : ∀ j : Fin 16, (s.channel j).state = .verify → (s.channel c).lastOdd < (s.channel j).lastOdd ∨
      ((s.channel c).lastOdd = (s.channel j).lastOdd ∧ c.val ≤ j.val)) : s.arbiterChoice = some c.val := by
  have member : (c.val, s.channel c) ∈ s.indexedChannels := State.mem_indexedChannels.2 ⟨c.isLt, rfl⟩
  cases chosen : longestWaiting s.indexedChannels with
  | none => exact absurd v (longestWaiting_eq_none.1 chosen _ member)
  | some p =>
    obtain ⟨i, ch⟩ := p
    obtain ⟨place, waits, least⟩ := longestWaiting_spec chosen s.indexedChannels_ordered
    obtain ⟨hi, record⟩ := State.mem_indexedChannels.1 place
    dsimp only at hi record
    subst record
    have one := least _ member v
    have other := h ⟨i, hi⟩ waits
    have same : i = c.val := by dsimp only at one other; omega
    rw [State.arbiterChoice, chosen, same]
    rfl

theorem exec_oddSlotGrant {s : State} (a : s.awake = true) :
    exec .oddSlotGrant s = .next ((s.reach (slotStart s.oddSlot)).grantSlot s.oddSlot s.arbiterChoice) := by
  show execOddSlotGrant s = _
  rw [execOddSlotGrant, if_pos a]
  exact State.own_awake (s := s.reach _) a _

/-- Settles O14: the arbiter's choice is the one channel that has waited longest. -/
theorem oddSlotGranted : Obligations.OddSlotGranted := by
  intro s a _ start now
  refine ⟨?_, fun c v h => ?_, fun h => ?_⟩
  · unfold State.oddSlot
    dsimp only
    omega
  · rw [exec_oddSlotGrant a, State.arbiterChoice_eq_some v h]
    rfl
  · rw [exec_oddSlotGrant a, State.arbiterChoice_eq_none h]
    rfl

/-! ### The rate timer (R14) -/

/-- A ring of eight gives up its oldest value first. -/
theorem pushRing_eq {ring : List Nat} (h : ring.length ≤ 8) (m : Nat) :
    pushRing ring m = (if ring.length = 8 then ring.tail else ring) ++ [m] := by
  unfold pushRing
  split
  · rw [if_neg (by omega)]
  · have full : ring.length = 8 := by omega
    rw [if_pos full, full]
    cases ring with
    | nil => cases full
    | cons x xs => rfl

theorem Channel.rateStep_eq {ch : Channel} (h : ch.ring.length ≤ 8) :
    ch.rateStep =
      if ch.cfg.kind = .heat ∧ ch.state ∈ [ChannelState.normal, .prealarm, .verify] then
        { ch with ring := (if ch.ring.length = 8 then ch.ring.tail else ch.ring) ++ [ch.m4 / 4] }
      else ch := by
  have same : (ch.cfg.kind = .heat && (ch.state = .normal || ch.state = .prealarm || ch.state = .verify)) =
      decide (ch.cfg.kind = .heat ∧ ch.state ∈ [ChannelState.normal, .prealarm, .verify]) := by
    simp [Bool.or_assoc]
  rw [Channel.rateStep, same, pushRing_eq h]
  simp only [decide_eq_true_eq]
  rfl

/-- A rate step changes the ring alone. -/
theorem Channel.rateStep_changes (ch : Channel) : ∃ r, ch.rateStep = { ch with ring := r } := by
  unfold Channel.rateStep
  split
  · exact ⟨_, rfl⟩
  · exact ⟨ch.ring, rfl⟩

/-- Settles O16: the rings are read by no other block. -/
theorem rateSteps : Obligations.RateSteps := by
  intro s deadline a bounded running now
  have keeps {α : Type} (p : Channel → α) (h : ∀ ch, p ch.rateStep = p ch) :
      (s.ds.channels.map Channel.rateStep).map p = s.ds.channels.map p := by
    rw [List.map_map]
    exact List.map_congr_left fun ch _ => h ch
  have quiet := settle_scanner (s := s.reach deadline)
    (ds := { s.ds with
      channels := s.ds.channels.map Channel.rateStep
      rate := some (now + s.cl.node.rateSeconds * Config.second) })
    (keeps _ fun ch => by obtain ⟨r, h⟩ := ch.rateStep_changes; rw [h])
    (keeps _ fun ch => by obtain ⟨r, h⟩ := ch.rateStep_changes; rw [h]; rfl)
  have rings := List.map_congr_left fun ch member => Channel.rateStep_eq (bounded.rings ch member)
  rw [← rings]
  exact (State.expiry_running a running _).trans (congrArg _ quiet)

/-! ### The drift timer (R9, R10) -/

/-- What a drift step leaves: all but baseline and DRIFT_LIMIT. -/
theorem Channel.driftStep_changes (ch : Channel) : ∃ b limit, ch.driftStep = { ch with b := b, driftLimit := limit } := by
  unfold Channel.driftStep
  repeat' split
  all_goals exact ⟨_, _, rfl⟩

theorem Channel.driftStep_other {ch : Channel} (h : ¬(ch.cfg.kind = .smoke ∧ ch.state = .normal)) :
    ch.driftStep = ch := by
  rw [Channel.driftStep, if_neg (by simpa using h)]

section
variable {ch : Channel} (smoke : ch.cfg.kind = .smoke) (normal : ch.state = .normal)
include smoke normal

/-- R9's table, the state and kind apart. -/
theorem Channel.driftStep_normal :
    ch.driftStep =
      if ch.b < ch.m then
        if ch.b < ch.cfg.bmax then { ch with b := ch.b + 1 } else { ch with driftLimit := true }
      else if ch.m < ch.b && ch.cfg.bmin < ch.b then { ch with b := ch.b - 1, driftLimit := false }
      else { ch with driftLimit := ch.driftLimit && !decide (ch.b < ch.cfg.bmax) } := by
  rw [Channel.driftStep, if_pos (by simp [smoke, normal])]
  congr 2
  by_cases below : ch.b < ch.cfg.bmax
  · simp [below]
  · simp [below]

theorem Channel.driftStep_up (above : ch.b < ch.m) (room : ch.b < ch.cfg.bmax) :
    ch.driftStep = { ch with b := ch.b + 1 } := by
  rw [Channel.driftStep_normal smoke normal, if_pos above, if_pos room]

theorem Channel.driftStep_top (above : ch.b < ch.m) (top : ch.b = ch.cfg.bmax) :
    ch.driftStep = { ch with driftLimit := true } := by
  rw [Channel.driftStep_normal smoke normal, if_pos above, if_neg (by omega)]

theorem Channel.driftStep_down (below : ch.m < ch.b) (room : ch.cfg.bmin < ch.b) :
    ch.driftStep = { ch with b := ch.b - 1, driftLimit := false } := by
  rw [Channel.driftStep_normal smoke normal, if_neg (by omega), if_pos (by simp [below, room])]

/-- Equal to m, or below it at the bottom of the range. -/
theorem Channel.driftStep_rest (le : ch.m ≤ ch.b) (rest : ¬(ch.m < ch.b ∧ ch.cfg.bmin < ch.b)) :
    ch.driftStep = { ch with driftLimit := ch.driftLimit && !decide (ch.b < ch.cfg.bmax) } := by
  rw [Channel.driftStep_normal smoke normal, if_neg (by omega), if_neg (by simpa using rest)]

theorem Channel.driftStep_range (low : ch.cfg.bmin ≤ ch.b) (high : ch.b ≤ ch.cfg.bmax) :
    ch.cfg.bmin ≤ ch.driftStep.b ∧ ch.driftStep.b ≤ ch.cfg.bmax := by
  rw [Channel.driftStep_normal smoke normal]
  split
  · split <;> dsimp only <;> omega
  · split
    · rename_i down
      have : ch.cfg.bmin < ch.b := by simp at down; exact down.2
      dsimp only
      omega
    · exact ⟨low, high⟩

end

/-- What lies outside the list is not stepped. -/
theorem stepDrift_channel (s : State) (c i : Nat) :
    (stepDrift s c).channel i = if i = c then (s.channel i).driftStep else s.channel i := by
  have reported : (stepDrift s c).channel i = (s.setChannel c (s.channel c).driftStep).channel i := by
    unfold stepDrift
    obtain ⟨r, h⟩ := State.reportIf_changes (s.setChannel c (s.channel c).driftStep) _ _ _ _
    dsimp only
    rw [h]
    rfl
  rw [reported]
  split
  · rename_i h
    subst h
    by_cases hc : i < s.ds.channels.length
    · rw [State.setChannel_channel hc]
    · have unused : s.channel i = Channel.afterRestart .unused := by simp [State.channel, Nat.not_lt.1 hc]
      rw [State.setChannel, List.set_eq_of_length_le (Nat.not_lt.1 hc)]
      show s.channel i = _
      rw [unused]
      rfl
  · rename_i h
    exact s.setChannel_channel_ne (Ne.symm h) _

/-- Applied for one index more. -/
theorem State.forEach_succ (s : State) (n : Nat) (f : State → Nat → State) :
    s.forEach (n + 1) f = f (s.forEach n f) n := by
  simp [State.forEach, List.range_succ]

theorem forEach_stepDrift_channel (s : State) (n i : Nat) :
    (s.forEach n stepDrift).channel i = if i < n then (s.channel i).driftStep else s.channel i := by
  induction n with
  | zero => rfl
  | succ n ih =>
    rw [State.forEach_succ, stepDrift_channel, ih]
    by_cases last : i = n
    · rw [if_pos last, if_neg (by omega), if_pos (by omega)]
    · rw [if_neg last]
      by_cases lt : i < n
      · rw [if_pos lt, if_pos (by omega)]
      · rw [if_neg lt, if_neg (by omega)]

/-- Drift steps change channel records and offer reports. -/
theorem forEach_stepDrift_changes (s : State) (n : Nat) :
    ∃ v : List Channel × List Report, s.forEach n stepDrift =
      { s with ds := { s.ds with channels := v.1 }, ap := { s.ap with reports := v.2 } } := by
  refine State.forEach_changes
    (fun s (v : List Channel × List Report) =>
      { s with ds := { s.ds with channels := v.1 }, ap := { s.ap with reports := v.2 } })
    (fun s => ⟨(s.ds.channels, s.ap.reports), rfl⟩) (fun s v w => ⟨w, rfl⟩) n _ ?_ s
  intro s c
  obtain ⟨r, h⟩ := State.reportIf_changes (s.setChannel c (s.channel c).driftStep) _ _ _ _
  exact ⟨(_, r), h⟩

theorem stepDrift_states (s : State) (c : Nat) :
    (stepDrift s c).ds.channels.map (·.state) = s.ds.channels.map (·.state) := by
  obtain ⟨r, h⟩ := State.reportIf_changes (s.setChannel c (s.channel c).driftStep) _ _ _ _
  rw [stepDrift, h]
  refine State.map_setChannel (·.state) ?_
  obtain ⟨b, limit, h⟩ := (s.channel c).driftStep_changes
  rw [h]

theorem forEach_stepDrift_states (s : State) (n : Nat) :
    (s.forEach n stepDrift).ds.channels.map (·.state) = s.ds.channels.map (·.state) := by
  induction n with
  | zero => rfl
  | succ n ih => rw [State.forEach_succ, stepDrift_states, ih]

theorem stepDrift_extends (s : State) (c : Nat) : Extends s.ap.reports (stepDrift s c).ap.reports :=
  State.reportIf_extends (s.setChannel c _) _ _ _ _

theorem exec_driftTimerExpiry {s : State} {deadline : Nat} (a : s.awake = true) (running : s.ds.drift = some deadline) :
    exec .driftTimerExpiry s =
      .next (settle (s.reach deadline) (((s.reach deadline).forEach 16 stepDrift).startDrift) none []) :=
  State.expiry_running a running _

/-- The channels after the drift timer's expiry. -/
theorem settle_drift_channel (u : State) {i : Nat} (h : i < 16) :
    (settle u (u.forEach 16 stepDrift).startDrift none []).channel i = (u.channel i).driftStep := by
  have stepped := forEach_stepDrift_channel u 16 i
  rw [if_pos h] at stepped
  generalize u.forEach 16 stepDrift = v at stepped ⊢
  rw [State.channel, (settle_keeps_detector ..).1]
  exact stepped

/-- Settles O15: each record steps by itself; states, and so all that other blocks but the call controller read, stay. -/
theorem driftSteps : Obligations.DriftSteps := by
  intro s deadline a running now
  refine ⟨_, exec_driftTimerExpiry a running, ?_, fun c hc => ?_⟩
  · have states := forEach_stepDrift_states (s.reach deadline) 16
    have ext := State.forEach_extends stepDrift_extends 16 (s.reach deadline)
    obtain ⟨v, h⟩ := forEach_stepDrift_changes (s.reach deadline) 16
    rw [h] at states ext ⊢
    refine ⟨v.1, ?_⟩
    have reports := CallConsequent.of_reports
      { s with
        now := now
        ds := { s.ds with
          channels := v.1, drift := some (now + s.cl.node.driftMinutes * (60 * Config.second)) } } ext
    refine reports.trans (settle_callConsequent ?_)
    exact ⟨rfl, states, rfl, rfl, rfl, rfl, rfl, rfl, rfl⟩
  · rw [settle_drift_channel (s.reach deadline) hc]
    intro ch
    show (¬_ → ch.driftStep = ch) ∧ (_ → _ → (_ → _ → ch.driftStep = _) ∧ (_ → _ → ch.driftStep = _) ∧
      (_ → ch.driftStep = _) ∧ (_ → _ → ch.driftStep = _) ∧ (_ → _ → ch.driftStep = _) ∧ _)
    refine ⟨Channel.driftStep_other, fun smoke normal => ⟨Channel.driftStep_up smoke normal,
      Channel.driftStep_top smoke normal, fun eq => ?_, Channel.driftStep_down smoke normal, fun below bottom => ?_,
      Channel.driftStep_range smoke normal⟩⟩
    · exact Channel.driftStep_rest smoke normal (by omega) (by omega)
    · exact Channel.driftStep_rest smoke normal (by omega) (by omega)

end Sys2Proof.Machine
end

/-! ## What any command can do to the channels and the fire logic's inputs -/

section
namespace Sys2Proof.Machine

/-! ### What the fire logic reads -/

/-- What the fire logic decides on (R26 to R29), the fire logic itself, the loader, and the channels' DRIFT_LIMIT. -/
def State.fireView (s : State) : Loader × FireLogic × List Slot × List Point × List (ChannelState × Bool) :=
  (s.cl, s.fl, s.nt.slots, s.cc.points, s.ds.channels.map fun ch => (ch.state, ch.driftLimit))

section
variable {a b : State} (h : a.fireView = b.fireView)
include h

theorem State.cl_of_fireView : a.cl = b.cl := congrArg (·.1) h

theorem State.fl_of_fireView : a.fl = b.fl := congrArg (·.2.1) h

theorem State.slotFires_of_fireView : a.slotFires = b.slotFires :=
  congrArg (fun v => v.2.2.1.map fun k => (if k.used then k.presence else .absent, k.offeredFire)) h

theorem State.fireLevels_of_fireView : a.fireLevels = b.fireLevels :=
  congrArg (fun v => v.2.2.2.1.map Point.fireActive) h

theorem State.channelStates_of_fireView : a.ds.channels.map (·.state) = b.ds.channels.map (·.state) := by
  have := congrArg (fun v => v.2.2.2.2.map (·.1)) h
  simpa [State.fireView, Function.comp_def] using this

theorem State.driftLimits_of_fireView : a.ds.channels.map (·.driftLimit) = b.ds.channels.map (·.driftLimit) := by
  have := congrArg (fun v => v.2.2.2.2.map (·.2)) h
  simpa [State.fireView, Function.comp_def] using this

end

/-- Where nothing the fire logic reads has changed it does nothing (R26, R39). -/
theorem fireFollow_still {old s : State} (channels : s.ds.channels.map (·.state) = old.ds.channels.map (·.state))
    (slots : s.slotFires = old.slotFires) (levels : s.fireLevels = old.fireLevels) (fl : s.fl = old.fl) :
    fireFollow old s = s := by
  have walk : walkFollow old s = s := by simp [walkFollow, levels, slots, risen_self]
  rw [fireFollow, walk]
  exact if_neg (by simp [fireInputsChanged, channels, levels, slots, fl])

theorem fireFollow_same {old s : State} (h : s.fireView = old.fireView) : fireFollow old s = s :=
  fireFollow_still (State.channelStates_of_fireView h) (State.slotFires_of_fireView h)
    (State.fireLevels_of_fireView h) (State.fl_of_fireView h)

/-- RUN is entered by a change of the gallery fire state alone (R177). -/
theorem phaseFollow_same {old s : State} (h : s.fl.gallery = old.fl.gallery) : phaseFollow old s = s := by
  refine if_neg ?_
  rw [h]
  cases old.fl.gallery <;> simp

theorem settle_keeps_fireView {old s : State} (h : s.fireView = old.fireView) (peer : Option Nat) (pressed : List Nat) :
    (settle old s peer pressed).fireView = s.fireView := by
  obtain ⟨_, _, _, _, _, _, _, _, _, _, e⟩ := settle_changes old s peer pressed
  rw [fireFollow_same h, phaseFollow_same (congrArg FireLogic.gallery (State.fl_of_fireView h))] at e
  rw [e]
  rfl

/-! ### Events -/

/-- `u` is `s` at the moment of an event: the clock may have come to it, and an idle may have ended the deafness. -/
def AtEvent (s u : State) : Prop :=
  ∃ now deaf free, (deaf = none ∨ deaf = s.lc.deaf) ∧
    u = { s with now := now, lc := { s.lc with deaf := deaf }, freeCount := free }

theorem AtEvent.refl (s : State) : AtEvent s s := ⟨s.now, s.lc.deaf, s.freeCount, .inr rfl, rfl⟩

theorem AtEvent.reach (s : State) (m : Nat) : AtEvent s (s.reach m) := ⟨_, s.lc.deaf, s.freeCount, .inr rfl, rfl⟩

theorem State.idle_deaf_cases (s : State) : s.idle.lc.deaf = none ∨ s.idle.lc.deaf = s.lc.deaf := by
  show s.lc.deaf.filter _ = none ∨ s.lc.deaf.filter _ = s.lc.deaf
  cases s.lc.deaf with
  | none => exact .inl rfl
  | some hears =>
    rw [Option.filter_some]
    split
    · exact .inr rfl
    · exact .inl rfl

theorem AtEvent.idle (s : State) : AtEvent s s.idle := ⟨s.now, _, s.freeCount, s.idle_deaf_cases, rfl⟩

theorem AtEvent.idleChosen (s : State) : AtEvent s s.idleChosen := ⟨s.now, _, _, s.idle_deaf_cases, rfl⟩

/-- From `s` to `t` lies one event whose owner does `f`, or nothing but the end of the deafness. -/
inductive Event (f : State → State) (s t : State) : Prop
  | still (h : AtEvent s t)
  | acts {u : State} (peer : Option Nat) (pressed : List Nat) (moment : AtEvent s u)
      (h : t = settle u (f u) peer pressed)

theorem State.event_cases {s t : State} {f : State → State} (h : s.event f = .next t) : Event f s t := by
  cases a : s.awake
  · simp only [State.event, a] at h
    cases h
    exact .still (.refl s)
  · rw [State.event_awake a] at h
    cases h
    exact .acts none [] (.refl s) rfl

theorem State.expiry_cases {s t : State} {timer : Timer} {f : State → State} (h : s.expiry timer f = .next t) :
    Event f s t := by
  cases timer with
  | none => cases h; exact .still (.refl s)
  | some deadline =>
    cases a : s.awake
    · rw [State.expiry_asleep a] at h; cases h; exact .still (.refl s)
    · rw [State.expiry_running a rfl] at h; cases h; exact .acts none [] (.reach s deadline) rfl

theorem State.reception_event {s t : State} {span : Span} {brought f : State → State}
    (h : s.reception span brought = .next t)
    (k : ∀ u, brought u = u ∨ ∃ peer pressed, brought u = settle u (f u) peer pressed) : Event f s t := by
  have one {u : State} (m : AtEvent s u) : Event f s (brought u) := by
    rcases k u with e | ⟨peer, pressed, e⟩
    · rw [e]; exact .still m
    · exact .acts peer pressed m e
  rcases State.reception_cases h with rfl | ⟨-, -, rfl⟩ | ⟨-, -, -, rfl | rfl | rfl | rfl⟩
  · exact .still (.refl _)
  · exact one (.refl s)
  · exact .still (.idle s)
  · exact .still (.idleChosen s)
  · exact one (.idle s)
  · exact one (.idleChosen s)

/-- A telegram's owner: the line controller at a duplicate, else the block it is dispatched to. -/
def State.hear (src : BitVec 6) (body : Payload) (u : State) : State :=
  if src.toNat = u.nodeId then u.noteDuplicate body.kindCode else u.dispatch src.toNat body

theorem State.arrival_cases {s t : State} {src : BitVec 6} {body : Payload} (h : s.arrival src body = .next t) :
    Event (State.hear src body) s t := by
  refine State.reception_event h fun u => ?_
  split
  · exact .inl rfl
  · unfold State.hear
    split
    · exact .inr ⟨none, [], rfl⟩
    · exact .inr ⟨_, [], rfl⟩

theorem State.pressEvent_cases {s t : State} {p : Nat} (h : s.pressEvent p = .next t) :
    Event (fun u => (u.qualifyPoint p true).pressPoint p) s t := by
  cases a : s.awake
  · simp only [State.pressEvent, a] at h
    cases h
    exact .still (.refl s)
  · rw [State.pressEvent_awake a] at h
    cases h
    exact .acts none [p] (.refl s) rfl

/-- A request answered or not: with a refusal or not at all, the state but for the port stays. -/
theorem State.request_cases {s t : State} {k : RequestClass} {f : State → State × Response}
    (h : s.request k f = .next t) :
    t = s ∨ (∃ r, t = s.respond r) ∨ (s.portBar k = none ∧ t = (f s).1.respond (f s).2) := by
  unfold State.request at h
  split at h
  · split at h
    · cases h; exact .inr (.inl ⟨_, rfl⟩)
    · rename_i bar
      cases h; exact .inr (.inr ⟨bar, rfl⟩)
  · cases h; exact .inl rfl

/-- What an event's owner keeps of the channels, the event keeps. -/
theorem Event.channels {α : Type} {f : State → State} {s t : State} (h : Event f s t) (p : List Channel → α)
    (k : ∀ u, p (f u).ds.channels = p u.ds.channels) : p t.ds.channels = p s.ds.channels := by
  cases h with
  | still h => obtain ⟨_, _, _, _, rfl⟩ := h; rfl
  | acts peer pressed m h =>
    obtain ⟨_, _, _, _, rfl⟩ := m
    rw [h, (settle_keeps_detector ..).1, k]

theorem AtEvent.fireView {s u : State} (h : AtEvent s u) : u.fireView = s.fireView := by
  obtain ⟨_, _, _, _, rfl⟩ := h; rfl

theorem Event.fireView {f : State → State} {s t : State} (h : Event f s t) (k : ∀ u, (f u).fireView = u.fireView) :
    t.fireView = s.fireView := by
  cases h with
  | still h => exact h.fireView
  | acts peer pressed m h => rw [h, settle_keeps_fireView (k _), k, m.fireView]

theorem request_fireView {s t : State} {k : RequestClass} {f : State → State × Response} (h : s.request k f = .next t)
    (keep : (f s).1.fireView = s.fireView) : t.fireView = s.fireView := by
  rcases State.request_cases h with rfl | ⟨r, rfl⟩ | ⟨-, rfl⟩
  · rfl
  · rfl
  · exact keep

end Sys2Proof.Machine
end

section
namespace Sys2Proof.Machine

/-! ### Owners that leave the fire logic's inputs alone -/

theorem State.applyFlag_fireView (s : State) (o : FlagOrder) (sender : Nat) :
    (s.applyFlag o sender).fireView = s.fireView := by
  obtain ⟨_, _, _, _, h⟩ := s.applyFlag_changes o sender; rw [h]; rfl

theorem State.applyOwnOrder_fireView (s : State) (code : Nat) : (s.applyOwnOrder code).fireView = s.fireView := by
  unfold State.applyOwnOrder
  split
  · exact s.applyFlag_fireView _ _
  · rfl

theorem State.doorAlarm_fireView (s : State) (src : Nat) (k : CallKind) (b : Nat) :
    (s.doorAlarm src k b).fireView = s.fireView := by
  obtain ⟨_, _, _, _, h⟩ := s.doorAlarm_changes src k b; rw [h]; rfl

theorem State.announce_fireView (s : State) (src : Nat) : (s.announce src).fireView = s.fireView := by
  obtain ⟨_, _, h⟩ := s.announce_changes src; rw [h]; rfl

theorem State.endTest_fireView (s : State) (r : TestResult) (p : Option Nat) :
    (s.endTest r p).fireView = s.fireView := by
  obtain ⟨_, _, h⟩ := s.endTest_changes r p; rw [h]; rfl

theorem State.hearCall_fireView (s : State) (o : Nat) (p : CallPayload) : (s.hearCall o p).fireView = s.fireView := by
  obtain ⟨_, _, h⟩ := s.hearCall_changes o p; rw [h]; rfl

theorem State.hearClear_fireView (s : State) (a b c d : Nat) : (s.hearClear a b c d).fireView = s.fireView := by
  obtain ⟨_, _, h⟩ := s.hearClear_changes a b c d; rw [h]; rfl

theorem State.decideClear_fireView (s : State) (a b c : Nat) : (s.decideClear a b c).fireView = s.fireView := by
  obtain ⟨_, _, _, _, h⟩ := s.decideClear_changes a b c; rw [h]; rfl

theorem State.decideTake_fireView (s : State) (a b c : Nat) : (s.decideTake a b c).fireView = s.fireView := by
  obtain ⟨_, _, _, h⟩ := s.decideTake_changes a b c; rw [h]; rfl

theorem State.decideGiveup_fireView (s : State) (a b c : Nat) : (s.decideGiveup a b c).fireView = s.fireView := by
  obtain ⟨_, _, _, h⟩ := s.decideGiveup_changes a b c; rw [h]; rfl

theorem State.takeCompleted_fireView (s : State) (a b c : Nat) : (s.takeCompleted a b c).fireView = s.fireView := by
  obtain ⟨_, h⟩ := s.takeCompleted_changes a b c; rw [h]; rfl

theorem State.noteDuplicate_fireView (s : State) (k : Nat) : (s.noteDuplicate k).fireView = s.fireView := by
  obtain ⟨_, _, h⟩ := s.noteDuplicate_changes k; rw [h]; rfl

/-- R52: a completion and what it is handed on to. -/
theorem State.handCompletion_fireView (s : State) (body : Payload) :
    (s.completeSending.handCompletion body).fireView = s.fireView := by
  have done : s.completeSending.fireView = s.fireView := by
    obtain ⟨_, _, h⟩ := s.completeSending_changes; rw [h]; rfl
  rw [← done]
  generalize s.completeSending = u
  cases body with
  | state p => rfl
  | take p => exact u.takeCompleted_fireView _ _ _
  | order p => exact u.applyOwnOrder_fireView _
  | call p => rfl
  | clear p => rfl
  | giveup p => rfl

theorem State.orderPulse_fireView (s : State) (src door : Nat) : (s.orderPulse src door).fireView = s.fireView := by
  unfold State.orderPulse
  split <;> rfl

/-- Every ORDER but FIRE_RESET. -/
theorem State.hearDirected_fireView (s : State) (src : Nat) {p : OrderPayload} (h : p.code.toNat ≠ 5) :
    (s.hearDirected src p).fireView = s.fireView := by
  unfold State.hearDirected
  split
  · exact s.applyFlag_fireView _ _
  · split
    · split
      · rfl
      · rename_i five
        exact absurd five h
      · exact s.orderPulse_fireView _ _
    · rfl

/-- Every telegram but STATE and ORDER FIRE_RESET. -/
theorem State.hear_fireView (src : BitVec 6) {body : Payload} (state : ∀ p, body ≠ .state p)
    (reset : ∀ p, body = .order p → p.code.toNat ≠ 5) (u : State) : (State.hear src body u).fireView = u.fireView := by
  unfold State.hear
  split
  · exact u.noteDuplicate_fireView _
  · cases body with
    | state p => exact absurd rfl (state p)
    | call p =>
      unfold State.dispatch
      dsimp only
      split
      · exact u.hearCall_fireView _ _
      · rfl
    | clear p =>
      unfold State.dispatch
      dsimp only
      split
      · split
        · exact u.hearClear_fireView _ _ _ _
        · rfl
      · split
        · exact u.decideClear_fireView _ _ _
        · rfl
    | take p =>
      unfold State.dispatch
      dsimp only
      split
      · exact u.decideTake_fireView _ _ _
      · rfl
    | giveup p =>
      unfold State.dispatch
      dsimp only
      split
      · exact u.decideGiveup_fireView _ _ _
      · rfl
    | order p => exact u.hearDirected_fireView _ (reset p rfl)

theorem State.hear_order_fireView (src : BitVec 6) {code target door : Byte} (h : code.toNat ≠ 5) (u : State) :
    (State.hear src (.order ⟨code, target, door⟩) u).fireView = u.fireView :=
  State.hear_fireView src (by rintro p ⟨⟩) (by rintro p ⟨⟩; exact h) u

theorem State.openDoor_fireView (s : State) (d : Nat) : (s.openDoor d).fireView = s.fireView := by
  unfold State.openDoor State.raiseForced
  dsimp only
  split
  · exact State.doorAlarm_fireView _ _ _ _
  · rfl

theorem State.holdDoor_fireView (s : State) (d : Nat) : (s.holdDoor d).fireView = s.fireView := by
  unfold State.holdDoor
  dsimp only
  split
  · exact State.doorAlarm_fireView _ _ _ _
  · rfl

theorem State.turnKey_fireView (s : State) : s.turnKey.fireView = s.fireView := by
  obtain ⟨_, _, _, _, h⟩ := s.turnKey_changes; rw [h]; rfl

theorem State.countMinute_fireView (s : State) : s.countMinute.fireView = s.fireView := by
  unfold State.countMinute
  dsimp only
  split <;> rfl

theorem State.takeBattery_fireView (s : State) (low : Bool) : (s.takeBattery low).fireView = s.fireView := by
  unfold State.takeBattery
  dsimp only
  split <;> rfl

theorem State.stepSigns_fireView (s : State) (sense : BitVec 4) :
    (((s.setPins { s.pins with signSense := sense }).forEach 4 State.stepSign).startSignTimer).fireView = s.fireView := by
  obtain ⟨_, h⟩ := State.stepSigns_changes (s.setPins { s.pins with signSense := sense }) 4; rw [h]; rfl

theorem State.checkStrips_fireView (s : State) : (s.forEach 2 checkStrip).fireView = s.fireView := by
  obtain ⟨_, h⟩ := State.eachStrip_changes checkStrip checkStrip_changes 2 s; rw [h]; rfl

/-- A call's timer whose owner leaves the view. -/
theorem State.callExpiry_fireView {s t : State} {src : Nat} {timer : Call → Timer} {f : State → Call → State}
    (h : s.callExpiry src timer f = .next t) (k : ∀ u c, (f u c).fireView = u.fireView) : t.fireView = s.fireView := by
  unfold State.callExpiry at h
  split at h
  · cases h; rfl
  · exact (State.expiry_cases h).fireView fun u => k u _

/-- An entry's timer. -/
theorem State.entryTimer_fireView {s t : State} {origin src : Nat} {timer : Entry → Timer} {f : State → Entry → State}
    (h : s.entryTimer origin src timer f = .next t) (k : ∀ u e, (f u e).fireView = u.fireView) :
    t.fireView = s.fireView := by
  unfold State.entryTimer at h
  split at h
  · cases h; rfl
  · exact (State.expiry_cases h).fireView fun u => k u _

/-- A used door's input. -/
theorem State.doorEvent_fireView {s t : State} {d : Nat} {f : State → State} (h : s.doorEvent d f = .next t)
    (k : ∀ u, (f u).fireView = u.fireView) : t.fireView = s.fireView := by
  refine (State.event_cases h).fireView fun u => ?_
  split
  · rfl
  · exact k u

/-- R137: an offer for a request, and what follows its entering. -/
theorem State.offerFor_fireView (s : State) (body : Payload) (cls : Nat) {entered : State → State}
    (k : ∀ u, u.fireView = s.fireView → (entered u).fireView = s.fireView) :
    (s.offerFor body cls entered).1.fireView = s.fireView := by
  unfold State.offerFor
  dsimp only
  split
  · exact k _ rfl
  · rfl

/-- A station's request for an entry of its list. -/
theorem State.accept_fireView (s : State) {f : State → State} (k : (f s).fireView = s.fireView) :
    (s.accept f).1.fireView = s.fireView := (settle_keeps_fireView k none []).trans k

/-! ### Every command -/

/-- The commands whose owner acts on a channel's state or DRIFT_LIMIT, a slot, a point, the fire logic or the loader. -/
def actsOnFireView : Instr → Bool
  | .listenTimerExpiry | .sampleArrival _ _ _ | .driftTimerExpiry | .holdTimerExpiry _ | .confirmDelayExpiry
  | .walkDurationExpiry | .stateArrival _ _ | .orderFireReset _ _ | .freshnessDeadlineExpiry _ | .callPointPress _
  | .firePointLevelChange _ _ | .fireReset | .isolate _ | .restore _ | .walkStart _ | .walkStop => true
  | _ => false

/-- A restart leaves the node asleep. -/
theorem State.restart_asleep (s : State) {phase : Phase} (h : phase = .loading ∨ phase = .held) (port : Port) :
    (s.restart phase port).awake = false := by
  rcases h with rfl | rfl <;> rfl

theorem State.selectRise_fireView {s t : State} (h : t = s.selectRise ∨ t = s.selectRise.selectFall)
    (a : t.awake = true) : t.fireView = s.fireView := by
  unfold State.selectRise at h
  split at h
  · rcases h with rfl | rfl <;> cases a
  · rcases h with rfl | rfl <;> rfl

/-- Restarts and the bounds of a transaction. -/
theorem exec_start_fireView {c : Instr} {s t : State} (g : commandGroup c = .start) (h : exec c s = .next t)
    (a : s.awake = true) (b : t.awake = true) : t.fireView = s.fireView := by
  cases c
  case powerUp =>
    cases h
    have asleep := s.restart_asleep (phase := if s.cl.phase = .held then .held else .loading) (by split <;> simp)
      s.ap.port.throughRestart
    exact absurd (asleep.symm.trans b) nofun
  case resetPin => cases h; cases b
  case resetPinAsserted => cases h; cases b
  case configReadComplete bytes strap =>
    have left : ¬s.cl.phase = .loading := fun k => by simp [State.awake, k] at a
    have : s = t := by simpa [exec, execConfigReadComplete, left] using h
    rw [this]
  case transactionEnd => cases h; exact State.selectRise_fireView (.inl rfl) b
  case transactionBegin =>
    cases h
    split
    · rfl
    · rename_i low
      rw [if_neg low] at b
      exact State.selectRise_fireView (.inr rfl) b
  case unknownRequest code len => cases h; split <;> rfl
  case restart => cases h; split <;> rfl
  all_goals cases g

/-- Requests: reads, and changes of doors, lamps, lists and the duration test. -/
theorem exec_request_fireView {c : Instr} {s t : State} (g : commandGroup c ≠ .start) (e : commandGroup c ≠ .event)
    (apart : actsOnFireView c = false) (h : exec c s = .next t) : t.fireView = s.fireView := by
  cases c
  case readNode =>
    dsimp only [exec, execReadNode] at h
    exact request_fireView h rfl
  case readChannel c =>
    dsimp only [exec, execReadChannel] at h
    exact request_fireView h rfl
  case readDoor d =>
    dsimp only [exec, execReadDoor] at h
    exact request_fireView h rfl
  case readCall source =>
    dsimp only [exec, execReadCall] at h
    exact request_fireView h rfl
  case readNeighbour slot =>
    dsimp only [exec, execReadNeighbour] at h
    exact request_fireView h rfl
  case readRoute =>
    dsimp only [exec, execReadRoute] at h
    exact request_fireView h rfl
  case readSignals =>
    dsimp only [exec, execReadSignals] at h
    exact request_fireView h rfl
  case readTest =>
    dsimp only [exec, execReadTest] at h
    exact request_fireView h rfl
  case listRead pos =>
    dsimp only [exec, execListRead] at h
    exact request_fireView h rfl
  case readReport =>
    dsimp only [exec, execReadReport] at h
    refine request_fireView h ?_
    unfold State.takeReport
    split <;> rfl
  case take origin source =>
    dsimp only [exec, execTake] at h
    refine request_fireView h ?_
    split
    · rfl
    · exact s.offerFor_fireView _ _ fun u k => k
  case giveup origin source =>
    dsimp only [exec, execGiveup] at h
    refine request_fireView h ?_
    split
    · rfl
    · exact s.offerFor_fireView _ _ fun u k => k
  case clear origin source =>
    dsimp only [exec, execClear] at h
    refine request_fireView h ?_
    split
    · rfl
    · exact s.offerFor_fireView _ _ fun u k => k
  case order code target door =>
    dsimp only [exec, execOrder] at h
    refine request_fireView h ?_
    split
    · refine s.offerFor_fireView _ _ fun u k => ?_
      have applied := (u.applyOwnOrder_fireView code.toNat).trans k
      exact (settle_keeps_fireView applied none []).trans applied
    · rfl
  case doorPulse d =>
    dsimp only [exec, execDoorPulse] at h
    refine request_fireView h ?_
    split
    · rfl
    · split <;> rfl
  case lampClear =>
    dsimp only [exec, execLampClear] at h
    refine request_fireView h ?_
    obtain ⟨_, _, _, k⟩ := s.clearLamps_changes
    rw [k]; rfl
  case lampCheck =>
    dsimp only [exec, execLampCheck] at h
    refine request_fireView h ?_
    split
    · rfl
    · exact s.accept_fireView s.checkStrips_fireView
  case testStart min =>
    dsimp only [exec, execTestStart] at h
    refine request_fireView h ?_
    split
    · rfl
    · split
      · rfl
      · refine s.accept_fireView ?_
        obtain ⟨_, _, _, k⟩ := s.startTest_changes min.toNat
        rw [k]; rfl
  case testSuspend =>
    dsimp only [exec, execTestSuspend] at h
    refine request_fireView h ?_
    split
    · rfl
    · rfl
    · exact s.accept_fireView rfl
  case testResume =>
    dsimp only [exec, execTestResume] at h
    refine request_fireView h ?_
    split
    · rfl
    · refine s.accept_fireView ?_
      obtain ⟨_, _, _, k⟩ := s.resumeTest_changes .host
      rw [k]; rfl
  case testAbort =>
    dsimp only [exec, execTestAbort] at h
    refine request_fireView h ?_
    split
    · rfl
    · exact s.accept_fireView (s.endTest_fireView _ _)
  all_goals first | exact absurd rfl g | exact absurd rfl e | cases apart

/-- Events of the line, the doors, the calls, the list, the signals and the duration test. -/
theorem exec_event_fireView {c : Instr} {s t : State} (g : commandGroup c = .event) (apart : actsOnFireView c = false)
    (h : exec c s = .next t) : t.fireView = s.fireView := by
  cases c
  case oddSlotGrant =>
    by_cases a : s.awake = true
    · rw [exec_oddSlotGrant a] at h
      cases h
      unfold State.grantSlot
      split
      · rfl
      · rename_i i _
        have map := State.map_setChannel (fun ch => (ch.state, ch.driftLimit)) (s := s) (c := i)
          (v := { s.channel i with lastOdd := slotStart s.oddSlot }) rfl
        exact congrArg (fun l => (s.cl, s.fl, s.nt.slots, s.cc.points, l)) map
    · have : s = t := by simpa [exec, execOddSlotGrant, a] using h
      rw [this]
  case rateTimerExpiry =>
    dsimp only [exec, execRateTimerExpiry] at h
    refine (State.expiry_cases h).fireView fun u => ?_
    have map : (u.ds.channels.map Channel.rateStep).map (fun ch => (ch.state, ch.driftLimit)) =
        u.ds.channels.map fun ch => (ch.state, ch.driftLimit) := by
      rw [List.map_map]
      refine List.map_congr_left fun ch _ => ?_
      obtain ⟨r, e⟩ := ch.rateStep_changes
      simp [e]
    exact congrArg (fun l => (u.cl, u.fl, u.nt.slots, u.cc.points, l)) map
  case contend =>
    dsimp only [exec, execContend] at h
    cases h
    split
    · dsimp only
      split <;> rfl
    · rfl
  case loss =>
    dsimp only [exec, execLoss] at h
    cases h
    split
    · dsimp only
      split <;> rfl
    · rfl
  case lineCollision =>
    dsimp only [exec, execLineCollision] at h
    refine (State.event_cases h).fireView fun u => ?_
    split
    · obtain ⟨_, _, k⟩ := u.collide_changes; rw [k]; rfl
    · rfl
  case transmissionCompletion =>
    dsimp only [exec, execTransmissionCompletion] at h
    refine (State.event_cases h).fireView fun u => ?_
    split
    · exact u.handCompletion_fireView _
    · rfl
  case stuckPeriodStart =>
    dsimp only [exec, execStuckPeriodStart] at h
    refine (State.event_cases h).fireView fun u => ?_
    obtain ⟨_, _, k⟩ := u.stuckBegin_changes; rw [k]; rfl
  case stuckPeriodEnd =>
    dsimp only [exec, execStuckPeriodEnd] at h
    cases h
    obtain ⟨_, k⟩ := s.stuckEnd_changes
    rw [k]
    split <;> rfl
  case stuckClearTimerExpiry =>
    dsimp only [exec, execStuckClearTimerExpiry] at h
    refine (State.expiry_cases h).fireView fun u => ?_
    obtain ⟨_, _, k⟩ := u.stuckExpire_changes; rw [k]; rfl
  case checkError why =>
    dsimp only [exec, execCheckError] at h
    refine (State.reception_event (f := State.noteCheckError) h fun u => .inr ⟨none, [], rfl⟩).fireView fun u => ?_
    obtain ⟨_, _, k⟩ := u.noteCheckError_changes; rw [k]; rfl
  case noiseWindowAgeOut =>
    dsimp only [exec, execNoiseWindowAgeOut] at h
    refine (State.expiry_cases h).fireView fun u => ?_
    obtain ⟨_, _, k⟩ := u.ageNoise_changes; rw [k]; rfl
  case telegramDiscarded why =>
    dsimp only [exec, execTelegramDiscarded] at h
    exact (State.reception_event (f := id) h fun u => .inl rfl).fireView fun u => rfl
  case duplicateId kind =>
    dsimp only [exec, execDuplicateId] at h
    refine (State.reception_event (f := fun u => u.noteDuplicate kind.code) h fun u => ?_).fireView fun u =>
      u.noteDuplicate_fireView _
    split
    · exact .inl rfl
    · exact .inr ⟨none, [], rfl⟩
  case callArrival src p =>
    dsimp only [exec, execCallArrival] at h
    exact (State.arrival_cases h).fireView (State.hear_fireView src nofun nofun)
  case clearArrival src p =>
    dsimp only [exec, execClearArrival] at h
    exact (State.arrival_cases h).fireView (State.hear_fireView src nofun nofun)
  case clearRequestArrival src p =>
    dsimp only [exec, execClearRequestArrival] at h
    exact (State.arrival_cases h).fireView (State.hear_fireView src nofun nofun)
  case takeArrival src p =>
    dsimp only [exec, execTakeArrival] at h
    exact (State.arrival_cases h).fireView (State.hear_fireView src nofun nofun)
  case giveupArrival src p =>
    dsimp only [exec, execGiveupArrival] at h
    exact (State.arrival_cases h).fireView (State.hear_fireView src nofun nofun)
  case orderModeDay src target =>
    dsimp only [exec, execOrderModeDay] at h
    exact (State.arrival_cases h).fireView (State.hear_order_fireView src (by decide))
  case orderModeNight src target =>
    dsimp only [exec, execOrderModeNight] at h
    exact (State.arrival_cases h).fireView (State.hear_order_fireView src (by decide))
  case orderEvacuateOn src target =>
    dsimp only [exec, execOrderEvacuateOn] at h
    exact (State.arrival_cases h).fireView (State.hear_order_fireView src (by decide))
  case orderEvacuateOff src target =>
    dsimp only [exec, execOrderEvacuateOff] at h
    exact (State.arrival_cases h).fireView (State.hear_order_fireView src (by decide))
  case orderSilence src target =>
    dsimp only [exec, execOrderSilence] at h
    exact (State.arrival_cases h).fireView (State.hear_order_fireView src (by decide))
  case orderDoorPulse src target door =>
    dsimp only [exec, execOrderDoorPulse] at h
    exact (State.arrival_cases h).fireView (State.hear_order_fireView src (by decide))
  case refreshTimerExpiry =>
    dsimp only [exec, execRefreshTimerExpiry] at h
    exact (State.expiry_cases h).fireView fun u => rfl
  case contactFirstQualified d value =>
    dsimp only [exec, execContactFirstQualified] at h
    refine State.doorEvent_fireView h fun u => ?_
    split <;> rfl
  case feedbackFirstQualified d value =>
    dsimp only [exec, execFeedbackFirstQualified] at h
    refine State.doorEvent_fireView h fun u => ?_
    split <;> rfl
  case doorOpening d =>
    dsimp only [exec, execDoorOpening] at h
    refine State.doorEvent_fireView h fun u => ?_
    split
    · rfl
    · exact u.openDoor_fireView d
  case doorShutting d =>
    dsimp only [exec, execDoorShutting] at h
    refine State.doorEvent_fireView h fun u => ?_
    split <;> rfl
  case feedbackChange d value =>
    dsimp only [exec, execFeedbackChange] at h
    refine State.doorEvent_fireView h fun u => ?_
    split <;> rfl
  case rexPress d =>
    dsimp only [exec, execRexPress] at h
    exact State.doorEvent_fireView h fun u => rfl
  case accessPulseExpiry d =>
    dsimp only [exec, execAccessPulseExpiry] at h
    exact (State.expiry_cases h).fireView fun u => rfl
  case openTimerExpiry d =>
    dsimp only [exec, execOpenTimerExpiry] at h
    exact (State.expiry_cases h).fireView fun u => u.holdDoor_fireView d
  case jamComparisonExpiry d =>
    dsimp only [exec, execJamComparisonExpiry] at h
    refine (State.expiry_cases h).fireView fun u => ?_
    split <;> rfl
  case attendantKeyTurn =>
    dsimp only [exec, execAttendantKeyTurn] at h
    exact (State.event_cases h).fireView fun u => State.turnKey_fireView _
  case unansweredTimerExpiry source =>
    dsimp only [exec, execUnansweredTimerExpiry] at h
    refine State.callExpiry_fireView h fun u c => ?_
    split
    · obtain ⟨_, _, _, k⟩ := u.unansweredExpire_changes source c; rw [k]; rfl
    · rfl
  case attendTimerExpiry source =>
    dsimp only [exec, execAttendTimerExpiry] at h
    refine State.callExpiry_fireView h fun u c => ?_
    split
    · rfl
    · obtain ⟨_, _, _, k⟩ := u.attendExpire_changes source c; rw [k]; rfl
  case reannounceTimerExpiry source =>
    dsimp only [exec, execReannounceTimerExpiry] at h
    exact State.callExpiry_fireView h fun u c => u.announce_fireView source
  case entryExpiry origin source =>
    dsimp only [exec, execEntryExpiry] at h
    exact State.entryTimer_fireView h fun u e => rfl
  case takeTimeoutExpiry origin source =>
    dsimp only [exec, execTakeTimeoutExpiry] at h
    refine State.entryTimer_fireView h fun u e => ?_
    split <;> rfl
  case signStepExpiry sense =>
    dsimp only [exec, execSignStepExpiry] at h
    exact (State.expiry_cases h).fireView fun u => u.stepSigns_fireView sense
  case stripStepExpiry k sense =>
    dsimp only [exec, execStripStepExpiry] at h
    refine (State.expiry_cases h).fireView fun u => ?_
    obtain ⟨_, _, e⟩ := State.stepStrip_changes
      (u.setPins { u.pins with stripSense := u.pins.stripSense.set k sense }) k (u.strip k) sense
    rw [e]; rfl
  case cadenceTimerExpiry =>
    dsimp only [exec, execCadenceTimerExpiry] at h
    exact (State.expiry_cases h).fireView fun u => rfl
  case minuteTimerExpiry =>
    dsimp only [exec, execMinuteTimerExpiry] at h
    exact (State.expiry_cases h).fireView fun u => u.countMinute_fireView
  case batteryLowChange low =>
    dsimp only [exec, execBatteryLowChange] at h
    exact (State.event_cases h).fireView fun u => u.takeBattery_fireView low
  case suspendTimerExpiry =>
    dsimp only [exec, execSuspendTimerExpiry] at h
    exact (State.expiry_cases h).fireView fun u => u.endTest_fireView _ _
  all_goals first | (cases apart; done) | cases g

/-- Nothing the fire logic reads is changed by any other command but a restart. -/
theorem exec_keeps_fireView {c : Instr} {s t : State} (apart : actsOnFireView c = false) (h : exec c s = .next t)
    (a : s.awake = true) (b : t.awake = true) : t.fireView = s.fireView := by
  by_cases start : commandGroup c = .start
  · exact exec_start_fireView start h a b
  · by_cases event : commandGroup c = .event
    · exact exec_event_fireView event apart h
    · exact exec_request_fireView start event apart h

end Sys2Proof.Machine
end

/-! ## DRIFT_LIMIT (R10) -/

section
namespace Sys2Proof.Machine

/-! ### What a sample does to DRIFT_LIMIT -/

theorem Channel.faultSample_driftLimit (ch : Channel) (cls : SampleClass) :
    (ch.faultSample cls).1.driftLimit = ch.driftLimit := by
  unfold Channel.faultSample
  repeat' split
  all_goals rfl

/-- R7: DRIFT_LIMIT is set at the end of SETTLE alone, and that sample brings nothing else. -/
theorem Channel.goodSample_driftLimit (ch : Channel) (code : Nat) (mode : Mode) (reduced : Bool) (v now : Nat) :
    let r := ch.goodSample code mode reduced v now
    r.1.driftLimit = ch.driftLimit ∨ (r.2 = .nothing ∧ r.1.driftLimit = true ∧ ch.driftLimit = false) := by
  unfold Channel.goodSample
  cases ch.state with
  | settle =>
    dsimp only
    split
    · cases before : ch.driftLimit with
      | true => exact .inl (by simp [Channel.completeSettle, Channel.filter, before])
      | false =>
        cases after : (Channel.completeSettle _).driftLimit with
        | true => exact .inr ⟨rfl, rfl, rfl⟩
        | false => exact .inl rfl
    · exact .inl rfl
  | refill => dsimp only; split <;> exact .inl rfl
  | normal => dsimp only; split <;> exact .inl rfl
  | prealarm => dsimp only; split <;> exact .inl rfl
  | verify => dsimp only; split <;> exact .inl rfl
  | alarm => exact .inl rfl
  | fault => dsimp only; split <;> exact .inl rfl
  | isolated => exact .inl rfl

theorem Channel.sample_driftLimit (ch : Channel) (code : Nat) (mode : Mode) (reduced : Bool) (v now : Nat) :
    let r := ch.sample code mode reduced v now
    r.1.driftLimit = ch.driftLimit ∨ (r.2 = .nothing ∧ r.1.driftLimit = true ∧ ch.driftLimit = false) := by
  unfold Channel.sample
  split
  · exact ch.goodSample_driftLimit ..
  · exact .inl (ch.faultSample_driftLimit _)

/-! ### DRIFT_LIMIT over the list of channels -/

/-- The channels' DRIFT_LIMIT flags. -/
def driftLimits (channels : List Channel) : List Bool := channels.map (·.driftLimit)

theorem State.driftLimit_of_driftLimits {s t : State} (h : driftLimits t.ds.channels = driftLimits s.ds.channels)
    (i : Nat) : (t.channel i).driftLimit = (s.channel i).driftLimit := by
  have get (u : State) : (u.channel i).driftLimit = (driftLimits u.ds.channels).getD i false := by
    simp only [State.channel, driftLimits, List.getD_eq_getElem?_getD, List.getElem?_map]
    cases u.ds.channels[i]? <;> rfl
  rw [get, get, h]

theorem State.driftLimits_setChannel {s : State} {c : Nat} {v : Channel}
    (h : v.driftLimit = (s.channel c).driftLimit) :
    driftLimits (s.setChannel c v).ds.channels = driftLimits s.ds.channels := State.map_setChannel (·.driftLimit) h

theorem Channel.fireReset_driftLimit (ch : Channel) : ch.fireReset.driftLimit = ch.driftLimit := by
  unfold Channel.fireReset
  dsimp only
  split <;> rfl

theorem Channel.holdExpire_driftLimit (ch : Channel) : ch.holdExpire.driftLimit = ch.driftLimit := by
  unfold Channel.holdExpire
  split <;> rfl

/-- R33: an accepted fire reset acts on every channel; the rest of its list leaves the channels. -/
theorem State.acceptReset_channels (s : State) (a b : Nat) (clears : Bool) :
    (s.acceptReset a b clears).ds.channels = s.ds.channels.map .fireReset := by
  have end_ (u : State) (w : WalkEnd) : (u.endWalk w).ds = u.ds := by
    obtain ⟨_, _, _, _, _, h⟩ := u.endWalk_changes w; rw [h]
  have latch (u : State) (w : LatchClear) : (u.clearLatch w).ds = u.ds := by
    obtain ⟨_, _, h⟩ := u.clearLatch_changes w; rw [h]
  have held (u : State) : u.clearHeld.ds = u.ds := by
    obtain ⟨_, h⟩ := u.clearHeld_changes; rw [h]
  have gallery (u : State) (g : FireState) : (u.setGallery g).ds = u.ds := by
    obtain ⟨_, _, h⟩ := u.setGallery_changes g; rw [h]
  show (State.setGallery _ _).ds.channels = _
  rw [gallery]
  cases clears
  · rw [if_neg Bool.false_ne_true, latch, end_]; rfl
  · rw [if_pos rfl, held, latch, end_]; rfl

theorem State.decideReset_driftLimits (s : State) (a b : Nat) (clears : Bool) :
    driftLimits (s.decideReset a b clears).ds.channels = driftLimits s.ds.channels := by
  unfold State.decideReset
  split
  · rfl
  · rw [State.acceptReset_channels, driftLimits, List.map_map]
    exact List.map_congr_left fun ch _ => ch.fireReset_driftLimit

theorem State.completeBurst_driftLimits (s : State) (c : Nat) :
    driftLimits (s.completeBurst c).ds.channels = driftLimits s.ds.channels := by
  unfold State.completeBurst
  split
  · exact State.driftLimits_setChannel (s := (s.setFl _).report .walkTested c _) rfl
  · have own := State.driftLimits_setChannel (s := s.endWalk .secondAlarm) (c := c)
      (v := ((s.endWalk .secondAlarm).channel c).toAlarm) rfl
    refine own.trans ?_
    obtain ⟨_, _, _, _, _, h⟩ := s.endWalk_changes .secondAlarm
    rw [h]

theorem State.press_driftLimits (s : State) (src : Nat) (k : CallKind) (b : Nat) :
    driftLimits (s.press src k b).ds.channels = driftLimits s.ds.channels := by
  obtain ⟨_, _, _, h⟩ := s.press_changes src k b; rw [h]

/-- R59: what a STATE brings. -/
theorem State.hear_state (src : BitVec 6) (p : StatePayload) (u : State) :
    State.hear src (.state p) u = u.noteDuplicate (Payload.state p).kindCode ∨
      State.hear src (.state p) u = (u.takeState src.toNat p).adopt src.toNat p := by
  unfold State.hear
  split
  · exact .inl rfl
  · exact .inr rfl

/-- R32, R59: what an ORDER FIRE_RESET brings. -/
theorem State.hear_fireReset (src : BitVec 6) (target : Byte) (u : State) :
    State.hear src (.order ⟨5, target, 0⟩) u = u.noteDuplicate (Payload.order ⟨5, target, 0⟩).kindCode ∨
      (∃ sender addressee clears, State.hear src (.order ⟨5, target, 0⟩) u = u.decideReset sender addressee clears) ∨
      State.hear src (.order ⟨5, target, 0⟩) u = u := by
  unfold State.hear
  split
  · exact .inl rfl
  · refine .inr ?_
    show (∃ _ _ _, State.hearDirected u src.toNat ⟨5, target, 0⟩ = _) ∨ State.hearDirected u src.toNat ⟨5, target, 0⟩ = u
    unfold State.hearDirected
    dsimp only
    rw [show flagOrderOf (BitVec.toNat (5 : Byte)) = none from rfl]
    dsimp only
    split
    · exact .inl ⟨_, _, _, rfl⟩
    · exact .inr rfl

/-- R59, R64, R69, R32: the telegrams that reach a slot, or bring a fire reset. -/
theorem State.hear_driftLimits (src : BitVec 6) {body : Payload}
    (h : (∃ p, body = .state p) ∨ ∃ target, body = .order ⟨5, target, 0⟩) (u : State) :
    driftLimits (State.hear src body u).ds.channels = driftLimits u.ds.channels := by
  have duplicate (k : Nat) : (u.noteDuplicate k).ds = u.ds := by
    obtain ⟨_, _, e⟩ := u.noteDuplicate_changes k; rw [e]
  rcases h with ⟨p, rfl⟩ | ⟨target, rfl⟩
  · rcases State.hear_state src p u with e | e
    · rw [e, duplicate]
    · obtain ⟨_, _, k⟩ := u.takeState_changes src.toNat p
      obtain ⟨_, _, _, _, k'⟩ := (u.takeState src.toNat p).adopt_changes src.toNat p
      rw [e, k', k]
  · rcases State.hear_fireReset src target u with e | ⟨_, _, _, e⟩ | e
    · rw [e, duplicate]
    · rw [e, State.decideReset_driftLimits]
    · rw [e]

/-- A request that is answered keeps of the channels what its owner keeps. -/
theorem request_channels {α : Type} (p : List Channel → α) {s t : State} {k : RequestClass}
    {f : State → State × Response} (h : s.request k f = .next t)
    (keep : p (f s).1.ds.channels = p s.ds.channels) : p t.ds.channels = p s.ds.channels := by
  rcases State.request_cases h with rfl | ⟨r, rfl⟩ | ⟨-, rfl⟩
  · rfl
  · rfl
  · exact keep

theorem State.accept_keeps_channels (s : State) (f : State → State) :
    (s.accept f).1.ds.channels = (f s).ds.channels := by
  have same := (settle_keeps_detector s (f s) none []).1
  unfold State.accept
  generalize settle s (f s) none [] = u at same ⊢
  exact same

theorem State.accept_channels {α : Type} (p : List Channel → α) (s : State) {f : State → State}
    (k : p (f s).ds.channels = p s.ds.channels) : p (s.accept f).1.ds.channels = p s.ds.channels :=
  (congrArg p (s.accept_keeps_channels f)).trans k

/-- The commands that can change a DRIFT_LIMIT: the end of SETTLE, the drift timer, and an isolation (R7, R9, R21). -/
def actsOnDriftLimit : Instr → Bool
  | .sampleArrival _ _ _ | .driftTimerExpiry | .isolate _ => true
  | _ => false

theorem exec_keeps_driftLimits {c : Instr} {s t : State} (apart : actsOnDriftLimit c = false) (h : exec c s = .next t)
    (a : s.awake = true) (b : t.awake = true) : driftLimits t.ds.channels = driftLimits s.ds.channels := by
  by_cases view : actsOnFireView c = false
  · exact State.driftLimits_of_fireView (exec_keeps_fireView view h a b)
  cases c
  case listenTimerExpiry =>
    dsimp only [exec, execListenTimerExpiry] at h
    exact (State.expiry_cases h).channels _ fun u => rfl
  case holdTimerExpiry c =>
    dsimp only [exec, execHoldTimerExpiry] at h
    exact (State.expiry_cases h).channels _ fun u => State.driftLimits_setChannel (Channel.holdExpire_driftLimit _)
  case confirmDelayExpiry =>
    dsimp only [exec, execConfirmDelayExpiry] at h
    refine (State.expiry_cases h).channels _ fun u => ?_
    obtain ⟨_, _, _, _, k⟩ := (u.setFl { u.fl with confirm := none }).evaluate_changes true
    rw [State.confirmExpire, k]
    rfl
  case walkDurationExpiry =>
    dsimp only [exec, execWalkDurationExpiry] at h
    refine (State.expiry_cases h).channels _ fun u => ?_
    obtain ⟨_, _, _, _, _, k⟩ := u.endWalk_changes .time
    rw [k]
  case stateArrival src p =>
    dsimp only [exec, execStateArrival] at h
    exact (State.arrival_cases h).channels _ (State.hear_driftLimits src (.inl ⟨p, rfl⟩))
  case orderFireReset src target =>
    dsimp only [exec, execOrderFireReset] at h
    exact (State.arrival_cases h).channels _ (State.hear_driftLimits src (.inr ⟨target, rfl⟩))
  case freshnessDeadlineExpiry slot =>
    dsimp only [exec, execFreshnessDeadlineExpiry] at h
    exact (State.expiry_cases h).channels _ fun u => rfl
  case callPointPress p =>
    dsimp only [exec, execCallPointPress] at h
    split at h
    · cases h; rfl
    · exact (State.pressEvent_cases h).channels _ fun u => State.press_driftLimits _ _ _ _
  case firePointLevelChange p active =>
    dsimp only [exec, execFirePointLevelChange] at h
    split at h
    · cases h; rfl
    · split at h
      · exact (State.pressEvent_cases h).channels _ fun u => State.press_driftLimits _ _ _ _
      · exact (State.event_cases h).channels _ fun u => rfl
  case fireReset =>
    dsimp only [exec, execFireReset] at h
    refine request_channels _ h ?_
    have reset := s.decideReset_driftLimits 0 s.nodeId false
    generalize s.decideReset 0 s.nodeId false = v at reset ⊢
    dsimp only
    rw [(settle_keeps_detector s v none []).1, reset]
  case restore c =>
    dsimp only [exec, execRestore] at h
    refine request_channels _ h ?_
    split
    · rfl
    · split
      · rfl
      · exact s.accept_channels _ (State.driftLimits_setChannel rfl)
  case walkStart min =>
    dsimp only [exec, execWalkStart] at h
    refine request_channels _ h ?_
    repeat' split
    · rfl
    · rfl
    · rfl
    · rfl
    · exact s.accept_channels _ rfl
  case walkStop =>
    dsimp only [exec, execWalkStop] at h
    refine request_channels _ h (s.accept_channels _ ?_)
    obtain ⟨_, _, _, _, _, k⟩ := s.endWalk_changes .host
    rw [k]
  all_goals first | exact absurd rfl view | cases apart

/-! ### A changed DRIFT_LIMIT is reported -/

theorem State.reportIf_true {s : State} {c : Bool} (h : c = true) (k : ReportKind) (a b : Nat) :
    s.reportIf c k a b = s.report k a b := by rw [h]; rfl

theorem settle_now (old s : State) (peer : Option Nat) (pressed : List Nat) :
    (settle old s peer pressed).now = s.now := (settle_keeps old s peer pressed).2.1

/-- The sample that completes SETTLE. -/
theorem sampleArrival_driftLimit {s t : State} {c : Fin 16} {code : BitVec 10} {odd : Bool} (a : s.awake = true)
    (h : exec (.sampleArrival c code odd) s = .next t) {i : Nat}
    (changed : (t.channel i).driftLimit ≠ (s.channel i).driftLimit) :
    Reported s .driftLimit i (if (t.channel i).driftLimit = true then 1 else 0) t := by
  cases due : s.dueSlot c odd with
  | none =>
    rw [exec_sampleArrival_none due] at h
    cases h
    exact absurd rfl changed
  | some n =>
    obtain ⟨⟨after, e⟩, r⟩ : ∃ r, (s.channel c).sample code.toNat s.nt.mode s.slotHoldsFire s.cl.node.v
      (max s.now (slotEnd n)) = r := ⟨_, rfl⟩
    have limit := Channel.sample_driftLimit (s.channel c) code.toNat s.nt.mode s.slotHoldsFire s.cl.node.v
      (max s.now (slotEnd n))
    rw [r] at limit
    rw [exec_sampleArrival_due a due r] at h
    generalize ht : settle (s.reach (slotEnd n)) _ none [] = t' at h
    cases h
    have chans : t.ds.channels =
        ((s.sampledAs c n after).takeSampleEvent c (s.channel c).driftLimit e).ds.channels := by
      rw [← ht]; exact (settle_keeps_detector ..).1
    rcases limit with same | ⟨rfl, set, clear⟩
    · have own : driftLimits (s.sampledAs c n after).ds.channels = driftLimits s.ds.channels :=
        State.driftLimits_setChannel same
      have kept : driftLimits t.ds.channels = driftLimits s.ds.channels := by
        rw [chans, ← own]
        by_cases burst : e = .burst
        · subst burst
          exact State.completeBurst_driftLimits _ _
        · obtain ⟨_, _, _, _, _, k⟩ :=
            (s.sampledAs c n after).takeSampleEvent_callConsequent c (s.channel c).driftLimit burst
          rw [k]
      exact absurd (State.driftLimit_of_driftLimits kept i) changed
    · have hc : (c : Nat) < s.ds.channels.length := State.channel_lt_of_state fun isolated => by
        have none_due : s.dueSlot c odd = none := by
          cases odd
          · simp [State.dueSlot, isolated]
          · exact State.dueSlot_odd_of_ne (by simp [isolated])
        rw [none_due] at due
        cases due
      have record : (s.sampledAs c n after).channel c = after := State.sampledAs_channel hc n after
      have event : (s.sampledAs c n after).takeSampleEvent c (s.channel c).driftLimit .nothing =
          (s.sampledAs c n after).report .driftLimit c 1 :=
        State.reportIf_true (by rw [record, set, clear]; rfl) _ _ _
      rw [event] at chans ht
      have channel (j : Nat) : t.channel j = (s.sampledAs c n after).channel j :=
        congrArg (List.getD · j _) chans
      by_cases hi : (c : Nat) = i
      · subst hi
        rw [channel, record, set, if_pos rfl, ← ht]
        exact Reports.reported (u := s.sampledAs c n after) (settle_extends ..) (settle_now ..)
      · have other : t.channel i = s.channel i := (channel i).trans (s.setChannel_channel_ne hi after)
        exact absurd (congrArg _ other) changed

/-- A drift step that changes DRIFT_LIMIT. -/
theorem stepDrift_reported {s : State} {c : Nat}
    (changed : (s.channel c).driftStep.driftLimit ≠ (s.channel c).driftLimit) :
    Reported s .driftLimit c (bit (s.channel c).driftStep.driftLimit) (stepDrift s c) := by
  have step : stepDrift s c = (s.setChannel c (s.channel c).driftStep).report .driftLimit c
      (bit (s.channel c).driftStep.driftLimit) := State.reportIf_true (bne_iff_ne.2 changed) _ _ _
  rw [step]
  exact Reports.reported (u := s.setChannel c (s.channel c).driftStep) (.refl _) rfl

theorem stepDrift_now (s : State) (c : Nat) : (stepDrift s c).now = s.now := by
  obtain ⟨r, h⟩ := State.reportIf_changes (s.setChannel c (s.channel c).driftStep) _ _ _ _
  rw [stepDrift, h]
  rfl

theorem forEach_stepDrift_reported {s : State} {i : Nat}
    (changed : (s.channel i).driftStep.driftLimit ≠ (s.channel i).driftLimit) {n : Nat} (h : i < n) :
    Reported s .driftLimit i (bit (s.channel i).driftStep.driftLimit) (s.forEach n stepDrift) := by
  induction n with
  | zero => cases h
  | succ n ih =>
    rw [State.forEach_succ]
    by_cases last : i = n
    · subst last
      have same : (s.forEach i stepDrift).channel i = s.channel i := by
        rw [forEach_stepDrift_channel, if_neg (lt_irrefl i)]
      rw [← same] at changed ⊢
      exact (stepDrift_reported changed).through (State.forEach_extends stepDrift_extends i s) (.refl _) rfl
    · exact (ih (by omega)).through (.refl _) (stepDrift_extends _ n) (stepDrift_now _ n)

/-- The drift timer's expiry. -/
theorem driftTimerExpiry_driftLimit {s t : State} (a : s.awake = true) (h : exec .driftTimerExpiry s = .next t) {i : Nat}
    (hi : i < 16) (changed : (t.channel i).driftLimit ≠ (s.channel i).driftLimit) :
    Reported s .driftLimit i (if (t.channel i).driftLimit = true then 1 else 0) t := by
  cases running : s.ds.drift with
  | none =>
    have stopped : exec .driftTimerExpiry s = .next s := State.expiry_stopped running _
    rw [stopped] at h
    cases h
    exact absurd rfl changed
  | some deadline =>
    rw [exec_driftTimerExpiry a running] at h
    cases h
    have record := settle_drift_channel (s.reach deadline) hi
    rw [record] at changed ⊢
    have reported := forEach_stepDrift_reported (s := s.reach deadline) changed hi
    generalize (s.reach deadline).forEach 16 stepDrift = v at reported ⊢
    exact reported.through (.refl _) (settle_extends _ v.startDrift none []) (settle_now _ v.startDrift none [])

/-- The records after an isolation. -/
theorem State.isolateChannel_channel (s : State) (c i : Nat) :
    (s.isolateChannel c).channel i = (s.setChannel c (s.channel c).isolate).channel i := by
  obtain ⟨r, k⟩ := State.reportIf_changes (s.setChannel c (s.channel c).isolate) (s.channel c).driftLimit .driftLimit c 0
  rw [State.isolateChannel, k]
  rfl

/-- R21: a DRIFT_LIMIT that an isolation clears. -/
theorem State.isolateChannel_reported {s : State} {c i : Nat}
    (changed : ((s.isolateChannel c).channel i).driftLimit ≠ (s.channel i).driftLimit) :
    ((s.isolateChannel c).channel i).driftLimit = false ∧ Reported s .driftLimit i 0 (s.isolateChannel c) := by
  rw [s.isolateChannel_channel] at changed ⊢
  by_cases hi : c = i
  · subst hi
    have held : (s.channel c).driftLimit = true := by
      by_contra clear
      rw [Bool.not_eq_true] at clear
      exact changed (State.channel_setChannel_congr (·.driftLimit) clear.symm _)
    refine ⟨by rw [held] at changed; simpa using changed, ?_⟩
    rw [State.isolateChannel, State.reportIf_true held]
    exact Reports.reported (u := s.setChannel c (s.channel c).isolate) (State.report_extends _ _ _ _) rfl
  · exact absurd (by rw [s.setChannel_channel_ne hi]) changed

/-- ISOLATE either leaves the channels or isolates one. -/
theorem exec_isolate_cases {s t : State} {c : Byte} (h : exec (.isolate c) s = .next t) :
    t.ds.channels = s.ds.channels ∨ ∃ r, t = (settle s (s.isolateChannel c.toNat) none []).respond r := by
  dsimp only [exec, execIsolate] at h
  rcases State.request_cases h with rfl | ⟨r, rfl⟩ | ⟨-, ht⟩
  · exact .inl rfl
  · exact .inl rfl
  · split at ht
    · exact .inl (by rw [ht]; rfl)
    · split at ht
      · exact .inl (by rw [ht]; rfl)
      · split at ht
        · exact .inl (by rw [ht]; rfl)
        · exact .inr ⟨_, ht⟩

/-- The records after a settled and answered command are those that its owner leaves. -/
theorem respond_settle_channel (old v : State) (r : Response) (i : Nat) :
    ((settle old v none []).respond r).channel i = v.channel i := by
  have same := (settle_keeps_detector old v none []).1
  generalize settle old v none [] = u at same ⊢
  exact congrArg (List.getD · i _) same

/-- A report of the owner stands after the command is settled and answered. -/
theorem Reported.respond_settle {s v : State} {k : ReportKind} {a b : Nat} (h : Reported s k a b v) (r : Response) :
    Reported s k a b ((settle s v none []).respond r) := by
  have kept := settle_extends s v none []
  have time := settle_now s v none []
  generalize settle s v none [] = u at kept time ⊢
  exact h.through (.refl _) kept time

/-- An isolation of a channel that holds DRIFT_LIMIT. -/
theorem isolate_driftLimit {s t : State} {c : Byte} (h : exec (.isolate c) s = .next t) {i : Nat}
    (changed : (t.channel i).driftLimit ≠ (s.channel i).driftLimit) :
    Reported s .driftLimit i (if (t.channel i).driftLimit = true then 1 else 0) t := by
  rcases exec_isolate_cases h with same | ⟨r, rfl⟩
  · exact absurd (State.driftLimit_of_driftLimits (congrArg driftLimits same) i) changed
  · rw [respond_settle_channel] at changed ⊢
    obtain ⟨cleared, reported⟩ := State.isolateChannel_reported changed
    rw [cleared, if_neg Bool.false_ne_true]
    exact reported.respond_settle r

/-- Settles O12, state by state; DRIFT_LIMIT changes with three commands only. -/
theorem sampleOutsideNormal : Obligations.SampleOutsideNormal := by
  refine ⟨fun s c code a l u => ?_, fun s c code a => ?_, fun c s t i a b h hi changed => ?_⟩
  · have settled := Channel.completeSettle_eq { s.channel c with
      m4 := if (s.channel c).sampleCount = 0 then 4 * code.toNat
        else (s.channel c).m4 - (s.channel c).m4 / 4 + code.toNat
      sampleCount := 16 }
    have parts := sample_in_settle_refill_alarm s c code a l u
    dsimp only at parts settled
    rw [settled] at parts
    exact parts
  · exact sample_in_prealarm_and_hold_expiry s c code a
  · by_cases apart : actsOnDriftLimit c = false
    · exact absurd (State.driftLimit_of_driftLimits (exec_keeps_driftLimits apart h a b) i) changed
    · cases c
      case sampleArrival c code odd => exact sampleArrival_driftLimit a h changed
      case driftTimerExpiry => exact driftTimerExpiry_driftLimit a h hi changed
      case isolate c => exact isolate_driftLimit h changed
      all_goals exact absurd rfl apart

end Sys2Proof.Machine
end

/-! ## RUN entry (R177, R178) -/

section
namespace Sys2Proof.Machine

/-! ### What the route unit reads of the doors -/

/-- What the route unit reads of a door: its kind and its JAMMED condition. -/
def Door.routeView (d : Door) : DoorKind × Bool := (d.cfg.kind, d.jammed)

theorem Door.routeView_congr {d e : Door} (cfg : e.cfg = d.cfg) (jam : e.state = .jammed ↔ d.state = .jammed) :
    e.routeView = d.routeView := by
  simp only [Door.routeView, Door.jammed, cfg, jam]

theorem Door.drive_cfg_state (d : Door) (free : Bool) (now : Nat) :
    (d.drive free now).cfg = d.cfg ∧ (d.drive free now).state = d.state := by
  unfold Door.drive
  split <;> exact ⟨rfl, rfl⟩

/-- R105: no door becomes JAMMED, or leaves JAMMED, when its free condition begins or ends. -/
theorem Door.freeBegins_routeView (d : Door) : d.freeBegins.routeView = d.routeView := by
  cases h : d.state <;> simp [Door.freeBegins, Door.routeView, Door.jammed, h]

theorem Door.freeEnds_routeView (d : Door) (now : Nat) : (d.freeEnds now).routeView = d.routeView := by
  cases h : d.state <;> simp [Door.freeEnds, Door.routeView, Door.jammed, h]

theorem State.forEach_keeps {α : Type} (p : State → α) {f : State → Nat → State} (h : ∀ s k, p (f s k) = p s)
    (n : Nat) (s : State) : p (s.forEach n f) = p s := by
  induction n with
  | zero => rfl
  | succ n ih => rw [State.forEach_succ, h, ih]

theorem followDoor_routeViews (old s : State) (d : Nat) :
    (followDoor old s d).doors.map (·.routeView) = s.doors.map (·.routeView) := by
  unfold followDoor
  dsimp only
  split
  · rfl
  · refine map_set_same (d := Door.idle .unused) _ ?_
    obtain ⟨cfg, state⟩ := Door.drive_cfg_state
      (if s.freeCondition (s.door d) && !old.freeCondition (s.door d) then (s.door d).freeBegins
        else if old.freeCondition (s.door d) && !s.freeCondition (s.door d) then (s.door d).freeEnds s.now
        else s.door d) (s.freeCondition (s.door d)) s.now
    refine (Door.routeView_congr cfg (by rw [state])).trans ?_
    split
    · exact Door.freeBegins_routeView _
    · split
      · exact Door.freeEnds_routeView _ _
      · rfl

theorem doorsFollow_routeViews (old s : State) :
    (doorsFollow old s).doors.map (·.routeView) = s.doors.map (·.routeView) := by
  unfold doorsFollow
  split
  · generalize 8 = n
    exact State.forEach_keeps (fun u => u.doors.map (·.routeView)) (followDoor_routeViews old) n s
  · rfl

/-! ### What the computed route depends on -/

/-- What the route unit computes from (R77 to R84), the via before apart. -/
def State.routeInputs (s : State) : FireState × List Slot × Bool × Nat × List (DoorKind × Bool) :=
  (s.fl.gallery, s.nt.slots, s.nt.evacuate, s.cl.node.e, s.doors.map (·.routeView))

theorem State.computedRoute_congr {s t : State} (h : t.routeInputs = s.routeInputs) (via : t.ru.via = s.ru.via) :
    t.computedRoute = s.computedRoute := by
  simp only [State.routeInputs, Prod.mk.injEq] at h
  obtain ⟨gallery, slots, evacuate, e, doors⟩ := h
  have door (d : Nat) : (t.door d).routeView = (s.door d).routeView := by
    have get (u : State) : (u.door d).routeView = (u.doors.map (·.routeView)).getD d (Door.idle .unused).routeView := by
      simp only [State.door, List.getD_eq_getElem?_getD, List.getElem?_map]
      cases u.doors[d]? <;> rfl
    rw [get, get, doors]
  have slot : t.slot = s.slot := by funext k; simp only [State.slot, slots]
  have exit_ : t.exitDoor = s.exitDoor := by
    have read (u : State) : u.exitDoor = (u.doors.map (·.routeView)).findIdx? fun v => v.1 = .exit && !v.2 := by
      simp only [State.exitDoor, List.findIdx?_map]; rfl
    rw [read, read, doors]
  have usable : t.usable = s.usable := by
    funext k
    have passable : t.passable k = s.passable k := by
      unfold State.passable
      split
      · rfl
      · rename_i d _
        obtain ⟨kind, jam⟩ := Prod.mk.inj (door d)
        rw [kind, jam]
    simp only [State.usable, passable]
  have sum : t.exitSum = s.exitSum := by funext k; simp only [State.exitSum, usable]
  have achieves : t.achieves = s.achieves := by funext x i; simp only [State.achieves, usable, sum, slot]
  have choose : t.chooseVia = s.chooseVia := by
    funext x
    simp only [State.chooseVia, achieves, slot, via]
  have distance : t.fireDistance = s.fireDistance := by simp only [State.fireDistance, gallery, slots]
  have neighbours : t.exitByNeighbours = s.exitByNeighbours := by simp only [State.exitByNeighbours, slots, sum]
  unfold State.computedRoute
  rw [exit_, distance, neighbours, e, evacuate, gallery, choose]

/-! ### The calls announced at RUN entry (R119, R178) -/

/-- The re-announce timer of a call announced at `s`. -/
def State.reannounced (s : State) (c : Call) : Call := { c with reannounce := s.after c.reannounceTicks }

theorem State.announce_call_eq (s : State) (src i : Nat) :
    (s.announce src).call i = if src = i then (s.call i).map s.reannounced else s.call i := by
  unfold State.announce
  split
  · rename_i none_
    split
    · rename_i h; rw [← h, none_]; rfl
    · rfl
  · rename_i c present
    show (s.cc.calls.set src _).getD i none = _
    rw [getD_set]
    by_cases h : src = i
    · have inside : src < s.cc.calls.length := by
        by_contra outside
        rw [State.call, List.getD_eq_default _ _ (by omega)] at present
        cases present
      rw [if_pos ⟨h, inside⟩, if_pos h, ← h, present]
      rfl
    · rw [if_neg (fun k => h k.1), if_neg h]
      rfl

theorem State.announce_now (s : State) (src : Nat) : (s.announce src).now = s.now := by
  obtain ⟨_, _, h⟩ := s.announce_changes src; rw [h]

theorem State.announceEach_call_eq (l : List Nat) (s : State) (i : Nat) :
    (l.foldl State.announce s).call i = if i ∈ l then (s.call i).map s.reannounced else s.call i := by
  induction l generalizing s with
  | nil => simp
  | cons k l ih =>
    have same : (s.announce k).reannounced = s.reannounced := by
      funext c; simp only [State.reannounced, State.after, s.announce_now k]
    rw [List.foldl_cons, ih, same, s.announce_call_eq]
    by_cases here : k = i
    · subst here
      cases s.call k <;> simp [State.reannounced, Call.reannounceTicks]
    · simp [here, Ne.symm here]

/-- The offer of the CALL of a source, as the call stands in `s`. -/
def State.offerCallTo (s : State) (open_ : Bool) (lc : LineController) (src : Nat) : LineController :=
  match s.call src with
  | some c => (lc.offer open_ (.call (c.payload src)) 1).1
  | none => lc

/-- The re-announce timer is no part of a CALL telegram. -/
theorem State.offerCallTo_congr {s t : State} {f : Call → Call} (keeps : ∀ c src, (f c).payload src = c.payload src)
    {i : Nat} (h : t.call i = (s.call i).map f ∨ t.call i = s.call i) (open_ : Bool) (lc : LineController) :
    t.offerCallTo open_ lc i = s.offerCallTo open_ lc i := by
  unfold State.offerCallTo
  rcases h with h | h
  · rw [h]
    cases s.call i with
    | none => rfl
    | some c => simp only [Option.map_some, keeps]
  · rw [h]

theorem State.offerCallTo_announceEach (l : List Nat) (s : State) :
    (l.foldl State.announce s).offerCallTo = s.offerCallTo := by
  funext open_ lc i
  refine State.offerCallTo_congr (f := s.reannounced) (fun _ _ => rfl) ?_ open_ lc
  rw [s.announceEach_call_eq]
  split
  · exact .inl rfl
  · exact .inr rfl

theorem State.announce_lc (s : State) (src : Nat) : (s.announce src).lc = s.offerCallTo s.offersOpen s.lc src := by
  unfold State.announce State.offerCallTo
  cases s.call src <;> rfl

theorem State.announceEach_lc (l : List Nat) (s : State) :
    (l.foldl State.announce s).lc = l.foldl (s.offerCallTo s.offersOpen) s.lc := by
  induction l generalizing s with
  | nil => rfl
  | cons k l ih =>
    have open_ : (s.announce k).offersOpen = s.offersOpen := by
      obtain ⟨_, _, h⟩ := s.announce_changes k; rw [h]; rfl
    have offers : (s.announce k).offerCallTo = s.offerCallTo := State.offerCallTo_announceEach [k] s
    rw [List.foldl_cons, List.foldl_cons, ih, open_, offers, s.announce_lc]

/-- With offers closed the line controller stays (R54). -/
theorem State.announceEach_lc_closed (l : List Nat) {s : State} (h : s.offersOpen = false) :
    (l.foldl State.announce s).lc = s.lc := by
  rw [State.announceEach_lc, h]
  have closed (lc : LineController) (src : Nat) : s.offerCallTo false lc src = lc := by
    unfold State.offerCallTo
    split <;> rfl
  generalize s.lc = lc
  induction l with
  | nil => rfl
  | cons k l ih => rw [List.foldl_cons, closed, ih]

/-! ### Table order (R115) -/

theorem State.mem_tableOrder {s : State} {i : Nat} :
    i ∈ s.tableOrder ↔ ∃ c, s.call i = some c ∧ c.current < 4 ∧ i ∈ s.rotation c.current := by
  unfold State.tableOrder
  simp only [List.mem_flatMap, List.mem_range, List.mem_filter]
  constructor
  · rintro ⟨level, below, inOrder, here⟩
    split at here
    · rename_i c present
      obtain rfl : c.current = level := of_decide_eq_true here
      exact ⟨c, present, below, inOrder⟩
    · cases here
  · rintro ⟨c, present, below, inOrder⟩
    exact ⟨c.current, below, inOrder, by rw [present]; exact decide_eq_true rfl⟩

theorem State.tableOrder_congr {s t : State} (rotations : t.cc.rotations = s.cc.rotations)
    (current : ∀ i, (t.call i).map (·.current) = (s.call i).map (·.current)) : t.tableOrder = s.tableOrder := by
  have level (n i : Nat) : (match t.call i with | some c => decide (c.current = n) | none => false) =
      match s.call i with | some c => decide (c.current = n) | none => false := by
    have same := current i
    cases ht : t.call i <;> cases hs : s.call i <;> simp_all
  unfold State.tableOrder State.rotation
  rw [rotations]
  refine List.flatMap_congr fun n _ => List.filter_congr fun i _ => ?_
  exact level n i

theorem State.tableOrder_announceEach (l : List Nat) (s : State) :
    (l.foldl State.announce s).tableOrder = s.tableOrder := by
  refine State.tableOrder_congr ?_ fun i => ?_
  · obtain ⟨_, _, h⟩ := State.announceEach_changes l s; rw [h]
  · rw [s.announceEach_call_eq]
    split
    · cases s.call i <;> rfl
    · rfl

/-- Every call's priorities are among the four levels of the table. -/
def State.Levelled (s : State) : Prop := ∀ i c, s.call i = some c → c.escalated ≤ 3 ∧ c.current ≤ 3

/-- The four rotation orders hold every source. -/
def State.Rotates (s : State) : Prop := ∀ level < 4, ∀ i < 17, i ∈ s.rotation level

theorem State.call_mem {s : State} {i : Nat} {c : Call} (present : s.call i = some c) :
    ∃ place ∈ s.cc.calls, c ∈ place := by
  unfold State.call at present
  rw [List.getD_eq_getElem?_getD] at present
  cases get : s.cc.calls[i]? with
  | none => rw [get] at present; cases present
  | some o =>
    rw [get] at present
    exact ⟨o, List.mem_of_getElem? get, present⟩

theorem State.Shaped.levelled {s : State} (h : s.Shaped) : s.Levelled := fun i c present => by
  obtain ⟨place, stands, here⟩ := State.call_mem present
  obtain ⟨-, escalated, current⟩ := h.priorities place stands c here
  exact ⟨escalated, current⟩

theorem State.Shaped.rotates {s : State} (h : s.Shaped) : s.Rotates := fun level below i source => by
  have inside : level < s.cc.rotations.length := by rw [h.rotations]; exact below
  have get : s.rotation level = s.cc.rotations[level] := by simp [State.rotation, inside]
  rw [get, (h.orders _ (List.getElem_mem inside)).mem_iff]
  exact List.mem_range.2 source

theorem State.mem_tableOrder_of_call {s : State} (levels : s.Levelled) (rotates : s.Rotates) {i : Nat} (source : i < 17)
    {c : Call} (present : s.call i = some c) : i ∈ s.tableOrder := by
  have low := (levels i c present).2
  exact State.mem_tableOrder.2 ⟨c, present, by omega, rotates _ (by omega) i source⟩

end Sys2Proof.Machine
end

section
namespace Sys2Proof.Machine

/-! ### The blocks after the route unit at RUN entry -/

/-- R57, R58: the line controller after the first STATE. -/
def State.firstLine (s : State) : LineController :=
  { (s.lc.offer true (.state s.statePayload) s.firstClass).1 with
    lastState := some s.statePayload
    refresh := s.after (s.cl.node.h * Config.second) }

theorem firstStateFollow_entry {old s : State} (before : old.running = false) (run : s.running = true) :
    firstStateFollow old s = { s with lc := if s.nodeId = 0 then s.lc else s.firstLine } := by
  unfold firstStateFollow State.offersOpen
  rw [before, run]
  by_cases unnamed : s.nodeId = 0
  · rw [if_pos unnamed, unnamed]
    rfl
  · have open_ : s.offersOpen = true := by simp [State.offersOpen, run, unnamed]
    have offered : s.offerState s.firstClass = { s with lc :=
        { (s.lc.offer true (.state s.statePayload) s.firstClass).1 with lastState := some s.statePayload } } := by
      rw [← open_]; rfl
    have named : ¬(s.offerState s.firstClass).nodeId = 0 := unnamed
    rw [if_neg unnamed, if_pos (by simp [unnamed]), State.startRefresh, if_neg named, offered]
    rfl

theorem stateFollow_entry {old : State} (before : old.running = false) (s : State) : stateFollow old s = s := by
  simp [stateFollow, before]

/-- R119, R178: at RUN entry every call is announced. -/
theorem announceFollow_entry {old s : State} (before : old.running = false) (run : s.running = true) (pressed : List Nat) :
    announceFollow old s pressed = s.tableOrder.foldl State.announce s := by
  have all : s.tableOrder.filter (announcementDue old s pressed) = s.tableOrder :=
    List.filter_eq_self.2 fun i _ => by simp [announcementDue, before, run]
  rw [announceFollow, all]

/-- R114: a call after a change of evacuating, or without one. -/
def followedCall (old s : State) (c : Call) : Call :=
  if old.isEvacuating = s.isEvacuating then c
  else if c.kind = .help then c.reprioritise s.isEvacuating else c

theorem callsFollow_eq (old s : State) : callsFollow old s =
    { s with cc := { s.cc with calls := s.cc.calls.map (Option.map (followedCall old s)) } } := by
  unfold callsFollow followedCall
  by_cases same : old.isEvacuating = s.isEvacuating
  · simp only [if_pos same]
    have id_ : Option.map (fun c : Call => c) = id := by funext o; exact Option.map_id_apply
    rw [id_, List.map_id]
  · simp only [if_neg same]
    rfl

theorem callsFollow_call_eq (old s : State) (i : Nat) :
    (callsFollow old s).call i = (s.call i).map (followedCall old s) := by
  rw [callsFollow_eq]
  simp only [State.call, List.getD_eq_getElem?_getD, List.getElem?_map]
  cases s.cc.calls[i]? <;> rfl

theorem currentPriority_le {escalated n : Nat} (h : escalated ≤ n) (kind : CallKind) (evacuating : Bool) :
    currentPriority kind escalated evacuating ≤ n := by
  unfold currentPriority
  split
  · exact Nat.zero_le n
  · exact h

theorem State.Levelled.callsFollow {s : State} (h : s.Levelled) (old : State) : (callsFollow old s).Levelled := by
  intro i c present
  rw [callsFollow_call_eq] at present
  obtain ⟨b, stood, rfl⟩ := Option.map_eq_some_iff.1 present
  obtain ⟨escalated, current⟩ := h i b stood
  unfold followedCall
  split
  · exact ⟨escalated, current⟩
  · split
    · exact ⟨escalated, currentPriority_le escalated _ _⟩
    · exact ⟨escalated, current⟩

theorem State.Levelled.setCall {s : State} (h : s.Levelled) {src : Nat} {c : Call} (levels : c.escalated ≤ 3 ∧ c.current ≤ 3)
    {t : State} (calls : t.cc.calls = s.cc.calls.set src (some c)) : t.Levelled := by
  intro i d present
  rw [State.call, calls, getD_set] at present
  split at present
  · cases present; exact levels
  · exact h i d present

/-- R116: a press at a level of the table keeps every call at a level of the table. -/
theorem State.Levelled.press {s : State} (h : s.Levelled) (src : Nat) (k : CallKind) {base : Nat} (low : base ≤ 3) :
    (s.press src k base).Levelled := by
  unfold State.press
  split
  · exact h.setCall ⟨low, currentPriority_le low _ _⟩ rfl
  · rename_i c present
    split
    · exact h.setCall (c := { c with reminder := true }) (h src c present) rfl
    · exact h

theorem State.Levelled.faultFollow {s : State} (h : s.Levelled) (old : State) : (faultFollow old s).Levelled := by
  unfold Machine.faultFollow
  split
  · exact h.press 16 .fault (by decide)
  · exact h

/-- A press leaves every other source's call as it is. -/
theorem State.press_call_ne (s : State) (src : Nat) (k : CallKind) (b : Nat) {i : Nat} (h : i ≠ src) :
    (s.press src k b).call i = s.call i := by
  have set_other (v : Option Call) : (s.cc.calls.set src v).getD i none = s.call i := by
    rw [getD_set, if_neg fun e => h e.1.symm]; rfl
  unfold State.press
  split
  · exact set_other _
  · split
    · exact set_other _
    · rfl

theorem faultFollow_call_ne (old s : State) {i : Nat} (h : i ≠ 16) : (faultFollow old s).call i = s.call i := by
  unfold faultFollow
  split
  · exact s.press_call_ne 16 .fault 2 h
  · rfl

/-- The state at RUN entry when the blocks between the route unit and the last announcements have acted: `w` is the state with
which LISTEN ended, `r` the same in RUN with its route computed. -/
structure Entering (old w r u : State) : Prop where
  now : u.now = w.now
  cl : u.cl = r.cl
  ds : u.ds = r.ds
  fl : u.fl = w.fl
  ru : u.ru = r.ru
  slots : u.nt.slots = w.nt.slots
  mode : u.nt.mode = w.nt.mode
  evacuate : u.nt.evacuate = w.nt.evacuate
  rotations : u.cc.rotations = w.cc.rotations
  doors : u.doors.map (·.routeView) = w.doors.map (·.routeView)
  lc : u.lc = if w.nodeId = 0 then w.lc else r.firstLine
  levelled : w.Levelled → u.Levelled
  call : ∀ i, i ≠ 16 → u.call i = (w.call i).map (followedCall old r)

/-- LISTEN has ended, and the first route is computed (R85, R178). -/
def State.guidedRun (w : State) : State := w.enterRun.setRu w.enterRun.computedRoute

/-- The blocks from the latch to the duration tester: what they leave, the doors' view for the route unit, and the calls. -/
theorem follow_latch_to_test (old a : State) (peer : Option Nat) :
    ∃ latch doors sd dt mk rp fc,
      testFollow old (signalsFollow old (callsFollow old (doorsFollow old (latchFollow old a)))) peer =
        { a with
          nt := { a.nt with latch := latch }
          doors := doors
          cc := { a.cc with calls := a.cc.calls.map (Option.map (followedCall old a)) }
          sd := sd
          dt := dt
          marker := mk
          ap := { a.ap with reports := rp }
          freeCount := fc } ∧
      doors.map (·.routeView) = a.doors.map (·.routeView) := by
  obtain ⟨latch, r1, h1⟩ := latchFollow_changes old a
  generalize latchFollow old a = s1 at h1 ⊢
  have views := doorsFollow_routeViews old s1
  obtain ⟨doors, h2⟩ := doorsFollow_changes old s1
  generalize doorsFollow old s1 = s2 at h2 views ⊢
  have h3 := callsFollow_eq old s2
  generalize callsFollow old s2 = s3 at h3 ⊢
  obtain ⟨v4, r4, n4, h4⟩ := signalsFollow_changes old s3
  generalize signalsFollow old s3 = s4 at h4 ⊢
  obtain ⟨v5, m5, q5, n5, h5⟩ := testFollow_changes old s4 peer
  generalize testFollow old s4 peer = s5 at h5 ⊢
  subst h1 h2 h3 h4 h5
  exact ⟨_, _, _, _, _, _, _, rfl, views⟩

/-- R118: the node-fault call is no part of what the other blocks have decided. -/
theorem Entering.faultFollow {old w r u : State} (h : Entering old w r u) : Entering old w r (faultFollow old u) := by
  have levels (k : w.Levelled) := (h.levelled k).faultFollow old
  have calls (i : Nat) (other : i ≠ 16) := (faultFollow_call_ne old u other).trans (h.call i other)
  obtain ⟨_, _, _, k⟩ := faultFollow_changes old u
  rw [k] at levels calls ⊢
  exact ⟨h.now, h.cl, h.ds, h.fl, h.ru, h.slots, h.mode, h.evacuate, h.rotations, h.doors, h.lc, levels, calls⟩

/-- Every block between the route unit and the announcements at RUN entry. -/
theorem entering_tail {old : State} (before : old.running = false) (w : State) (reports : List Report)
    (peer : Option Nat) {a : State} (ha : a = { w.guidedRun with ap := { w.ap with reports := reports } }) :
    Entering old w w.guidedRun (faultFollow old (stateFollow old (testFollow old (signalsFollow old (callsFollow old
      (doorsFollow old (latchFollow old (firstStateFollow old a))))) peer))) := by
  refine Entering.faultFollow ?_
  rw [firstStateFollow_entry before (by rw [ha]; rfl), stateFollow_entry before]
  obtain ⟨lc, line⟩ : ∃ lc, lc = if a.nodeId = 0 then a.lc else a.firstLine := ⟨_, rfl⟩
  rw [← line]
  obtain ⟨latch, doors, sd, dt, mk, rp, fc, h, views⟩ := follow_latch_to_test old { a with lc := lc } peer
  rw [h]
  subst ha
  have calls (i : Nat) : (callsFollow old w.guidedRun).call i = (w.call i).map (followedCall old w.guidedRun) :=
    callsFollow_call_eq old w.guidedRun i
  have levels : w.Levelled → (callsFollow old w.guidedRun).Levelled := fun k => State.Levelled.callsFollow (s := w.guidedRun) k old
  rw [callsFollow_eq] at calls levels
  exact ⟨rfl, rfl, rfl, rfl, rfl, rfl, rfl, rfl, rfl, views, line, levels, fun i _ => calls i⟩

/-- RUN entry: what the last announcements meet. -/
theorem settle_entry {old v w : State} (before : old.running = false)
    (entered : phaseFollow old (fireFollow old v) = w.enterRun) (peer : Option Nat) (pressed : List Nat) :
    ∃ u, Entering old w w.guidedRun u ∧ settle old v peer pressed = u.tableOrder.foldl State.announce u := by
  obtain ⟨r, route⟩ := routeFollow_changes old w.enterRun
  have run : w.enterRun.running = true := rfl
  have computed : followedRoute old w.enterRun = w.enterRun.computedRoute := by
    have changed : routeInputsChanged old w.enterRun = true := by
      rw [routeInputsChanged, before, run]
      simp
    rw [followedRoute, if_pos run, if_pos changed]
  rw [computed] at route
  have entering := entering_tail before w r peer route
  unfold settle
  dsimp only
  rw [entered]
  generalize faultFollow old _ = u at entering ⊢
  exact ⟨u, entering, announceFollow_entry before (by rw [State.running, entering.cl]; rfl) pressed⟩

end Sys2Proof.Machine
end

section
namespace Sys2Proof.Machine

/-! ### What RUN entry brings, from LISTEN -/

/-- R57: the contents of the first STATE; `t` is the state after RUN entry, `s` before. -/
def firstContents (s t : State) : StatePayload where
  f := BitVec.ofNat 4 t.ru.f
  x := BitVec.ofNat 4 t.ru.announcedX
  fire := t.fl.gallery
  role := s.cl.node.role
  testRunning := decide (s.dt.state = .running)
  h := BitVec.ofNat 4 s.cl.node.h
  mode := t.nt.mode
  evacuate := t.nt.evacuate

/-- R57, R58: the line controller, but for its deafness that of `s`, after the first STATE. -/
def firstOffered (s t : State) : LineController :=
  { (({ s.lc with deaf := t.lc.deaf } : LineController).offer true (.state (firstContents s t))
      (if t.fl.gallery = .fire ∨ t.ru.f < 15 then 0 else 2)).1 with
    lastState := some (firstContents s t)
    refresh := some (t.now + s.cl.node.h * Config.second) }

/-- R119: the re-announce timer of a call announced at `t`. -/
def announcedAgain (t : State) (c : Call) : Timer := some (t.now + (if c.taker = 0 then 16 else 32) * Config.second)

/-- R177, R178: between `s` and `t` LISTEN has ended. -/
def EnteredRun (s t : State) : Prop :=
  t.cl.phase = .run ∧ t.cl.listen = none ∧
    t.ds.drift = some (t.now + s.cl.node.driftMinutes * (60 * Config.second)) ∧
    t.ds.rate = some (t.now + s.cl.node.rateSeconds * Config.second) ∧
    t.ru = State.computedRoute { t with ru := s.ru } ∧
    (s.nodeId ≠ 0 → t.lc = t.tableOrder.foldl (t.offerCallTo true) (firstOffered s t)) ∧
    (s.nodeId = 0 → t.lc = { s.lc with deaf := t.lc.deaf }) ∧
    (t.lc.deaf ≠ none → t.lc.deaf = s.lc.deaf) ∧
    ∀ source < 17, ∀ c, t.call source = some c → c.reannounce = announcedAgain t c

/-- What RUN entry finds in `w` of the state `s` before the event. -/
structure EntersFrom (s w : State) : Prop where
  node : w.cl.node = s.cl.node
  route : w.ru = s.ru
  test : w.dt.state = s.dt.state
  line : ∃ deaf, (deaf = none ∨ deaf = s.lc.deaf) ∧ w.lc = { s.lc with deaf := deaf }
  levelled : w.Levelled
  rotates : w.Rotates

theorem LineOffers.deaf {a b : LineController} (h : LineOffers a b) : b.deaf = a.deaf := by
  obtain ⟨offered, last, rfl⟩ := h
  obtain ⟨_, _, _, k⟩ := a.offerAll_keeps offered
  rw [k]

theorem State.firstLine_deaf (s : State) : s.firstLine.deaf = s.lc.deaf := by
  obtain ⟨_, _, _, k⟩ := s.lc.offer_keeps true (.state s.statePayload) s.firstClass
  rw [State.firstLine, k]

namespace Entering

variable {old w u : State} (e : Entering old w w.guidedRun u)
include e

theorem nodeId : u.nodeId = w.nodeId := congrArg (·.node.id) e.cl

theorem deaf : u.lc.deaf = w.lc.deaf := by
  rw [e.lc]
  split
  · rfl
  · exact State.firstLine_deaf _

/-- R85: the route is that of the inputs as they stand after the event too. -/
theorem computedRoute {t : State} (same : t.routeInputs = u.routeInputs) (via : t.ru.via = w.ru.via) :
    w.enterRun.computedRoute = t.computedRoute := by
  refine State.computedRoute_congr (s := t) (t := w.enterRun) (Eq.symm (same.trans ?_)) via.symm
  rw [State.routeInputs, e.fl, e.slots, e.evacuate, e.cl, e.doors]
  rfl

/-- Every call stands in table order. -/
theorem mem_tableOrder {s : State} (b : EntersFrom s w) {i : Nat} (source : i < 17) {c : Call} (present : u.call i = some c) :
    i ∈ u.tableOrder := by
  refine State.mem_tableOrder_of_call (e.levelled b.levelled) (fun level below j hj => ?_) source present
  have same : u.rotation level = w.rotation level := congrArg (List.getD · level []) e.rotations
  rw [same]
  exact b.rotates level below j hj

end Entering

namespace Entering

variable {s old w u : State} (b : EntersFrom s w) (e : Entering old w w.guidedRun u)
include b e

/-- R57, R58, R119: with an id, first the STATE and then the CALLs are offered. -/
theorem line_named (named : s.nodeId ≠ 0) {t : State} (ht : t = u.tableOrder.foldl State.announce u) :
    t.lc = t.tableOrder.foldl (t.offerCallTo true) (firstOffered s t) := by
  have order : t.tableOrder = u.tableOrder := ht ▸ u.tableOrder_announceEach u.tableOrder
  have offers : t.offerCallTo = u.offerCallTo := ht ▸ u.offerCallTo_announceEach u.tableOrder
  have deaf : t.lc.deaf = w.lc.deaf := ht ▸ (State.announceEach_line _ _).deaf.trans e.deaf
  have node : w.cl.node = s.cl.node := b.node
  have identity : u.nodeId ≠ 0 := by rw [e.nodeId, State.nodeId, node]; exact named
  have open_ : u.offersOpen = true := by
    have run : u.running = true := by rw [State.running, e.cl]; rfl
    simp [State.offersOpen, run, identity]
  have lc : t.lc = u.tableOrder.foldl (u.offerCallTo true) u.lc := by rw [ht, State.announceEach_lc, open_]
  have first : u.lc = firstOffered s t := by
    obtain ⟨_, _, frame⟩ := State.announceEach_changes u.tableOrder u
    obtain ⟨_, -, line⟩ := b.line
    have before : ({ s.lc with deaf := t.lc.deaf } : LineController) = w.lc := by rw [deaf, line]
    have contents : firstContents s t = w.guidedRun.statePayload := by
      rw [ht, frame]
      simp only [firstContents, e.ru, e.fl, e.mode, e.evacuate, ← node, ← b.test]
      rfl
    have cls : (if t.fl.gallery = .fire ∨ t.ru.f < 15 then 0 else 2) = w.guidedRun.firstClass := by
      rw [ht, frame]
      simp only [State.firstClass, e.ru, e.fl, Bool.or_eq_true, decide_eq_true_eq]
      rfl
    have now : t.now = w.now := by rw [ht, frame]; exact e.now
    rw [e.lc, if_neg (by rw [← e.nodeId]; exact identity), firstOffered, before, contents, cls, now, ← node]
    rfl
  rw [lc, order, offers, first]

/-- R54: without an id nothing is offered. -/
theorem line_unnamed (unnamed : s.nodeId = 0) {t : State} (ht : t = u.tableOrder.foldl State.announce u) :
    t.lc = { s.lc with deaf := t.lc.deaf } := by
  have without : w.nodeId = 0 := by rw [State.nodeId, b.node]; exact unnamed
  have closed : u.offersOpen = false := by simp [State.offersOpen, e.nodeId, without]
  obtain ⟨_, -, line⟩ := b.line
  rw [ht, State.announceEach_lc_closed _ closed, e.lc, if_pos without, line]

end Entering

theorem enteredRun {s w old u t : State} (b : EntersFrom s w) (e : Entering old w w.guidedRun u)
    (ht : t = u.tableOrder.foldl State.announce u) : EnteredRun s t := by
  have deaf : t.lc.deaf = w.lc.deaf := ht ▸ (State.announceEach_line _ _).deaf.trans e.deaf
  have named (h : s.nodeId ≠ 0) := e.line_named b h ht
  have unnamed (h : s.nodeId = 0) := e.line_unnamed b h ht
  have calls (i : Nat) := u.announceEach_call_eq u.tableOrder i
  rw [← ht] at calls
  obtain ⟨_, _, frame⟩ := State.announceEach_changes u.tableOrder u
  rw [← ht] at frame
  have now : t.now = w.now := by rw [frame]; exact e.now
  have cl : t.cl = w.guidedRun.cl := by rw [frame]; exact e.cl
  have ds : t.ds = w.guidedRun.ds := by rw [frame]; exact e.ds
  refine ⟨by rw [cl]; rfl, by rw [cl]; rfl, by rw [ds, now, ← b.node]; rfl, by rw [ds, now, ← b.node]; rfl, ?_,
    named, unnamed, fun hears => ?_, fun i source c present => ?_⟩
  · have ru : t.ru = w.enterRun.computedRoute := by rw [frame]; exact e.ru
    rw [ru]
    exact e.computedRoute (by rw [frame]; rfl) (by rw [b.route])
  · obtain ⟨d, which, line⟩ := b.line
    rw [deaf, line] at hears ⊢
    exact which.resolve_left hears
  · rw [calls] at present
    cases stood : u.call i with
    | none => rw [stood] at present; split at present <;> cases present
    | some d =>
      rw [if_pos (e.mem_tableOrder b source stood), stood] at present
      cases present
      show u.after _ = _
      rw [announcedAgain, now, ← e.now]
      rfl

end Sys2Proof.Machine
end

section
namespace Sys2Proof.Machine

/-! ### The end of LISTEN by its timer -/

/-- R114: the current priorities are again what evacuating makes of them. -/
theorem followedCall_priority {old s : State} (follows : old.PrioritiesFollow) {i : Nat} {c : Call}
    (present : old.call i = some c) : followedCall old s c =
      { c with current := if c.kind = .help ∧ s.ru.evacuating ≠ none then 0 else c.escalated } := by
  obtain ⟨place, stands, here⟩ := State.call_mem present
  have current := follows place stands c here
  have some_ (u : State) : u.isEvacuating = true ↔ u.ru.evacuating ≠ none := Option.isSome_iff_ne_none
  unfold followedCall
  by_cases same : old.isEvacuating = s.isEvacuating
  · have iff : old.ru.evacuating ≠ none ↔ s.ru.evacuating ≠ none := by rw [← some_, ← some_, same]
    rw [if_pos same, ← if_congr (and_congr_right' iff) rfl rfl, ← current]
  · rw [if_neg same]
    by_cases help : c.kind = .help
    · simp only [Call.reprioritise, currentPriority, help, Bool.and_eq_true, decide_true, true_and, some_, ↓reduceIte]
    · rw [if_neg fun h => help h.1] at current
      rw [if_neg help, if_neg fun h => help h.1]
      cases c
      cases current
      rfl

namespace Entering

variable {s old w u : State} (b : EntersFrom s w) (e : Entering old w w.guidedRun u)
include b e

theorem announced_call {t : State} (ht : t = u.tableOrder.foldl State.announce u) {i : Nat} (source : i < 17) :
    t.call i = (u.call i).map u.reannounced := by
  rw [ht, State.announceEach_call_eq]
  cases stood : u.call i with
  | none => split <;> rfl
  | some c => rw [if_pos (e.mem_tableOrder b source stood)]

end Entering

theorem EntersFrom.reach {s : State} (shaped : s.Shaped) (m : Nat) : EntersFrom s (s.reach m) :=
  ⟨rfl, rfl, rfl, ⟨s.lc.deaf, .inr rfl, rfl⟩, shaped.levelled, shaped.rotates⟩

theorem State.enterRun_consequent (s : State) : Consequent s s.enterRun :=
  ⟨.run, none, _, _, s.fl, s.ru, [], s.lc.lastState, s.lc.refresh, s.nt.latch, s.doors, s.cc.calls, s.cc.serials, s.sd, s.dt,
    s.marker, [], s.freeCount, rfl⟩

/-- R177, R178: the listen timer's expiry. -/
theorem exec_listenTimerExpiry {s : State} {deadline : Nat} (listen : s.cl.phase = .listen)
    (running : s.cl.listen = some deadline) :
    exec .listenTimerExpiry s = .next (settle (s.reach deadline) (s.reach deadline).enterRun none []) :=
  State.expiry_running (s := s) (by simp [State.awake, listen]) running State.enterRun

/-- The end of LISTEN is no change of what the fire logic decides on. -/
theorem fireFollow_enterRun (s : State) : fireFollow s s.enterRun = s.enterRun := fireFollow_still rfl rfl rfl rfl

theorem settle_enterRun_fl (s : State) : (settle s s.enterRun none []).fl = s.fl := by
  rw [settle_fl, fireFollow_enterRun]
  rfl

theorem listenTimer_ends {s : State} (deadline : Nat) (shaped : s.Shaped) (follows : s.PrioritiesFollow)
    (listen : s.cl.phase = .listen) {t : State}
    (ht : t = settle (s.reach deadline) (s.reach deadline).enterRun none []) :
    Consequent (s.reach deadline) t ∧ EnteredRun s t ∧ t.lc.deaf = s.lc.deaf ∧ t.ru = s.computedRoute ∧ t.fl = s.fl ∧
      ∀ source < 16, t.call source = (s.call source).map fun c => { c with
        current := if c.kind = .help ∧ t.ru.evacuating ≠ none then 0 else c.escalated
        reannounce := announcedAgain t c } := by
  have before : (s.reach deadline).running = false := by simp [State.running, State.reach, listen]
  have entered : phaseFollow (s.reach deadline) (fireFollow (s.reach deadline) (s.reach deadline).enterRun) =
      (s.reach deadline).enterRun := by
    rw [fireFollow_enterRun]
    exact phaseFollow_same rfl
  have consequent := (s.reach deadline).enterRun_consequent.trans
    (settle_consequent (s.reach deadline) (s.reach deadline).enterRun none [])
  have fl := settle_enterRun_fl (s.reach deadline)
  obtain ⟨u, e, hu⟩ := settle_entry before entered none []
  rw [← ht] at hu consequent fl
  have b := EntersFrom.reach shaped deadline
  have now : t.now = u.now := by obtain ⟨_, _, frame⟩ := State.announceEach_changes u.tableOrder u; rw [hu, frame]
  have ru : t.ru = (s.reach deadline).guidedRun.ru := by
    obtain ⟨_, _, frame⟩ := State.announceEach_changes u.tableOrder u; rw [hu, frame]; exact e.ru
  refine ⟨consequent, enteredRun b e hu, ?_, ?_, fl, fun source below => ?_⟩
  · rw [hu, (State.announceEach_line _ _).deaf, e.deaf]; rfl
  · rw [ru]
    exact State.computedRoute_congr (s := s) rfl rfl
  · rw [e.announced_call b hu (by omega), e.call source (by omega), Option.map_map]
    refine Option.map_congr fun c present => ?_
    have priority := followedCall_priority (old := s.reach deadline) (s := (s.reach deadline).guidedRun) follows present
    rw [Function.comp_apply, priority, ru, announcedAgain, now]
    rfl

end Sys2Proof.Machine
end

section
namespace Sys2Proof.Machine

/-! ### The end of LISTEN by FIRE -/

/-- What an event's owner leaves where it can bring the gallery to FIRE. -/
structure FireOwner (u v : State) : Prop where
  cl : v.cl = u.cl
  ru : v.ru = u.ru
  dt : v.dt = u.dt
  lc : v.lc = u.lc
  rotations : v.cc.rotations = u.cc.rotations
  levelled : u.Levelled → v.Levelled

/-- R177, for a command in LISTEN other than the listen timer's expiry: RUN is entered with FIRE, and at no other time. -/
structure EndsByFire (s t : State) : Prop where
  entered : s.fl.gallery ≠ .fire → t.fl.gallery = .fire → EnteredRun s t ∧ t.ru.f = 0 ∧ t.ru.evacuating ≠ none
  fire : t.running = true → s.fl.gallery ≠ .fire ∧ t.fl.gallery = .fire

theorem EndsByFire.of_still {s t : State} (listen : s.cl.phase = .listen) (cl : t.cl = s.cl) (fl : t.fl = s.fl) :
    EndsByFire s t where
  entered := fun quiet fire => absurd (fl ▸ fire) quiet
  fire := fun run => by simp [State.running, cl, listen] at run

/-- R77, R84: a gallery in FIRE is at distance 0, and evacuates. -/
theorem State.computedRoute_fire {s : State} (h : s.fl.gallery = .fire) :
    s.computedRoute.f = 0 ∧ s.computedRoute.evacuating ≠ none := by
  have distance : s.fireDistance = 0 := by rw [State.fireDistance, if_pos h]
  have evacuates : evacCause 0 s.cl.node.e s.nt.evacuate ≠ none := by
    rw [evacCause, if_pos (Nat.zero_le _)]
    split <;> exact nofun
  unfold State.computedRoute
  rw [distance]
  split <;> exact ⟨rfl, evacuates⟩

theorem phaseFollow_fire {old w : State} (listen : w.cl.phase = .listen) (quiet : old.fl.gallery ≠ .fire)
    (fire : w.fl.gallery = .fire) : phaseFollow old w = w.enterRun :=
  if_pos (by simp [listen, quiet, fire])

theorem phaseFollow_stays {old w : State} (h : ¬(old.fl.gallery ≠ .fire ∧ w.fl.gallery = .fire)) : phaseFollow old w = w := by
  refine if_neg fun all => h ?_
  simp only [Bool.and_eq_true, bne_iff_ne, decide_eq_true_eq] at all
  exact ⟨all.1.2, all.2⟩

theorem EntersFrom.fired {s u v : State} (shaped : s.Shaped) (m : AtEvent s u) (o : FireOwner u v) :
    EntersFrom s (fireFollow u v) := by
  obtain ⟨_, _, h⟩ := fireFollow_changes u v
  rw [h]
  obtain ⟨now, deaf, free, hears, rfl⟩ := m
  obtain ⟨cl, ru, dt, lc, rotations, levelled⟩ := o
  refine ⟨congrArg (·.node) cl, ru, congrArg (·.state) dt, ⟨deaf, hears, lc⟩, levelled shaped.levelled, fun level below i hi => ?_⟩
  show i ∈ v.cc.rotations.getD level []
  rw [rotations]
  exact shaped.rotates level below i hi

theorem FireOwner.settle {s u v t : State} (shaped : s.Shaped) (listen : s.cl.phase = .listen) (m : AtEvent s u)
    (o : FireOwner u v) {peer : Option Nat} {pressed : List Nat} (ht : t = settle u v peer pressed) : EndsByFire s t := by
  have from_ := EntersFrom.fired shaped m o
  have fl : t.fl = (fireFollow u v).fl := ht ▸ settle_fl u v peer pressed
  have cl : t.cl = (phaseFollow u (fireFollow u v)).cl := ht ▸ settle_cl u v peer pressed
  have waits : (fireFollow u v).cl = s.cl := by
    obtain ⟨_, _, h⟩ := fireFollow_changes u v
    obtain ⟨_, _, _, _, rfl⟩ := m
    rw [h]
    exact o.cl
  have gallery : u.fl = s.fl := by obtain ⟨_, _, _, _, rfl⟩ := m; rfl
  have before : u.running = false := by
    obtain ⟨_, _, _, _, rfl⟩ := m
    simp [State.running, listen]
  by_cases fires : u.fl.gallery ≠ .fire ∧ (fireFollow u v).fl.gallery = .fire
  · obtain ⟨quiet, fire⟩ := fires
    have entered := phaseFollow_fire (by rw [waits]; exact listen) quiet fire
    obtain ⟨r, e, hr⟩ := settle_entry before entered peer pressed
    rw [← ht] at hr
    have ru : t.ru = (fireFollow u v).enterRun.computedRoute := by
      obtain ⟨_, _, frame⟩ := State.announceEach_changes r.tableOrder r; rw [hr, frame]; exact e.ru
    rw [gallery] at quiet
    rw [← fl] at fire
    refine ⟨fun _ _ => ⟨enteredRun from_ e hr, ?_⟩, fun _ => ⟨quiet, fire⟩⟩
    rw [ru]
    exact State.computedRoute_fire (fl ▸ fire)
  · rw [phaseFollow_stays fires, waits] at cl
    refine ⟨fun quiet fire => absurd ⟨gallery ▸ quiet, fl ▸ fire⟩ fires, fun run => ?_⟩
    simp [State.running, cl, listen] at run

/-- An event in LISTEN whose owner either leaves what the fire logic reads or keeps what RUN entry finds. -/
theorem Event.endsByFire {f : State → State} {s t : State} (h : Event f s t) (shaped : s.Shaped)
    (listen : s.cl.phase = .listen)
    (k : ∀ u, AtEvent s u → (f u).fireView = u.fireView ∨ FireOwner u (f u)) : EndsByFire s t := by
  cases h with
  | still m => exact .of_still listen (State.cl_of_fireView m.fireView) (State.fl_of_fireView m.fireView)
  | @acts u peer pressed m ht =>
    rcases k u m with same | owner
    · have view : t.fireView = s.fireView := by rw [ht, settle_keeps_fireView same, same, m.fireView]
      exact .of_still listen (State.cl_of_fireView view) (State.fl_of_fireView view)
    · exact owner.settle shaped listen m ht

/-! ### The owners -/

theorem State.eventAt_cases {s t : State} {moment : Nat} {f : State → State} (h : s.eventAt moment f = .next t) :
    Event f s t := State.expiry_cases (timer := some moment) h

theorem State.takeSample_owner (s : State) (n c code : Nat) : FireOwner s ((s.passSlot n).takeSample c code) := by
  unfold State.takeSample
  dsimp only
  generalize (Channel.sample _ _ _ _ _ _).2 = event
  cases event with
  | nothing =>
    obtain ⟨_, h⟩ := State.reportIf_changes ((s.passSlot n).setChannel c
      (((s.passSlot n).channel c).sample code (s.passSlot n).nt.mode (s.passSlot n).slotHoldsFire (s.passSlot n).cl.node.v
        (s.passSlot n).now).1) _ .driftLimit c 1
    rw [State.takeSampleEvent, h]
    exact ⟨rfl, rfl, rfl, rfl, rfl, id⟩
  | faulted cls => exact ⟨rfl, rfl, rfl, rfl, rfl, id⟩
  | faultInAlarm cls => exact ⟨rfl, rfl, rfl, rfl, rfl, id⟩
  | recovered => exact ⟨rfl, rfl, rfl, rfl, rfl, id⟩
  | burst =>
    obtain ⟨_, _, _, h⟩ := State.completeBurst_changes ((s.passSlot n).setChannel c
      (((s.passSlot n).channel c).sample code (s.passSlot n).nt.mode (s.passSlot n).slotHoldsFire (s.passSlot n).cl.node.v
        (s.passSlot n).now).1) c
    rw [State.takeSampleEvent, h]
    exact ⟨rfl, rfl, rfl, rfl, rfl, id⟩

theorem State.stepDrifts_owner (s : State) (n : Nat) : FireOwner s (s.forEach n stepDrift).startDrift := by
  obtain ⟨_, h⟩ := forEach_stepDrift_changes s n
  rw [h]
  exact ⟨rfl, rfl, rfl, rfl, rfl, id⟩

theorem State.holdExpire_owner (s : State) (c : Nat) : FireOwner s (s.setChannel c (s.channel c).holdExpire) :=
  ⟨rfl, rfl, rfl, rfl, rfl, id⟩

theorem State.loseSlot_owner (s : State) (k : Nat) : FireOwner s (s.loseSlot k) := ⟨rfl, rfl, rfl, rfl, rfl, id⟩

theorem State.qualifyPoint_owner (s : State) (p : Nat) (active : Bool) : FireOwner s (s.qualifyPoint p active) :=
  ⟨rfl, rfl, rfl, rfl, rfl, id⟩

theorem State.confirmExpire_owner (s : State) : FireOwner s s.confirmExpire := by
  obtain ⟨_, _, _, _, h⟩ := (s.setFl { s.fl with confirm := none }).evaluate_changes true
  rw [State.confirmExpire, h]
  exact ⟨rfl, rfl, rfl, rfl, rfl, id⟩

theorem State.endWalk_owner (s : State) (w : WalkEnd) : FireOwner s (s.endWalk w) := by
  obtain ⟨_, _, _, _, _, h⟩ := s.endWalk_changes w
  rw [h]
  exact ⟨rfl, rfl, rfl, rfl, rfl, id⟩

theorem State.decideReset_owner (s : State) (a b : Nat) (clears : Bool) : FireOwner s (s.decideReset a b clears) := by
  unfold State.decideReset
  split
  · exact ⟨rfl, rfl, rfl, rfl, rfl, id⟩
  · obtain ⟨_, _, _, _, _, h⟩ := s.acceptReset_changes a b clears
    rw [h]
    exact ⟨rfl, rfl, rfl, rfl, rfl, id⟩

theorem State.takeState_owner (s : State) (src : Nat) (p : StatePayload) :
    FireOwner s ((s.takeState src p).adopt src p) := by
  obtain ⟨_, _, h⟩ := s.takeState_changes src p
  obtain ⟨_, _, _, _, h'⟩ := (s.takeState src p).adopt_changes src p
  rw [h', h]
  exact ⟨rfl, rfl, rfl, rfl, rfl, id⟩

theorem State.press_owner {s : State} (p : Nat) (low : (s.point p).priority ≤ 3) :
    FireOwner s ((s.qualifyPoint p true).pressPoint p) := by
  have priority : ((s.qualifyPoint p true).point p).priority = (s.point p).priority := by
    simp only [State.qualifyPoint, State.setPoint, State.point, State.setCc, List.getD_eq_getElem?_getD, List.getElem?_set]
    by_cases inside : p < s.cc.points.length <;> simp [inside]
  have levels (h : s.Levelled) : ((s.qualifyPoint p true).pressPoint p).Levelled :=
    State.Levelled.press (s := s.qualifyPoint p true) h _ _ (by rw [priority]; exact low)
  obtain ⟨_, _, _, h⟩ := (s.qualifyPoint p true).press_changes p
    ((s.qualifyPoint p true).point p).kind.callKind ((s.qualifyPoint p true).point p).priority
  rw [State.pressPoint] at levels ⊢
  rw [h] at levels ⊢
  exact ⟨rfl, rfl, rfl, rfl, rfl, levels⟩

theorem State.Shaped.pointPriority {s : State} (h : s.Shaped) {p : Nat} (below : p < 8) (used : (s.point p).kind ≠ .unused) :
    (s.point p).priority ≤ 3 := by
  have inside : p < s.cc.points.length := by rw [h.points]; exact below
  have get : s.point p = s.cc.points[p] := by simp [State.point, inside]
  rw [get] at used ⊢
  exact h.pointPriorities _ (List.getElem_mem inside) used

/-- R170: no change is taken outside RUN. -/
theorem State.request_change_still {s t : State} {f : State → State × Response} (listen : s.cl.phase = .listen)
    (h : s.request .change f = .next t) : EndsByFire s t := by
  have barred : s.portBar .change ≠ none := by simp [State.portBar, State.running, listen]
  rcases State.request_cases h with rfl | ⟨r, rfl⟩ | ⟨open_, -⟩
  · exact .of_still listen rfl rfl
  · exact .of_still listen rfl rfl
  · exact absurd open_ barred

theorem State.pressEvent_endsByFire {s t : State} {p : Fin 8} (shaped : s.Shaped) (listen : s.cl.phase = .listen)
    (used : (s.point p).kind ≠ .unused) (h : s.pressEvent p = .next t) : EndsByFire s t := by
  refine (State.pressEvent_cases h).endsByFire shaped listen fun u m => .inr ?_
  obtain ⟨_, _, _, _, rfl⟩ := m
  exact State.press_owner p (shaped.pointPriority p.isLt used)

/-- Every command in LISTEN but the listen timer's expiry. -/
theorem exec_endsByFire {c : Instr} {s t : State} (other : c ≠ .listenTimerExpiry) (shaped : s.Shaped)
    (listen : s.cl.phase = .listen) (h : exec c s = .next t) (awake : t.awake = true) : EndsByFire s t := by
  by_cases apart : actsOnFireView c = false
  · have view := exec_keeps_fireView apart h (by simp [State.awake, listen]) awake
    exact .of_still listen (State.cl_of_fireView view) (State.fl_of_fireView view)
  cases c
  case listenTimerExpiry => exact absurd rfl other
  case sampleArrival c code odd =>
    dsimp only [exec, execSampleArrival] at h
    split at h
    · cases h; exact .of_still listen rfl rfl
    · exact (State.eventAt_cases h).endsByFire shaped listen fun u _ => .inr (u.takeSample_owner _ _ _)
  case driftTimerExpiry =>
    dsimp only [exec, execDriftTimerExpiry] at h
    exact (State.expiry_cases h).endsByFire shaped listen fun u _ => .inr (u.stepDrifts_owner 16)
  case holdTimerExpiry c =>
    dsimp only [exec, execHoldTimerExpiry] at h
    exact (State.expiry_cases h).endsByFire shaped listen fun u _ => .inr (u.holdExpire_owner c)
  case confirmDelayExpiry =>
    dsimp only [exec, execConfirmDelayExpiry] at h
    exact (State.expiry_cases h).endsByFire shaped listen fun u _ => .inr u.confirmExpire_owner
  case walkDurationExpiry =>
    dsimp only [exec, execWalkDurationExpiry] at h
    exact (State.expiry_cases h).endsByFire shaped listen fun u _ => .inr (u.endWalk_owner .time)
  case stateArrival src p =>
    dsimp only [exec, execStateArrival] at h
    refine (State.arrival_cases h).endsByFire shaped listen fun u _ => ?_
    rcases State.hear_state src p u with e | e
    · exact .inl (e ▸ u.noteDuplicate_fireView _)
    · exact .inr (e ▸ u.takeState_owner src.toNat p)
  case orderFireReset src target =>
    dsimp only [exec, execOrderFireReset] at h
    refine (State.arrival_cases h).endsByFire shaped listen fun u _ => ?_
    rcases State.hear_fireReset src target u with e | ⟨_, _, _, e⟩ | e
    · exact .inl (e ▸ u.noteDuplicate_fireView _)
    · exact .inr (e ▸ u.decideReset_owner _ _ _)
    · exact .inl (congrArg State.fireView e)
  case freshnessDeadlineExpiry slot =>
    dsimp only [exec, execFreshnessDeadlineExpiry] at h
    exact (State.expiry_cases h).endsByFire shaped listen fun u _ => .inr (u.loseSlot_owner slot)
  case callPointPress p =>
    dsimp only [exec, execCallPointPress] at h
    split at h
    · cases h; exact .of_still listen rfl rfl
    · rename_i used
      exact State.pressEvent_endsByFire shaped listen (by simp at used; exact used.1) h
  case firePointLevelChange p active =>
    dsimp only [exec, execFirePointLevelChange] at h
    split at h
    · cases h; exact .of_still listen rfl rfl
    · rename_i used
      split at h
      · exact State.pressEvent_endsByFire shaped listen used h
      · exact (State.event_cases h).endsByFire shaped listen fun u _ => .inr (u.qualifyPoint_owner p active)
  case fireReset =>
    dsimp only [exec, execFireReset] at h
    exact State.request_change_still listen h
  case isolate c =>
    dsimp only [exec, execIsolate] at h
    exact State.request_change_still listen h
  case restore c =>
    dsimp only [exec, execRestore] at h
    exact State.request_change_still listen h
  case walkStart min =>
    dsimp only [exec, execWalkStart] at h
    exact State.request_change_still listen h
  case walkStop =>
    dsimp only [exec, execWalkStop] at h
    exact State.request_change_still listen h
  all_goals exact absurd rfl apart

/-- The timer's expiry brings no change of the fire logic. -/
theorem listenTimerExpiry_fl {s t : State} (listen : s.cl.phase = .listen) (h : exec .listenTimerExpiry s = .next t) :
    t.fl = s.fl := by
  cases running : s.cl.listen with
  | none =>
    have stopped : exec .listenTimerExpiry s = .next s := State.expiry_stopped running _
    rw [stopped] at h
    cases h
    rfl
  | some deadline =>
    rw [exec_listenTimerExpiry listen running] at h
    obtain rfl := Host.Outcome.next.inj h
    exact settle_enterRun_fl (s.reach deadline)

/-- Settles O35: LISTEN ends by its timer, or by FIRE. -/
theorem listenEnds : Obligations.ListenEnds := by
  refine ⟨fun s deadline shaped follows listen running => ?_, fun c s t shaped _ listen h awake => ?_⟩
  · have run := exec_listenTimerExpiry listen running
    have ends := fun t => listenTimer_ends deadline shaped follows listen (t := t)
    generalize settle (s.reach deadline) (s.reach deadline).enterRun none [] = t at run ends
    exact ⟨t, run, ends t rfl⟩
  · by_cases timer : c = .listenTimerExpiry
    · subst timer
      have fl := listenTimerExpiry_fl listen h
      exact ⟨fun quiet fire => absurd (fl ▸ fire) quiet, fun _ => .inl rfl⟩
    · have ends := exec_endsByFire timer shaped listen h awake
      exact ⟨ends.entered, fun run => .inr (ends.fire run)⟩

end Sys2Proof.Machine
end

/-! ## WALK_STOP (R38, R39) -/

section
namespace Sys2Proof.Machine

/-- R39: what the end of an active walk test leaves of it. -/
theorem State.endWalk_active {s : State} (h : s.fl.walkActive = true) (w : WalkEnd) :
    (s.endWalk w).fl.walkActive = false ∧ (s.endWalk w).fl.walkTimer = none ∧
      (s.endWalk w).fl.tested = List.replicate 16 false ∧ (s.endWalk w).fl.lastRecorded = List.replicate 16 none := by
  rw [State.endWalk, if_pos h]
  exact ⟨rfl, rfl, rfl, rfl⟩

/-- R39: the end of an active walk test is reported, first of its event (log 7). -/
theorem State.endWalk_reports {s : State} (h : s.fl.walkActive = true) (w : WalkEnd) :
    Reports s .walkEnd w.code (bitsToNat s.fl.tested) (s.endWalk w) := by
  rw [State.endWalk, if_pos h]
  exact .refl _

/-- A walk test that its owner ends stays ended as the event settles, and the report of its end stays the first. -/
theorem settle_endWalk {s t : State} (active : s.fl.walkActive = true) (w : WalkEnd)
    (ht : t = settle s (s.endWalk w) none []) :
    Consequent s t ∧ t.fl.walkActive = false ∧ t.fl.walkTimer = none ∧ t.fl.tested = List.replicate 16 false ∧
      t.fl.lastRecorded = List.replicate 16 none ∧ Reports s .walkEnd w.code (bitsToNat s.fl.tested) t := by
  obtain ⟨slots, points⟩ : (s.endWalk w).nt.slots = s.nt.slots ∧ (s.endWalk w).fireLevels = s.fireLevels := by
    obtain ⟨_, _, _, _, _, h⟩ := s.endWalk_changes w
    rw [h]
    exact ⟨rfl, rfl⟩
  have kept := settle_keeps_walk slots points none []
  have follows := settle_consequent s (s.endWalk w) none []
  have reports := settle_extends s (s.endWalk w) none []
  rw [← ht] at kept follows reports
  obtain ⟨activity, timer, tested, recorded⟩ := kept
  obtain ⟨ended, stopped, emptied, absent⟩ := State.endWalk_active active w
  exact ⟨(s.endWalk_consequent w).trans follows, activity.trans ended, timer.trans stopped, tested.trans emptied,
    recorded.trans absent, (State.endWalk_reports active w).trans reports⟩

/-- R38: what WALK_STOP asks for. -/
theorem exec_walkStop (s : State) :
    exec .walkStop s = s.request .change fun u => (settle u (u.endWalk .host) none [], .ok) := rfl

theorem exec_walkStop_running {s : State} (l : s.listens = true) (run : s.running = true) :
    exec .walkStop s = .next ((settle s (s.endWalk .host) none []).respond .ok) := by
  rw [exec_walkStop, State.request_taken l (State.portBar_change run)]

/-- Settles O21: before RUN, with no walk test active, and with one active. -/
theorem walkStopEndsWalkTest : Obligations.WalkStopEndsWalkTest := by
  refine fun s l => ⟨fun early => ?_, fun run idle => ?_, fun run active => ?_⟩
  · rw [exec_walkStop, State.request_barred l (State.portBar_before_run early)]
  · rw [exec_walkStop_running l run, State.endWalk_inactive idle, settle_self]
  · have ends := fun t => settle_endWalk active .host (t := t)
    have done := exec_walkStop_running l run
    generalize settle s (s.endWalk .host) none [] = t at ends done
    obtain ⟨consequent, rest⟩ := ends t rfl
    exact ⟨_, done, consequent.respond .ok, rest⟩

end Sys2Proof.Machine
end

/-! ## FIRE latches (R30) -/

section
namespace Sys2Proof.Machine

/-- What R30 latches: the gallery fire state, and the record of what caused it. -/
def State.latched (s : State) : FireState × CauseRecord := (s.fl.gallery, s.fl.cause)

theorem State.latched_of_fl {s t : State} (h : t.fl = s.fl) : t.latched = s.latched :=
  congrArg (fun fl : FireLogic => (fl.gallery, fl.cause)) h

theorem State.latched_of_fireView {s t : State} (h : t.fireView = s.fireView) : t.latched = s.latched :=
  State.latched_of_fl (State.fl_of_fireView h)

theorem State.fire_of_latched {s t : State} (h : t.latched = s.latched) (fire : s.fl.gallery = .fire) :
    t.fl.gallery = .fire :=
  (congrArg Prod.fst h).trans fire

/-! ### The fire logic's own operations -/

/-- R30: in FIRE an evaluation changes nothing. -/
theorem State.evaluate_fire {s : State} (fire : s.fl.gallery = .fire) (delayOut : Bool) : s.evaluate delayOut = s :=
  if_pos fire

theorem State.endWalk_latched (s : State) (w : WalkEnd) : (s.endWalk w).latched = s.latched := by
  obtain ⟨_, _, _, _, _, h⟩ := s.endWalk_changes w
  rw [h]
  rfl

theorem walkFollow_latched (old s : State) : (walkFollow old s).latched = s.latched := by
  obtain ⟨_, _, _, _, _, h⟩ := walkFollow_changes old s
  rw [h]
  rfl

theorem fireFollow_latched (old : State) {s : State} (fire : s.fl.gallery = .fire) :
    (fireFollow old s).latched = s.latched := by
  have walk := walkFollow_latched old s
  unfold fireFollow
  dsimp only
  split
  · rw [State.evaluate_fire (State.fire_of_latched walk fire), walk]
  · exact walk

theorem settle_latched (old : State) {s : State} (fire : s.fl.gallery = .fire) (peer : Option Nat) (pressed : List Nat) :
    (settle old s peer pressed).latched = s.latched :=
  (State.latched_of_fl (settle_fl old s peer pressed)).trans (fireFollow_latched old fire)

/-! ### Events and requests -/

theorem AtEvent.fl {s u : State} (h : AtEvent s u) : u.fl = s.fl := State.fl_of_fireView h.fireView

theorem AtEvent.activeFirePoint {s u : State} (h : AtEvent s u) : u.activeFirePoint = s.activeFirePoint := by
  obtain ⟨_, _, _, _, rfl⟩ := h
  rfl

/-- In FIRE an event keeps what is latched where its owner does. -/
theorem Event.latched {f : State → State} {s t : State} (h : Event f s t) (fire : s.fl.gallery = .fire)
    (k : ∀ u, AtEvent s u → (f u).latched = u.latched) : t.latched = s.latched := by
  cases h with
  | still m => exact State.latched_of_fl m.fl
  | @acts u peer pressed m ht =>
    have owner := (k u m).trans (State.latched_of_fl m.fl)
    rw [ht, settle_latched u (State.fire_of_latched owner fire), owner]

theorem request_latched {s t : State} {k : RequestClass} {f : State → State × Response} (h : s.request k f = .next t)
    (keep : (f s).1.latched = s.latched) : t.latched = s.latched := by
  rcases State.request_cases h with rfl | ⟨r, rfl⟩ | ⟨-, rfl⟩
  · rfl
  · rfl
  · exact keep

/-- In FIRE an accepted change keeps what is latched where its owner does. -/
theorem State.accept_latched {s : State} (fire : s.fl.gallery = .fire) {f : State → State}
    (k : (f s).latched = s.latched) : (s.accept f).1.latched = s.latched := by
  unfold State.accept
  dsimp only
  rw [settle_latched s (State.fire_of_latched k fire), k]

/-! ### The owners -/

theorem State.completeBurst_latched (s : State) (c : Nat) : (s.completeBurst c).latched = s.latched := by
  unfold State.completeBurst
  split
  · rfl
  · exact s.endWalk_latched .secondAlarm

theorem State.takeSampleEvent_latched (s : State) (c : Nat) (before : Bool) (e : SampleEvent) :
    (s.takeSampleEvent c before e).latched = s.latched := by
  cases e with
  | nothing =>
    obtain ⟨_, h⟩ := State.reportIf_changes s ((s.channel c).driftLimit && !before) .driftLimit c 1
    rw [State.takeSampleEvent, h]
    rfl
  | faulted cls => rfl
  | faultInAlarm cls => rfl
  | recovered => rfl
  | burst => exact s.completeBurst_latched c

theorem State.stepDrifts_latched (s : State) (n : Nat) : (s.forEach n stepDrift).startDrift.latched = s.latched := by
  obtain ⟨_, h⟩ := forEach_stepDrift_changes s n
  rw [h]
  rfl

theorem State.confirmExpire_latched {s : State} (fire : s.fl.gallery = .fire) : s.confirmExpire.latched = s.latched := by
  rw [State.confirmExpire, State.evaluate_fire (s := s.setFl { s.fl with confirm := none }) fire]
  rfl

theorem State.takeState_latched (s : State) (src : Nat) (p : StatePayload) :
    ((s.takeState src p).adopt src p).latched = s.latched := by
  obtain ⟨_, _, h⟩ := s.takeState_changes src p
  obtain ⟨_, _, _, _, h'⟩ := (s.takeState src p).adopt_changes src p
  rw [h', h]
  rfl

theorem State.press_latched (s : State) (src : Nat) (k : CallKind) (b : Nat) : (s.press src k b).latched = s.latched := by
  obtain ⟨_, _, _, h⟩ := s.press_changes src k b
  rw [h]
  rfl

theorem State.pressEvent_latched {s t : State} {p : Nat} (fire : s.fl.gallery = .fire) (h : s.pressEvent p = .next t) :
    t.latched = s.latched :=
  (State.pressEvent_cases h).latched fire fun u _ => (u.qualifyPoint p true).press_latched _ _ _

theorem State.isolateChannel_latched (s : State) (c : Nat) : (s.isolateChannel c).latched = s.latched := by
  obtain ⟨_, h⟩ := State.reportIf_changes (s.setChannel c (s.channel c).isolate) (s.channel c).driftLimit .driftLimit c 0
  rw [State.isolateChannel, h]
  rfl

/-- R32: with a FIRE-kind point active a fire reset is refused, and a refused one leaves the latch. -/
theorem State.decideReset_latched {s : State} {p : Nat} (active : s.activeFirePoint = some p) (source target : Nat)
    (clears : Bool) : (s.decideReset source target clears).latched = s.latched := by
  rw [State.decideReset, active]
  rfl

/-! ### Every command -/

/-- A command of the start group other than a restart, with no RESTART decoded, leaves an awake node awake (R169, R177, R179). -/
theorem exec_start_awake {c : Instr} {s t : State} (g : commandGroup c = .start) (a : s.awake = true)
    (h : exec c s = .next t) (reset : c ∉ [Instr.powerUp, .resetPin, .resetPinAsserted])
    (port : c ∈ [Instr.transactionEnd, .transactionBegin] → s.ap.port ≠ .restartDecoded) : t.awake = true := by
  have rise (undecoded : s.ap.port ≠ .restartDecoded) : s.selectRise = s.setPort .high := if_neg undecoded
  cases c
  case configReadComplete bytes strap =>
    have left : ¬s.cl.phase = .loading := fun k => by simp [State.awake, k] at a
    have : s = t := by simpa [exec, execConfigReadComplete, left] using h
    exact this ▸ a
  case transactionEnd =>
    cases h
    rw [rise (port (by simp))]
    exact a
  case transactionBegin =>
    cases h
    rw [rise (port (by simp))]
    split <;> exact a
  case unknownRequest code len => cases h; split <;> exact a
  case restart => cases h; split <;> exact a
  case powerUp => simp at reset
  case resetPin => simp at reset
  case resetPinAsserted => simp at reset
  all_goals cases g

/-- What acts on nothing the fire logic reads keeps the latch, restarts apart. -/
theorem exec_apart_latched {c : Instr} {s t : State} (apart : actsOnFireView c = false) (a : s.awake = true)
    (h : exec c s = .next t) (reset : c ∉ [Instr.powerUp, .resetPin, .resetPinAsserted])
    (port : c ∈ [Instr.transactionEnd, .transactionBegin] → s.ap.port ≠ .restartDecoded) : t.latched = s.latched := by
  refine State.latched_of_fireView ?_
  by_cases start : commandGroup c = .start
  · exact exec_start_fireView start h a (exec_start_awake start a h reset port)
  · by_cases event : commandGroup c = .event
    · exact exec_event_fireView event apart h
    · exact exec_request_fireView start event apart h

/-- In FIRE, a command that acts on what the fire logic reads keeps the latch, an accepted fire reset apart. -/
theorem exec_acts_latched {c : Instr} {s t : State} (acts : actsOnFireView c ≠ false) (fire : s.fl.gallery = .fire)
    (h : exec c s = .next t)
    (refused : (c = .fireReset ∨ ∃ src target, c = .orderFireReset src target) → ∃ p, s.activeFirePoint = some p) :
    t.latched = s.latched := by
  cases c
  case listenTimerExpiry =>
    dsimp only [exec, execListenTimerExpiry] at h
    exact (State.expiry_cases h).latched fire fun u _ => rfl
  case sampleArrival c code odd =>
    dsimp only [exec, execSampleArrival] at h
    split at h
    · cases h; rfl
    · exact (State.eventAt_cases h).latched fire fun u _ => State.takeSampleEvent_latched _ _ _ _
  case driftTimerExpiry =>
    dsimp only [exec, execDriftTimerExpiry] at h
    exact (State.expiry_cases h).latched fire fun u _ => u.stepDrifts_latched 16
  case holdTimerExpiry c =>
    dsimp only [exec, execHoldTimerExpiry] at h
    exact (State.expiry_cases h).latched fire fun u _ => rfl
  case confirmDelayExpiry =>
    dsimp only [exec, execConfirmDelayExpiry] at h
    exact (State.expiry_cases h).latched fire fun u m => State.confirmExpire_latched (m.fl ▸ fire)
  case walkDurationExpiry =>
    dsimp only [exec, execWalkDurationExpiry] at h
    exact (State.expiry_cases h).latched fire fun u _ => u.endWalk_latched .time
  case stateArrival src p =>
    dsimp only [exec, execStateArrival] at h
    refine (State.arrival_cases h).latched fire fun u _ => ?_
    rcases State.hear_state src p u with e | e
    · exact e ▸ State.latched_of_fireView (u.noteDuplicate_fireView _)
    · exact e ▸ u.takeState_latched src.toNat p
  case orderFireReset src target =>
    dsimp only [exec, execOrderFireReset] at h
    obtain ⟨p, active⟩ := refused (.inr ⟨src, target, rfl⟩)
    refine (State.arrival_cases h).latched fire fun u m => ?_
    rcases State.hear_fireReset src target u with e | ⟨_, _, _, e⟩ | e
    · exact e ▸ State.latched_of_fireView (u.noteDuplicate_fireView _)
    · exact e ▸ State.decideReset_latched (m.activeFirePoint.trans active) _ _ _
    · exact congrArg State.latched e
  case freshnessDeadlineExpiry slot =>
    dsimp only [exec, execFreshnessDeadlineExpiry] at h
    exact (State.expiry_cases h).latched fire fun u _ => rfl
  case callPointPress p =>
    dsimp only [exec, execCallPointPress] at h
    split at h
    · cases h; rfl
    · exact State.pressEvent_latched fire h
  case firePointLevelChange p active =>
    dsimp only [exec, execFirePointLevelChange] at h
    split at h
    · cases h; rfl
    · split at h
      · exact State.pressEvent_latched fire h
      · exact (State.event_cases h).latched fire fun u _ => rfl
  case fireReset =>
    dsimp only [exec, execFireReset] at h
    obtain ⟨p, active⟩ := refused (.inl rfl)
    have owner := State.decideReset_latched active 0 s.nodeId false
    refine request_latched h ?_
    dsimp only
    rw [settle_latched s (State.fire_of_latched owner fire), owner]
  case isolate c =>
    dsimp only [exec, execIsolate] at h
    refine request_latched h ?_
    repeat' split
    · rfl
    · rfl
    · rfl
    · exact State.accept_latched fire (s.isolateChannel_latched c.toNat)
  case restore c =>
    dsimp only [exec, execRestore] at h
    refine request_latched h ?_
    repeat' split
    · rfl
    · rfl
    · exact State.accept_latched fire rfl
  case walkStart min =>
    dsimp only [exec, execWalkStart] at h
    refine request_latched h ?_
    repeat' split
    · rfl
    · rfl
    · rfl
    · rfl
    · exact State.accept_latched fire rfl
  case walkStop =>
    dsimp only [exec, execWalkStop] at h
    exact request_latched h (State.accept_latched fire (s.endWalk_latched .host))
  all_goals exact absurd rfl acts

/-- Settles O18, by the commands that act on what the fire logic reads and those that do not. -/
theorem fireLatches : Obligations.FireLatches := by
  intro c s t awake fire h reset port refused
  have latch : t.latched = s.latched := by
    by_cases apart : actsOnFireView c = false
    · exact exec_apart_latched apart awake h reset port
    · exact exec_acts_latched apart fire h refused
  exact ⟨State.fire_of_latched latch fire, congrArg Prod.snd latch⟩

end Sys2Proof.Machine
end

/-! ## Line faults (R47, R48) -/

section
namespace Sys2Proof.Machine

/-! ### Events of the line controller alone -/

/-- No other block reads the line controller; the fault members that it holds are the node-fault call's own affair (R118). -/
theorem SameInputs.of_line (s : State) (lc : LineController) (ap : AttendantPort) :
    SameInputs s { s with lc := lc, ap := ap } := ⟨rfl, rfl, rfl, rfl, rfl, rfl, rfl, rfl, rfl⟩

/-- A report offered after a change of the line controller leaves it an event of the line controller alone. -/
theorem SameInputs.of_line_report (s : State) (lc : LineController) (c : Bool) (k : ReportKind) (a b : Nat) :
    SameInputs s (State.reportIf { s with lc := lc } c k a b) := by
  obtain ⟨r, h⟩ := State.reportIf_changes { s with lc := lc } c k a b
  rw [h]
  exact .of_line s lc _

/-- Reports are no fault members (R173). -/
theorem State.hasFault_reportIf (s : State) (c : Bool) (k : ReportKind) (a b : Nat) :
    (s.reportIf c k a b).hasFault = s.hasFault := (s.reportIf_callConsequent c k a b).hasFault

/-- LINE_STUCK, LINE_NOISY and DUPLICATE_ID are fault members (R173). -/
theorem State.hasFault_of_line {s : State}
    (h : s.lc.lineStuck = true ∨ s.lc.lineNoisy = true ∨ s.lc.duplicateId = true) : s.hasFault = true := by
  unfold State.hasFault State.faultMembers
  rcases h with h | h | h <;> simp [h]

/-- With no line condition newly set no fault member comes up. -/
theorem State.hasFault_line_le {s : State} {lc : LineController} (stuck : lc.lineStuck = true → s.lc.lineStuck = true)
    (noisy : lc.lineNoisy = true → s.lc.lineNoisy = true) (collision : lc.collision = s.lc.collision)
    (duplicate : lc.duplicateId = s.lc.duplicateId) (h : ({ s with lc := lc } : State).hasFault = true) :
    s.hasFault = true := by
  simp only [State.hasFault, State.faultMembers, List.any_cons, List.any_nil, Bool.or_eq_true, collision, duplicate] at h ⊢
  exact h.imp id (.imp id (.imp id (.imp stuck (.imp noisy id))))

/-- A line condition reported where it was clear: beside it only the node-fault call can follow. -/
theorem settle_line_condition (s : State) (lc : LineController) (c : Bool) (k : ReportKind) (a b : Nat) :
    let u : State := { s with lc := lc }
    let t := settle s (u.reportIf c k a b) none []
    CallConsequent u t ∧ ReportsIf c u k a b t :=
  ⟨(State.reportIf_callConsequent _ c k a b).trans (settle_callConsequent (.of_line_report s lc c k a b)),
    settle_extends ..⟩

/-- Where no fault member comes up nothing follows. -/
theorem settle_line_idle {s : State} {lc : LineController} (fault : ({ s with lc := lc } : State).hasFault = true → s.hasFault = true)
    (c : Bool) (k : ReportKind) (a b : Nat) :
    settle s (State.reportIf { s with lc := lc } c k a b) none [] = State.reportIf { s with lc := lc } c k a b := by
  refine settle_idle (.of_line_report s lc c k a b) ?_ fun h => fault ?_
  · obtain ⟨r, hr⟩ := State.reportIf_changes { s with lc := lc } c k a b
    rw [hr]
  · rwa [State.hasFault_reportIf] at h

/-! ### The stuck line (R48) -/

theorem exec_stuckPeriodStart {s : State} (a : s.awake = true) :
    exec .stuckPeriodStart s = .next (settle s s.stuckBegin none []) := State.event_awake a _

theorem exec_stuckPeriodEnd {s : State} (a : s.awake = true) (stuck : s.lc.stuckPeriod = true) :
    exec .stuckPeriodEnd s = .next { s with
      lc := { s.lc with stuckPeriod := false, stuckClear := some (s.now + Config.second), deaf := none } } := by
  refine (State.own_awake a State.stuckEnd).trans ?_
  rw [State.stuckEnd, if_pos stuck]
  rfl

/-- LINE_STUCK goes, and brings up no fault member. -/
theorem settle_stuckExpire (s : State) : settle s s.stuckExpire none [] = s.stuckExpire :=
  settle_line_idle (lc := { s.lc with lineStuck := false, stuckClear := none })
    (State.hasFault_line_le (fun clear => absurd clear Bool.false_ne_true) id rfl rfl) s.lc.lineStuck .lineStuck noSubject 0

theorem exec_stuckClearTimerExpiry {s : State} (a : s.awake = true) {deadline : Nat} (h : s.lc.stuckClear = some deadline) :
    exec .stuckClearTimerExpiry s = .next (s.reach deadline).stuckExpire :=
  (State.expiry_running a h _).trans (congrArg _ (settle_stuckExpire _))

/-- Settles O27, by its three commands: the start is an event whose fault member alone can be followed, the other two are followed by nothing. -/
theorem stuckPeriods : Obligations.StuckPeriods := by
  intro s a
  refine ⟨?_, exec_stuckPeriodEnd a, fun deadline h => exec_stuckClearTimerExpiry a h⟩
  obtain ⟨consequent, reports⟩ := settle_line_condition s
    { s.lc with stuckPeriod := true, lineStuck := true, stuckClear := none } (!s.lc.lineStuck) .lineStuck noSubject 1
  exact ⟨_, exec_stuckPeriodStart a, consequent, reports, consequent.hasFault.trans (State.hasFault_of_line (.inl rfl))⟩

/-! ### The noise window (R47) -/

/-- The times of the window that are less than 60 s old. -/
def State.recentErrors (s : State) : List Nat := s.lc.noise.filter fun t => decide (s.now < t + 60 * Config.second)

/-- A check error finds the last of the window's times gone, and LINE_NOISY set. -/
def State.findsQuiet (s : State) : Bool := s.lc.lineNoisy && decide (s.recentErrors = []) && decide (s.lc.noise ≠ [])

/-- The window with a check error entered. -/
def State.noiseEntered (s : State) : List Nat :=
  (if s.recentErrors.length = 9 then s.recentErrors.tail else s.recentErrors) ++ [s.now]

/-- A check error has entered the window: LINE_NOISY is gone where the error found it so, and set where the window holds nine times. -/
def State.withCheckError (s : State) : State :=
  { s with lc := { s.lc with
    noise := s.noiseEntered
    lineNoisy := (s.lc.lineNoisy && !s.findsQuiet) || decide (s.noiseEntered.length = 9) } }

theorem State.findsQuiet_iff {s : State} :
    s.findsQuiet = true ↔ s.lc.lineNoisy = true ∧ s.recentErrors = [] ∧ s.lc.noise ≠ [] := by
  simp [State.findsQuiet, and_assoc]

/-- With the last time gone the window holds the new one alone. -/
theorem State.noiseEntered_quiet {s : State} (quiet : s.findsQuiet = true) : s.noiseEntered = [s.now] := by
  obtain ⟨-, gone, -⟩ := State.findsQuiet_iff.1 quiet
  simp [State.noiseEntered, gone]

theorem State.withCheckError_quiet {s : State} (quiet : s.findsQuiet = true) : s.withCheckError.lc.lineNoisy = false := by
  simp [State.withCheckError, quiet, State.noiseEntered_quiet quiet]

theorem State.recentErrors_length_le {s : State} (h : s.Bounded) : s.recentErrors.length ≤ 9 :=
  (List.length_filter_le ..).trans h.noise

theorem pushNoise_eq {window : List Nat} (h : window.length ≤ 9) (t : Nat) :
    pushNoise window t = (if window.length = 9 then window.tail else window) ++ [t] := by
  unfold pushNoise
  split
  · rw [if_neg (by omega)]
  · have full : window.length = 9 := by omega
    rw [if_pos full, full, ← List.drop_one, List.drop_append_of_le_length (by omega)]

theorem State.dropAged_eq (s : State) :
    s.dropAged = State.reportIf
      { s with lc := { s.lc with noise := s.recentErrors, lineNoisy := s.lc.lineNoisy && !s.findsQuiet } }
      s.findsQuiet .lineNoisy noSubject 0 := by
  have quiet : (s.lc.lineNoisy && s.recentErrors.isEmpty && !s.lc.noise.isEmpty) = s.findsQuiet := by
    unfold State.findsQuiet
    cases s.recentErrors <;> cases s.lc.noise <;> rfl
  rw [← quiet]
  rfl

/-- A check error that finds LINE_NOISY gone reports its clearing, and sets nothing. -/
theorem State.noteCheckError_quiet {s : State} (quiet : s.findsQuiet = true) :
    s.noteCheckError = s.withCheckError.report .lineNoisy noSubject 0 := by
  obtain ⟨noisy, gone, -⟩ := State.findsQuiet_iff.1 quiet
  rw [State.noteCheckError, State.dropAged_eq, State.withCheckError, State.noiseEntered_quiet quiet, quiet, noisy, gone]
  rfl

/-- Any other reports LINE_NOISY where it sets it. -/
theorem State.noteCheckError_entered {s : State} (h : s.Bounded) (quiet : s.findsQuiet = false) :
    s.noteCheckError =
      s.withCheckError.reportIf (decide (s.noiseEntered.length = 9) && !s.lc.lineNoisy) .lineNoisy noSubject 1 := by
  have entered : pushNoise s.recentErrors s.now = s.noiseEntered := pushNoise_eq (State.recentErrors_length_le h) _
  rw [State.noteCheckError, State.dropAged_eq, State.withCheckError, quiet]
  simp only [State.reportIf, Bool.false_eq_true, if_false, Bool.not_false, Bool.and_true, entered]
  rfl

theorem exec_checkError {s : State} (a : s.awake = true) (r : s.receives = true) (why : CheckErrorCause) :
    exec (.checkError why) s = .next (settle s s.noteCheckError none []) :=
  State.reception_received a r errorSpan fun s => settle s s.noteCheckError none []

theorem State.ageNoise_eq {s : State} {first : Nat} {rest : List Nat} (h : s.lc.noise = first :: rest) :
    s.ageNoise = State.reportIf
      { s with lc := { s.lc with noise := rest, lineNoisy := s.lc.lineNoisy && decide (rest ≠ []) } }
      (s.lc.lineNoisy && decide (rest = [])) .lineNoisy noSubject 0 := by
  have empty : rest.isEmpty = decide (rest = []) := by cases rest <;> rfl
  simp [State.ageNoise, h, empty]
  rfl

/-- LINE_NOISY goes with the last of the window's times, and brings up no fault member. -/
theorem settle_ageNoise {s : State} {first : Nat} {rest : List Nat} (h : s.lc.noise = first :: rest) :
    settle s s.ageNoise none [] = s.ageNoise := by
  rw [State.ageNoise_eq h]
  exact settle_line_idle (lc := { s.lc with noise := rest, lineNoisy := s.lc.lineNoisy && decide (rest ≠ []) })
    (State.hasFault_line_le id (fun noisy => (Bool.and_eq_true_iff.mp noisy).1) rfl rfl) _ _ _ _

theorem State.noiseDeadline_cons {s : State} {first : Nat} {rest : List Nat} (h : s.lc.noise = first :: rest) :
    s.noiseDeadline = some (first + 60 * Config.second) := by simp [State.noiseDeadline, h]

theorem exec_noiseWindowAgeOut {s : State} (a : s.awake = true) {first : Nat} {rest : List Nat} (h : s.lc.noise = first :: rest) :
    exec .noiseWindowAgeOut s = .next (s.reach (first + 60 * Config.second)).ageNoise := by
  show execNoiseWindowAgeOut s = _
  rw [execNoiseWindowAgeOut, State.expiry_running a (State.noiseDeadline_cons h), settle_ageNoise (s := s.reach _) h]

/-- A check error with its consequences, where it does not find LINE_NOISY gone. -/
theorem settle_checkError_entered {s : State} (h : s.Bounded) (quiet : s.findsQuiet = false) :
    CallConsequent s.withCheckError (settle s s.noteCheckError none []) ∧
      ReportsIf (decide (s.noiseEntered.length = 9) && !s.lc.lineNoisy) s.withCheckError .lineNoisy noSubject 1
        (settle s s.noteCheckError none []) := by
  rw [State.noteCheckError_entered h quiet]
  exact settle_line_condition s s.withCheckError.lc _ _ _ _

/-- Where it does, LINE_NOISY was the fault member that keeps another from being the first. -/
theorem settle_checkError_quiet {s : State} (quiet : s.findsQuiet = true) :
    settle s s.noteCheckError none [] = s.withCheckError.report .lineNoisy noSubject 0 := by
  have member : s.hasFault = true := State.hasFault_of_line (.inr (.inl (State.findsQuiet_iff.1 quiet).1))
  rw [State.noteCheckError_quiet quiet]
  exact settle_line_idle (s := s) (lc := s.withCheckError.lc) (fun _ => member) true .lineNoisy noSubject 0

/-- Settles O28: a check error by whether it finds the last of the window's times gone, and the window's age-out. -/
theorem noiseWindow : Obligations.NoiseWindow := by
  intro s why a bounded
  refine ⟨?_, fun first rest h => ?_⟩
  · intro kept quiet window u received
    refine ⟨_, exec_checkError a received why, ?_⟩
    cases finds : s.findsQuiet
    · obtain ⟨consequent, reports⟩ := settle_checkError_entered bounded finds
      exact ⟨consequent, fun _ => reports, fun found => absurd (finds.symm.trans found) nofun⟩
    · rw [settle_checkError_quiet finds]
      exact ⟨State.report_callConsequent s.withCheckError .lineNoisy noSubject 0,
        fun still => absurd (finds.symm.trans still) nofun, fun _ => ⟨State.withCheckError_quiet finds, rfl⟩⟩
  · rw [exec_noiseWindowAgeOut a h, State.ageNoise_eq (s := s.reach _) h]
    rfl

end Sys2Proof.Machine
end

/-! ## Telegrams that are not dispatched (R41, R44, R46, R51, R53, R61) -/

section
namespace Sys2Proof

/-! ### Malformed telegrams (R44) -/

theorem wfSource_bad {src : BitVec 6} (h : src = 0 ∨ src = 63) : wfSource src = false := by
  rcases h with rfl | rfl <;> rfl

theorem StatePayload.malformed {p : StatePayload} (h : p.h.toNat = 0 ∨ 8 < p.h.toNat) : p.wf = false := by
  rcases h with h | h <;> simp [StatePayload.wf, h]

theorem CallPayload.malformed {p : CallPayload}
    (h : 16 < p.source.toNat ∨ 5 < p.kind.toNat ∨ p.taker = 63 ∨ (p.taken = true ∧ p.taker = 0) ∨
      (p.taken = false ∧ p.taker ≠ 0)) : p.wf = false := by
  rcases h with h | h | h | ⟨taken, h⟩ | ⟨taken, h⟩ <;> simp_all [CallPayload.wf]

theorem RefPayload.malformed {p : RefPayload}
    (h : p.origin = 0 ∨ 62 < p.origin.toNat ∨ 16 < p.source.toNat ∨ 15 < p.serial.toNat) : p.wf = false := by
  rcases h with h | h | h | h <;> simp [RefPayload.wf, h]

theorem ClearPayload.malformed {p : ClearPayload}
    (h : p.origin = 0 ∨ 62 < p.origin.toNat ∨ 16 < p.source.toNat ∨ 15 < p.serial.toNat ∨ 62 < p.clearedBy.toNat) :
    p.wf = false := by
  rcases h with h | h | h | h | h <;> simp [ClearPayload.wf, h]

theorem OrderPayload.malformed {p : OrderPayload}
    (h : p.target = 0 ∨ 63 < p.target.toNat ∨ (p.code = 6 ∧ 7 < p.door.toNat)) : p.wf = false := by
  rcases h with h | h | ⟨code, h⟩ <;> simp [OrderPayload.wf, *]

/-- The target of an ORDER is 1..63; its door byte is read for DOOR_PULSE alone. -/
theorem OrderPayload.wf_of {code target door : Byte} (known : code.toNat ≤ 6) (low : 1 ≤ target.toNat)
    (high : target.toNat ≤ 63) (pulse : door.toNat ≤ 7) : OrderPayload.wf ⟨code, target, door⟩ = true := by
  simp [OrderPayload.wf, *]

end Sys2Proof
end

section
namespace Sys2Proof.Machine

open Laws.Shape (brings)

/-! ### The end of a telegram, in the row of its own kind or of another -/

/-- Command `c` is the end of a telegram of `span.fewest` to `span.most` bits: what it does is what the telegram brings where it is received. -/
def EndsTelegram (c : Instr) (span : Span) : Prop :=
  span.fewest ≤ span.most ∧ ∃ brought, ∀ s : State, exec c s = s.reception span brought

/-- What a command that brings a telegram does is what an arrival does, whatever its row. -/
theorem exec_of_brings {c : Instr} {src : BitVec 6} {body : Payload} (h : brings c = some (src, body)) (s : State) :
    exec c s = s.arrival src body := by
  cases c <;> cases h <;> rfl

theorem EndsTelegram.of_brings {c : Instr} {src : BitVec 6} {body : Payload} {span : Span} (h : brings c = some (src, body))
    (bits : telegramSpan body.length = span) : EndsTelegram c span := bits ▸ ⟨telegramSpan_le _, _, exec_of_brings h⟩

theorem EndsTelegram.checkError (why : CheckErrorCause) : EndsTelegram (.checkError why) errorSpan :=
  ⟨by decide, fun s => settle s s.noteCheckError none [], fun _ => rfl⟩

theorem EndsTelegram.telegramDiscarded (what : DiscardCause) : EndsTelegram (.telegramDiscarded what) discardSpan :=
  ⟨by decide, id, fun _ => rfl⟩

/-- A CLEAR has four bytes, any other telegram three (Table 3-1). -/
theorem telegramSpan_kind (kind : TelegramKind) :
    telegramSpan kind.length =
      ⟨(if kind = .clear then (69, 85) else (61, 75)).1, (if kind = .clear then (69, 85) else (61, 75)).2⟩ := by
  cases kind <;> rfl

theorem EndsTelegram.duplicateId (kind : TelegramKind) : EndsTelegram (.duplicateId kind) (telegramSpan kind.length) :=
  ⟨telegramSpan_le _, fun s => if s.nodeId = 0 then s else settle s (s.noteDuplicate kind.code) none [], fun _ => rfl⟩

/-- R46: no telegram is received while the node sends one. -/
theorem EndsTelegram.sending {c : Instr} {span : Span} (e : EndsTelegram c span) {s : State} (h : s.lc.sending ≠ none) :
    exec c s = .next s := by
  obtain ⟨-, brought, hc⟩ := e
  rw [hc, State.reception_sending h]

/-- R41, R51, R61: the clock at a telegram's end says at a deaf node whether it is received, between the bounds a free value does. -/
theorem EndsTelegram.deaf {c : Instr} {span : Span} (e : EndsTelegram c span) {s : State} {hears : Nat} (a : s.awake = true)
    (n : s.lc.sending = none) (d : s.lc.deaf = some hears) :
    let idle : State := { s with lc := { s.lc with deaf := none } }
    let chosen : State := { idle with freeCount := s.freeCount + 1 }
    (s.now < hears → exec c s = .next s) ∧
      (hears ≤ s.now → s.now < hears + span.fewest * Config.bitTime → exec c s = .next idle) ∧
      (hears + span.fewest * Config.bitTime ≤ s.now → s.now < hears + span.most * Config.bitTime →
        exec c s = if Config.freeIdle s.freeCount = true then exec c chosen else .next chosen) ∧
      (hears + span.most * Config.bitTime ≤ s.now → exec c s = exec c idle) := by
  obtain ⟨le, brought, hc⟩ := e
  intro idle chosen
  refine ⟨fun early => ?_, fun past before => ?_, fun since before => ?_, fun late => ?_⟩
  · rw [hc, State.reception_early a n d le (by omega), State.idle_early d early]
  · rw [hc, State.reception_early a n d le before, State.idle_past d past]
  · rw [hc, State.reception_between a n d since before, State.idleChosen_past d (by omega), hc]
  · rw [hc, State.reception_late a n d late, State.idle_past d (by omega), hc]

/-! ### Telegrams with the node's own id (R53) -/

/-- Command `c` sets DUPLICATE_ID, reported with the node's id and the kind of telegram where it was clear; only the node-fault call follows. -/
def NotesDuplicate (s : State) (c : Instr) (kindCode : Nat) : Prop :=
  let u : State := { s with lc := { s.lc with duplicateId := true } }
  Completes c s fun t =>
    CallConsequent u t ∧ ReportsIf (!s.lc.duplicateId) u .duplicateId s.nodeId kindCode t ∧ t.hasFault = true

theorem NotesDuplicate.of_exec {s : State} {c : Instr} {kindCode : Nat}
    (h : exec c s = .next (settle s (s.noteDuplicate kindCode) none [])) : NotesDuplicate s c kindCode := by
  obtain ⟨consequent, reports⟩ := settle_line_condition s { s.lc with duplicateId := true } (!s.lc.duplicateId) .duplicateId
    s.nodeId kindCode
  exact ⟨_, h, consequent, reports, consequent.hasFault.trans (State.hasFault_of_line (.inr (.inr rfl)))⟩

/-- The row of a duplicate's own; a node with id 0 has none. -/
theorem exec_duplicateId {s : State} (a : s.awake = true) (r : s.receives = true) (kind : TelegramKind) :
    exec (.duplicateId kind) s =
      .next (if s.nodeId = 0 then s else settle s (s.noteDuplicate kind.code) none []) :=
  State.reception_received a r (telegramSpan kind.length) fun s =>
    if s.nodeId = 0 then s else settle s (s.noteDuplicate kind.code) none []

/-- A well-formed arrival with the node's own id is a duplicate, whatever its kind. -/
theorem NotesDuplicate.of_brings {s : State} (a : s.awake = true) (r : s.receives = true) {c : Instr} {src : BitVec 6}
    {body : Payload} {kindCode : Nat} (source : wfSource src = true) (own : src.toNat = s.nodeId)
    (h : brings c = some (src, body)) (w : body.wf = true) (kind : body.kindCode = kindCode) : NotesDuplicate s c kindCode :=
  .of_exec (kind ▸ (exec_of_brings h s).trans (State.arrival_duplicate a r (by rw [source, w]; rfl) own))

/-- At a node that is not deaf a malformed arrival changes nothing, whatever its kind. -/
theorem exec_malformed {s : State} (d : s.lc.deaf = none) {c : Instr} {src : BitVec 6} {body : Payload}
    (h : brings c = some (src, body)) (bad : (src = 0 ∨ src = 63) ∨ body.wf = false) : exec c s = .next s := by
  refine (exec_of_brings h s).trans (State.arrival_malformed d ?_)
  rcases bad with source | payload
  · rw [wfSource_bad source, Bool.false_and]
  · rw [payload, Bool.and_false]

/-- Settles O29: every row is the end of a telegram (`EndsTelegram`); an arrival of any kind with the node's own id is a duplicate, and a
malformed one of any kind nothing. -/
theorem telegramsNotDispatched : Obligations.TelegramsNotDispatched := by
  refine ⟨fun s kind why what src st ca cl re target door => ⟨s.receives_iff, fun row mem => ?_⟩,
    fun s kind src st ca cl re target door a r => ⟨fun unnamed => ?_, fun named => ?_, fun source own => ?_⟩,
    fun s why src st ca cl re target door d => ?_⟩
  · suffices ends : EndsTelegram row.1 ⟨row.2.1, row.2.2⟩ from ⟨ends.sending, fun _ a n d => ends.deaf a n d⟩
    revert row
    simp only [List.forall_mem_cons]
    have three {c : Instr} {body : Payload} (h : brings c = some (src, body)) (bytes : body.length = 3) :
        EndsTelegram c ⟨61, 75⟩ := .of_brings h (bytes ▸ telegramSpan_three)
    have clear {c : Instr} (h : brings c = some (src, .clear cl)) : EndsTelegram c ⟨69, 85⟩ := .of_brings h telegramSpan_four
    exact ⟨.checkError why, .telegramDiscarded what, telegramSpan_kind kind ▸ .duplicateId kind, clear rfl, clear rfl,
      three rfl rfl, three rfl rfl, three rfl rfl, three rfl rfl, three rfl rfl, three rfl rfl, three rfl rfl, three rfl rfl,
      three rfl rfl, three rfl rfl, three rfl rfl, nofun⟩
  · rw [exec_duplicateId a r, if_pos unnamed]
  · exact NotesDuplicate.of_exec (by rw [exec_duplicateId a r, if_neg named])
  · have noted {c : Instr} {body : Payload} {kindCode : Nat} (h : brings c = some (src, body)) (w : body.wf = true)
        (kind : body.kindCode = kindCode) : NotesDuplicate s c kindCode := .of_brings a r source own h w kind
    refine ⟨fun w => noted rfl w rfl, fun w => noted rfl w rfl, fun w => ⟨noted rfl w rfl, noted rfl w rfl⟩,
      fun w => ⟨noted rfl w rfl, noted rfl w rfl⟩, fun low high => ?_⟩
    have order {c : Instr} {code : Byte} (h : brings c = some (src, .order ⟨code, target, 0⟩)) (known : code.toNat ≤ 6) :
        NotesDuplicate s c 6 := noted h (OrderPayload.wf_of known low high (by decide)) rfl
    exact ⟨order rfl (by decide), order rfl (by decide), order rfl (by decide), order rfl (by decide), order rfl (by decide),
      order rfl (by decide), fun pulse => noted rfl (OrderPayload.wf_of (by decide) low high pulse) rfl⟩
  · have ignored {c : Instr} {body : Payload} (h : brings c = some (src, body)) (bad : (src = 0 ∨ src = 63) ∨ body.wf = false) :
        exec c s = .next s := exec_malformed d h bad
    have order {c : Instr} {code : Byte} (h : brings c = some (src, .order ⟨code, target, 0⟩))
        (bad : (src = 0 ∨ src = 63) ∨ target = 0 ∨ 63 < target.toNat) : exec c s = .next s :=
      ignored h (bad.imp_right fun t => OrderPayload.malformed (t.imp_right .inl))
    exact ⟨State.reception_nothing d rfl, fun h => ignored rfl (h.imp_right StatePayload.malformed),
      fun h => ignored rfl (h.imp_right CallPayload.malformed),
      fun h => ⟨ignored rfl (h.imp_right ClearPayload.malformed), ignored rfl (h.imp_right ClearPayload.malformed)⟩,
      fun h => ⟨ignored rfl (h.imp_right RefPayload.malformed), ignored rfl (h.imp_right RefPayload.malformed)⟩,
      fun h => ⟨order rfl h, order rfl h, order rfl h, order rfl h, order rfl h, order rfl h⟩,
      fun h => ignored rfl (h.imp_right fun p =>
        OrderPayload.malformed (p.imp_right (.imp_right fun door => ⟨rfl, door⟩)))⟩

end Sys2Proof.Machine
end

/-! ## The neighbour table (R65) -/

section
namespace Sys2Proof.Machine

/-! ### A slot that falls silent -/

/-- A used slot that is SILENT is a fault member (R173). -/
theorem State.hasFault_of_silent {s : State} {k : Slot} (m : k ∈ s.nt.slots) (silent : k.silent = true) :
    s.hasFault = true := by
  have member : s.nt.slots.any (·.silent) = true := List.any_eq_true.2 ⟨k, m, silent⟩
  simp [State.hasFault, State.faultMembers, member]

/-- The deadline's expiry makes SILENT every slot that is used, whatever it was before. -/
theorem Slot.fallSilent_silent {k : Slot} (used : k.id ≠ 0) : k.fallSilent.silent = true := by
  simp [Slot.silent, Slot.used, Slot.fallSilent, used]

/-- Losing a slot puts its silent record in its place. -/
theorem State.fallSilent_mem_loseSlot {s : State} {k : Nat} (h : k < s.nt.slots.length) :
    (s.slot k).fallSilent ∈ (s.loseSlot k).nt.slots := List.mem_set h _

/-- Beyond the slot's record, losing it only offers a report. -/
theorem State.loseSlot_consequent (s : State) (k : Nat) :
    Consequent (s.setSlot k (s.slot k).fallSilent) (s.loseSlot k) :=
  ((s.setSlot k (s.slot k).fallSilent).report_callConsequent _ _ _).consequent

/-! ### FRESHNESS_DEADLINE_EXPIRY -/

theorem exec_freshnessDeadlineExpiry {s : State} {k : Fin 8} {deadline : Nat} (a : s.awake = true)
    (h : (s.slot k).deadline = some deadline) :
    exec (.freshnessDeadlineExpiry k) s =
      .next (settle (s.reach deadline) ((s.reach deadline).loseSlot k) none []) :=
  State.expiry_running a h _

/-- Settles O32: at the deadline the slot is lost and reported, and what follows keeps the table and adds only to the reports. -/
theorem slotFallsSilent : Obligations.SlotFallsSilent := by
  intro s k deadline a shaped running u
  let lost : State := (s.reach deadline).loseSlot k
  have consequent : Consequent u lost := (s.reach deadline).loseSlot_consequent k
  refine ⟨_, exec_freshnessDeadlineExpiry a running, consequent.trans (settle_consequent ..),
    settle_extends _ lost none [], fun used => ?_⟩
  have place : (k : Nat) < s.nt.slots.length := by rw [shaped.slots]; exact k.isLt
  refine State.hasFault_of_silent (k := (s.slot k).fallSilent) ?_ (Slot.fallSilent_silent used)
  rw [(settle_keeps_table ..).1]
  exact State.fallSilent_mem_loseSlot (s := s.reach deadline) place

end Sys2Proof.Machine
end

/-! ## Requests of a station at the origin (R122, R123) -/

section
namespace Sys2Proof.Machine

/-! ### What follows a change of the calls -/

theorem CallConsequent.sameInputs {s t : State} (h : CallConsequent s t) : SameInputs s t := by
  obtain ⟨_, _, _, _, _, rfl⟩ := h
  exact ⟨rfl, rfl, rfl, rfl, rfl, rfl, rfl, rfl, rfl⟩

/-- Calls, offers and reports are read by no other block: an event that changes these alone is followed by nothing. -/
theorem CallConsequent.settle_eq {s t : State} (h : CallConsequent s t) : settle s t none [] = t := by
  refine settle_idle h.sameInputs ?_ fun fault => h.hasFault ▸ fault
  obtain ⟨_, _, _, _, _, rfl⟩ := h
  rfl

theorem CallConsequent.report {s t : State} (h : CallConsequent s t) (k : ReportKind) (a b : Nat) :
    CallConsequent s (t.report k a b) := h.trans (t.report_callConsequent k a b)

theorem State.offer_callConsequent (s : State) (body : Payload) (cls : Nat) : CallConsequent s (s.offer body cls).1 := by
  obtain ⟨x, last, h⟩ := s.offer_line body cls
  refine ⟨s.cc.calls, s.cc.serials, x, last, [], ?_⟩
  rw [← h]
  rfl

theorem State.announced_callConsequent (s : State) (src : Nat) (c : Call) : CallConsequent s (s.announced src c) := by
  obtain ⟨x, last, h⟩ := s.offer_line (.call (c.payload src)) 1
  refine ⟨(s.announced src c).cc.calls, s.cc.serials, x, last, [], ?_⟩
  rw [← h]
  rfl

/-! ### A call announced (R119) -/

theorem State.setCall_call {s : State} {src : Nat} (h : src < s.cc.calls.length) (v : Option Call) :
    (s.setCall src v).call src = v := by
  show (s.cc.calls.set src v).getD src none = v
  rw [getD_set, if_pos ⟨rfl, h⟩]

theorem State.announce_present {s : State} {src : Nat} {c : Call} (h : s.call src = some c) :
    s.announce src = s.announced src c := by
  rw [State.announce, h]
  rfl

/-- A call that takes the place of another is announced as it then stands. -/
theorem State.announce_setCall {s : State} {src : Nat} (h : src < s.cc.calls.length) (c : Call) :
    (s.setCall src (some c)).announce src = s.announced src c := by
  rw [State.announce_present (State.setCall_call h _)]
  simp only [State.announced, State.setCall, State.setCc, List.set_set]
  rfl

/-! ### A TAKE and a GIVEUP decided (R122, R123) -/

/-- The call as its TAKE by station `sender` leaves it (R122). -/
def State.takenCall (s : State) (sender : Nat) (c : Call) : Call :=
  { c with
    taker := sender
    overdue := false
    unanswered := none
    attend := some (s.now + s.cl.node.tatt * (60 * Config.second)) }

/-- The call as a GIVEUP of its taker leaves it (R123). -/
def State.givenUpCall (s : State) (c : Call) : Call :=
  { c with
    taker := 0
    reminder := false
    attend := none
    unanswered := some (s.now + s.cl.node.tesc * Config.second) }

section
variable {s : State} {src serial : Nat} (sender : Nat)

theorem State.decideTake_missing (h : s.call src = none) : s.decideTake sender src serial = s.offerClear src serial 0 := by
  rw [State.decideTake, h]

theorem State.decideTake_pending (inside : src < s.cc.calls.length) {c : Call} (h : s.call src = some c)
    (named : c.serial = serial) (pending : c.taker = 0) :
    s.decideTake sender src serial = (s.announced src (s.takenCall sender c)).report .callTaken src sender := by
  rw [← State.announce_setCall inside, State.decideTake, h]
  exact if_pos ⟨named, pending⟩

theorem State.decideTake_other {c : Call} (h : s.call src = some c) (other : c.serial ≠ serial ∨ c.taker ≠ 0) :
    s.decideTake sender src serial = s.announced src c := by
  rw [← State.announce_present h, State.decideTake, h]
  exact if_neg fun ⟨named, pending⟩ => other.elim (· named) (· pending)

theorem State.decideGiveup_taken (inside : src < s.cc.calls.length) {c : Call} (h : s.call src = some c)
    (named : c.serial = serial) (taker : c.taker = sender) (station : sender ≠ 0) :
    s.decideGiveup sender src serial = (s.announced src (s.givenUpCall c)).report .callGivenUp src sender := by
  rw [← State.announce_setCall inside, State.decideGiveup, h]
  exact if_pos ⟨named, taker, taker ▸ station⟩

theorem State.decideGiveup_missing (h : s.call src = none) : s.decideGiveup sender src serial = s := by
  rw [State.decideGiveup, h]

theorem State.decideGiveup_other {c : Call} (h : s.call src = some c) (other : c.serial ≠ serial ∨ c.taker ≠ sender) :
    s.decideGiveup sender src serial = s := by
  rw [State.decideGiveup, h]
  exact if_neg fun ⟨named, taker, _⟩ => other.elim (· named) (· taker)

end

/-! ### TAKE_ARRIVAL and GIVEUP_ARRIVAL -/

theorem wfSource_ne_zero {src : BitVec 6} (h : wfSource src = true) : src.toNat ≠ 0 := fun zero => by
  rw [wfSource_bad (.inl (BitVec.eq_of_toNat_eq zero))] at h
  cases h

theorem RefPayload.source_lt {p : RefPayload} (h : p.wf = true) : p.source.toNat < 17 := by
  by_contra high
  rw [RefPayload.malformed (.inr (.inr (.inl (by omega))))] at h
  cases h

/-- A good telegram of another node whose dispatch changes calls, offers and reports alone: that is all that it does. -/
theorem State.arrival_calls {s t : State} {src : BitVec 6} {body : Payload} (a : s.awake = true) (r : s.receives = true)
    (source : wfSource src = true) (w : body.wf = true) (other : src.toNat ≠ s.nodeId) (state : ∀ p, body ≠ .state p)
    (dispatch : s.dispatch src.toNat body = t) (h : CallConsequent s t) : s.arrival src body = .next t := by
  have peer : s.testingPeer src.toNat body = none := by
    cases body with
    | state p => exact absurd rfl (state p)
    | _ => rfl
  rw [State.arrival_dispatched a r (by rw [source, w]; rfl) other, peer, dispatch, h.settle_eq]

section
variable {s : State} {src : BitVec 6} {p : RefPayload}

theorem State.dispatch_take (named : p.origin.toNat = s.nodeId) :
    s.dispatch src.toNat (.take p) = s.decideTake src.toNat p.source.toNat p.serial.toNat := if_pos named

theorem State.dispatch_take_elsewhere (h : p.origin.toNat ≠ s.nodeId) : s.dispatch src.toNat (.take p) = s := if_neg h

theorem State.dispatch_giveup (named : p.origin.toNat = s.nodeId) :
    s.dispatch src.toNat (.giveup p) = s.decideGiveup src.toNat p.source.toNat p.serial.toNat := if_pos named

theorem State.dispatch_giveup_elsewhere (h : p.origin.toNat ≠ s.nodeId) : s.dispatch src.toNat (.giveup p) = s := if_neg h

/-- The CLEAR that answers a request names the call as the request does. -/
theorem State.offerClear_named (named : p.origin.toNat = s.nodeId) :
    s.offerClear p.source.toNat p.serial.toNat 0 = (s.offer (.clear ⟨p.origin, p.source, p.serial, 0⟩) 1).1 := by
  simp [State.offerClear, ← named]

end

/-- Settles O44: for another origin nothing is dispatched; at the origin the call of the source decides. -/
theorem takeDecided : Obligations.TakeDecided := by
  intro s src p a r shaped station w other source
  have inside : source < s.cc.calls.length := shaped.calls ▸ RefPayload.source_lt w
  have arrives {t : State} (dispatch : s.dispatch src.toNat (.take p) = t) (h : CallConsequent s t) :
      exec (.takeArrival src p) s = .next t := State.arrival_calls a r station w other nofun dispatch h
  refine ⟨fun elsewhere => arrives (State.dispatch_take_elsewhere elsewhere) (.refl s), fun named =>
    ⟨fun c present serial pending => ?_, fun c present differs => ?_, fun missing => ?_⟩⟩
  · exact arrives ((State.dispatch_take named).trans (State.decideTake_pending _ inside present serial pending))
      ((s.announced_callConsequent source _).report _ _ _)
  · exact arrives ((State.dispatch_take named).trans (State.decideTake_other _ present differs))
      (s.announced_callConsequent source c)
  · exact arrives
      ((State.dispatch_take named).trans ((State.decideTake_missing _ missing).trans (State.offerClear_named named)))
      (s.offer_callConsequent _ 1)

/-- Settles O45: the taker's GIVEUP with the call's serial is decided; what any other leaves is the state before it. -/
theorem giveupDecided : Obligations.GiveupDecided := by
  intro s src p a r shaped station w other source
  have inside : source < s.cc.calls.length := shaped.calls ▸ RefPayload.source_lt w
  have arrives {t : State} (dispatch : s.dispatch src.toNat (.giveup p) = t) (h : CallConsequent s t) :
      exec (.giveupArrival src p) s = .next t := State.arrival_calls a r station w other nofun dispatch h
  refine ⟨fun c named present serial taker => ?_, fun ignored => arrives ?_ (.refl s)⟩
  · exact arrives ((State.dispatch_giveup named).trans
      (State.decideGiveup_taken _ inside present serial taker (wfSource_ne_zero station)))
      ((s.announced_callConsequent source _).report _ _ _)
  · by_cases named : p.origin.toNat = s.nodeId
    · rw [State.dispatch_giveup named]
      rcases ignored with elsewhere | missing | ⟨c, present, differs⟩
      · exact absurd named elsewhere
      · exact State.decideGiveup_missing _ missing
      · exact State.decideGiveup_other _ present differs
    · exact State.dispatch_giveup_elsewhere named

end Sys2Proof.Machine
end

/-! ## LAMP_CLEAR (R154) -/

section
namespace Sys2Proof.Machine

/-- R154: no sign holds a lamp fault and no strip a latch; the counts that lead to a fault stay. -/
def State.withLampsSound (s : State) : State :=
  { s with sd := { s.sd with
      signs := s.sd.signs.map fun g => { g with fault := false }
      strips := s.sd.strips.map fun p => { p with latch := none } } }

/-- R154: the lamps are cleared whether or not one was faulty, and only a clearing of at least one is reported. -/
theorem State.clearLamps_eq (s : State) :
    s.clearLamps =
      s.withLampsSound.reportIf (decide (1 ≤ s.lampFaults)) .lampCleared noSubject s.lampFaults := rfl

/-- R154: what LAMP_CLEAR asks for. No other block is made to act: a clearing can end the fault members of R173, never raise one (R118). -/
theorem exec_lampClear (s : State) : exec .lampClear s = s.request .change fun u => (u.clearLamps, .ok) := rfl

/-- R170: LAMP_CLEAR is a change request, which the port refuses before RUN. -/
theorem exec_lampClear_before_run {s : State} (l : s.listens = true) (early : s.running = false) :
    exec .lampClear s = .next (s.respond .errPhase) := by
  rw [exec_lampClear, State.request_barred l (State.portBar_before_run early)]

/-- R154: LAMP_CLEAR in RUN. -/
theorem exec_lampClear_running {s : State} (l : s.listens = true) (run : s.running = true) :
    exec .lampClear s =
      .next ((s.withLampsSound.reportIf (decide (1 ≤ s.lampFaults)) .lampCleared noSubject s.lampFaults).respond .ok) := by
  rw [exec_lampClear, State.request_taken l (State.portBar_change run), State.clearLamps_eq]

/-- Settles O53: before RUN the port refuses; in RUN the lamps are cleared, and their number is reported. -/
theorem lampsCleared : Obligations.LampsCleared :=
  fun _ l => ⟨exec_lampClear_before_run l, exec_lampClear_running l⟩

end Sys2Proof.Machine
end

/-! ## What any command can do

Each command is a restart, the end of the image's read, an event whose owner acts and whose follow-up is `settle`, or a change that no other
block is handed. `Owns` and `Alone` name the owners' operations, command by command; `exec_moves` is the one place where all commands are
opened, and every statement about whatever command or whatever step is a case analysis of it. -/

section
namespace Sys2Proof.Machine

open Laws.Shape (brings)

/-- The owner of command `c` takes the state `u` of the event's moment to `v`, before the other blocks follow; `peer` and `pressed` are what
is handed to the duration tester and to the call controller with it. -/
inductive Owns : Instr → State → State → Option Nat → List Nat → Prop
  | enterRun {u : State} (running : u.cl.listen ≠ none) : Owns .listenTimerExpiry u u.enterRun none []
  | sample {u : State} {c : Fin 16} {code : BitVec 10} {odd : Bool} {n : Nat} (taken : (u.channel c).state ≠ .isolated) :
      Owns (.sampleArrival c code odd) u ((u.passSlot n).takeSample c code.toNat) none []
  | drift {u : State} : Owns .driftTimerExpiry u (u.forEach 16 stepDrift).startDrift none []
  | rates {u : State} : Owns .rateTimerExpiry u u.stepRates none []
  | hold {u : State} {c : Fin 16} (running : (u.channel c).hold ≠ none) :
      Owns (.holdTimerExpiry c) u (u.setChannel c (u.channel c).holdExpire) none []
  | confirm {u : State} (running : u.fl.confirm ≠ none) : Owns .confirmDelayExpiry u u.confirmExpire none []
  | walkTime {u : State} (running : u.fl.walkTimer ≠ none) : Owns .walkDurationExpiry u (u.endWalk .time) none []
  | collide {u : State} (sending : u.lc.sending ≠ none) : Owns .lineCollision u u.collide none []
  | complete {u : State} {sent : Telegram} (sending : u.lc.sending = some sent) :
      Owns .transmissionCompletion u (u.completeSending.handCompletion sent.body) none []
  | stuckBegin {u : State} : Owns .stuckPeriodStart u u.stuckBegin none []
  | stuckExpire {u : State} (running : u.lc.stuckClear ≠ none) : Owns .stuckClearTimerExpiry u u.stuckExpire none []
  | checkError {u : State} {why : CheckErrorCause} : Owns (.checkError why) u u.noteCheckError none []
  | ageNoise {u : State} (held : u.lc.noise ≠ []) : Owns .noiseWindowAgeOut u u.ageNoise none []
  | duplicate {c : Instr} {u : State} {kind : Nat}
      (row : (∃ k, c = .duplicateId k) ∨ ∃ src body, brings c = some (src, body)) : Owns c u (u.noteDuplicate kind) none []
  | state {u : State} {src : BitVec 6} {p : StatePayload} (source : wfSource src = true) (wf : p.wf = true)
      (other : src.toNat ≠ u.nodeId) :
      Owns (.stateArrival src p) u ((u.takeState src.toNat p).adopt src.toNat p) (u.testingPeer src.toNat (.state p)) []
  | call {u : State} {src : BitVec 6} {p : CallPayload} (wf : p.wf = true) :
      Owns (.callArrival src p) u (u.hearCall src.toNat p) none []
  | clear {c : Instr} {u : State} {src : BitVec 6} {p : ClearPayload} (row : brings c = some (src, .clear p)) :
      Owns c u (u.hearClear src.toNat p.source.toNat p.serial.toNat p.clearedBy.toNat) none []
  | clearAsked {c : Instr} {u : State} {src : BitVec 6} {p : ClearPayload} (row : brings c = some (src, .clear p)) :
      Owns c u (u.decideClear src.toNat p.source.toNat p.serial.toNat) none []
  | take {u : State} {src : BitVec 6} {p : RefPayload} :
      Owns (.takeArrival src p) u (u.decideTake src.toNat p.source.toNat p.serial.toNat) none []
  | giveup {u : State} {src : BitVec 6} {p : RefPayload} :
      Owns (.giveupArrival src p) u (u.decideGiveup src.toNat p.source.toNat p.serial.toNat) none []
  | flag {c : Instr} {u : State} {src : BitVec 6} {p : OrderPayload} {o : FlagOrder}
      (row : brings c = some (src, .order p)) (code : flagOrderOf p.code.toNat = some o) :
      Owns c u (u.applyFlag o src.toNat) none []
  | silence {u : State} {src : BitVec 6} {target : Byte} : Owns (.orderSilence src target) u (u.silence src.toNat) none []
  | orderReset {u : State} {src : BitVec 6} {target : Byte} (source : wfSource src = true)
      (addressed : target.toNat = u.nodeId ∨ target.toNat = 63) :
      Owns (.orderFireReset src target) u (u.decideReset src.toNat target.toNat (target.toNat = 63)) none []
  | orderPulse {u : State} {src : BitVec 6} {target door : Byte} :
      Owns (.orderDoorPulse src target door) u (u.orderPulse src.toNat door.toNat) none []
  | refresh {u : State} (running : u.lc.refresh ≠ none) :
      Owns .refreshTimerExpiry u ((u.offerState u.refreshClass).startRefresh) none []
  | loseSlot {u : State} {k : Fin 8} (running : (u.slot k).deadline ≠ none) :
      Owns (.freshnessDeadlineExpiry k) u (u.loseSlot k) none []
  | contact {u : State} {d : Fin 8} {value : Contact} (used : (u.door d).cfg.kind ≠ .unused)
      (first : (u.door d).contact = none) :
      Owns (.contactFirstQualified d value) u
        (u.moveDoorAfresh d fun door => door.firstContact value (u.freeCondition door) u.now) none []
  | feedback {c : Instr} {u : State} {d : Fin 8} {value : Lock} (used : (u.door d).cfg.kind ≠ .unused)
      (row : c = .feedbackFirstQualified d value ∨ c = .feedbackChange d value) :
      Owns c u (u.takeFeedback d value) none []
  | opening {u : State} {d : Fin 8} (used : (u.door d).cfg.kind ≠ .unused) (shut : (u.door d).contact ≠ some .opened) :
      Owns (.doorOpening d) u (u.openDoor d) none []
  | shutting {u : State} {d : Fin 8} (used : (u.door d).cfg.kind ≠ .unused) :
      Owns (.doorShutting d) u (u.moveDoorAfresh d Door.shuts) none []
  | rex {u : State} {d : Fin 8} (used : (u.door d).cfg.kind ≠ .unused) :
      Owns (.rexPress d) u
        ((u.moveDoor d fun door => { door.grant u.now with rex := ⟨some u.now, u.freeCount⟩ }).setFreeCount (u.freeCount + 1))
        none []
  | accessExpire {u : State} {d : Fin 8} : Owns (.accessPulseExpiry d) u (u.moveDoor d Door.accessExpire) none []
  | holdDoor {u : State} {d : Fin 8} : Owns (.openTimerExpiry d) u (u.holdDoor d) none []
  | jam {u : State} {d : Fin 8} : Owns (.jamComparisonExpiry d) u (u.jamDoor d) none []
  | unjam {u : State} {d : Fin 8} (jammed : (u.door d).state = .jammed) :
      Owns (.jamComparisonExpiry d) u (u.unjamDoor d) none []
  | press {c : Instr} {u : State} {p : Fin 8} (used : (u.point p).kind ≠ .unused)
      (row : c = .callPointPress p ∨ c = .firePointLevelChange p true) :
      Owns c u ((u.qualifyPoint p true).pressPoint p) none [p.val]
  | qualify {u : State} {p : Fin 8} {active : Bool} (used : (u.point p).kind ≠ .unused) :
      Owns (.firePointLevelChange p active) u (u.qualifyPoint p active) none []
  | key {u : State} : Owns .attendantKeyTurn u (State.turnKey (u.setCc { u.cc with keyOn := some true })) none []
  | unanswered {u : State} {source : Fin 17} {call : Call} (present : u.call source = some call) :
      Owns (.unansweredTimerExpiry source) u (u.unansweredExpire source call) none []
  | attend {u : State} {source : Fin 17} {call : Call} (present : u.call source = some call) :
      Owns (.attendTimerExpiry source) u (u.attendExpire source call) none []
  | reannounce {u : State} {source : Fin 17} : Owns (.reannounceTimerExpiry source) u (u.announce source) none []
  | entryExpires {u : State} {origin : BitVec 6} {source : Fin 17} {e : Entry}
      (listed : u.entry origin.toNat source = some e) : Owns (.entryExpiry origin source) u (u.expireEntry e) none []
  | takeTimeout {u : State} {origin : BitVec 6} {source : Fin 17} {e : Entry}
      (listed : u.entry origin.toNat source = some e) : Owns (.takeTimeoutExpiry origin source) u (u.takeUnanswered e) none []
  | signs {u : State} {sense : BitVec 4} :
      Owns (.signStepExpiry sense) u
        (((u.setPins { u.pins with signSense := sense }).forEach 4 State.stepSign).startSignTimer) none []
  | strip {u : State} {k : Fin 2} {sense : BitVec 32} (running : (u.strip k).timer ≠ none) :
      Owns (.stripStepExpiry k sense) u
        ((u.setPins { u.pins with stripSense := u.pins.stripSense.set k sense }).stepStrip k (u.strip k) sense) none []
  | cadence {u : State} (running : u.sd.cadenceTimer ≠ none) : Owns .cadenceTimerExpiry u u.turnCadence none []
  | minute {u : State} (running : u.dt.minute ≠ none) : Owns .minuteTimerExpiry u u.countMinute none []
  | battery {u : State} {low : Bool} : Owns (.batteryLowChange low) u (u.takeBattery low) none []
  | suspendTimer {u : State} (running : u.dt.suspend ≠ none) :
      Owns .suspendTimerExpiry u (u.endTest (.aborted .suspendTimeout) none) none []
  | order {u : State} {code target door : Byte} {body : Payload} (run : u.running = true)
      (kind : ∀ p, body ≠ .state p) (entered : (u.offer body 0).2 = .entered) :
      Owns (.order code target door) u ((u.offer body 0).1.applyOwnOrder code.toNat) none []
  | fireReset {u : State} (run : u.running = true) : Owns .fireReset u (u.decideReset 0 u.nodeId false) none []
  | isolate {u : State} {c : Byte} (run : u.running = true) (low : c.toNat ≤ 15)
      (used : (u.channel c.toNat).cfg.kind ≠ .unused) (state : (u.channel c.toNat).state ∉ [ChannelState.alarm, .isolated]) :
      Owns (.isolate c) u (u.isolateChannel c.toNat) none []
  | restore {u : State} {c : Byte} (run : u.running = true) (low : c.toNat ≤ 15)
      (used : (u.channel c.toNat).cfg.kind ≠ .unused) (isolated : (u.channel c.toNat).state = .isolated) :
      Owns (.restore c) u (u.restoreChannel c.toNat) none []
  | walkStart {u : State} {min : Byte} (run : u.running = true) (active : u.fl.walkActive = false) :
      Owns (.walkStart min) u (u.beginWalk min.toNat) none []
  | walkStop {u : State} (run : u.running = true) : Owns .walkStop u (u.endWalk .host) none []
  | lampCheck {u : State} (run : u.running = true) (calm : u.isEvacuating = false) :
      Owns .lampCheck u (u.forEach 2 checkStrip) none []
  | testStart {u : State} {min : Byte} (run : u.running = true) (free : u.startBar = none) :
      Owns (.testStart min) u (u.startTest min.toNat) none []
  | testSuspend {u : State} (run : u.running = true) (running : u.dt.state = .running) :
      Owns .testSuspend u (u.suspendTest .host) none []
  | testResume {u : State} (run : u.running = true) (free : u.resumeBar = none) :
      Owns .testResume u (u.resumeTest .host) none []
  | testAbort {u : State} (run : u.running = true) (underWay : u.dt.state ≠ .idle) :
      Owns .testAbort u (u.endTest (.aborted .host) none) none []

/-- A change that no other block is handed. -/
inductive Alone : Instr → State → State → Prop
  | still {c : Instr} {u : State} : Alone c u u
  | grant {u : State} {n : Nat} {choice : Option Nat} : Alone .oddSlotGrant u (u.grantSlot n choice)
  | contend {u : State} (may : u.mayContend = true) : Alone .contend u (u.setLc (u.lc.begin u.nodeId))
  | lose {u : State} : Alone .loss u (u.setLc u.lc.lose)
  | stuckEnd {u : State} : Alone .stuckPeriodEnd u u.stuckEnd
  | readNode {u : State} : Alone .readNode u (u.setLc { u.lc with queueDiscard := false })
  | readReport {u : State} {r : Report} {rs : List Report} (queued : u.ap.reports = r :: rs) :
      Alone .readReport u (u.setAp { u.ap with reports := rs })
  | offer {c : Instr} {u : State} {body : Payload} {cls : Nat} (run : u.running = true) (kind : ∀ p, body ≠ .state p) :
      Alone c u (u.offer body cls).1
  | relist {c : Instr} {u : State} {body : Payload} {cls : Nat} {e : Entry} {state : EntryState} (run : u.running = true)
      (kind : ∀ p, body ≠ .state p) (listed : u.entry e.origin e.source = some e) :
      Alone c u ((u.offer body cls).1.relist { e with state := state })
  | extendWalk {u : State} {min : Nat} (run : u.running = true) (active : u.fl.walkActive = true) {c : Instr} :
      Alone c u (u.extendWalk min)
  | pulse {u : State} {d : Byte} (run : u.running = true) (low : d.toNat ≤ 7)
      (used : (u.door d.toNat).cfg.kind ≠ .unused) : Alone (.doorPulse d) u (u.pulseDoor d.toNat)
  | clearLamps {u : State} (run : u.running = true) : Alone .lampClear u u.clearLamps

/-- `t` is `s` but for the port's transaction and data out. -/
def Answered (s t : State) : Prop := ∃ port out, t = { s with ap := { s.ap with port := port, dataOut := out } }

theorem Answered.refl (s : State) : Answered s s := ⟨s.ap.port, s.ap.dataOut, rfl⟩

theorem Answered.respond (s : State) (r : Response) : Answered s (s.respond r) := ⟨_, _, rfl⟩

/-- What command `c` makes of `s`. -/
inductive Moves (c : Instr) (s t : State) : Prop
  | restarts {phase : Phase} {port : Port} (asleep : phase = .loading ∨ phase = .held)
      (h : Answered (s.restart phase port) t)
  | loads {bytes : List Byte} {strap : Mode} (command : c = .configReadComplete bytes strap)
      (loading : s.cl.phase = .loading) (h : t = s.leaveLoading bytes strap)
  | follows {u v : State} {peer : Option Nat} {pressed : List Nat} (awake : s.awake = true) (moment : AtEvent s u)
      (owner : Owns c u v peer pressed) (h : Answered (settle u v peer pressed) t)
  | alone {u v : State} (moment : AtEvent s u) (owner : Alone c u v) (h : Answered v t)

theorem Moves.still {c : Instr} {s t : State} (h : AtEvent s t) : Moves c s t := .alone h .still (.refl _)

theorem Moves.same (c : Instr) (s : State) : Moves c s s := .still (.refl s)

theorem Moves.answered {c : Instr} {s t : State} (h : Answered s t) : Moves c s t := .alone (.refl s) .still h

/-! ### Events -/

theorem State.eventAt_moves {c : Instr} {s t : State} {moment : Nat} {f : State → State} (h : s.eventAt moment f = .next t)
    (k : ∀ u, AtEvent s u → f u = u ∨ Owns c u (f u) none []) : Moves c s t := by
  cases a : s.awake
  · rw [State.eventAt_asleep a] at h
    cases h
    exact .same c s
  · rw [State.eventAt_awake a] at h
    cases h
    rcases k _ (.reach s moment) with e | o
    · rw [e, settle_self]
      exact .still (.reach s moment)
    · exact .follows a (.reach s moment) o (.refl _)

theorem State.expiry_moves {c : Instr} {s t : State} {timer : Timer} {f : State → State} (h : s.expiry timer f = .next t)
    (k : timer ≠ none → ∀ u, AtEvent s u → f u = u ∨ Owns c u (f u) none []) : Moves c s t := by
  cases timer with
  | none => cases h; exact .same c s
  | some deadline => exact State.eventAt_moves h (k nofun)

theorem State.event_moves {c : Instr} {s t : State} {f : State → State} (h : s.event f = .next t)
    (k : f s = s ∨ Owns c s (f s) none []) : Moves c s t := by
  cases a : s.awake
  · simp only [State.event, a] at h
    cases h
    exact .same c s
  · rw [State.event_awake a] at h
    cases h
    rcases k with e | o
    · rw [e, settle_self]
      exact .same c s
    · exact .follows a (.refl s) o (.refl _)

theorem State.doorEvent_moves {c : Instr} {s t : State} {d : Nat} {f : State → State} (h : s.doorEvent d f = .next t)
    (k : (s.door d).cfg.kind ≠ .unused → f s = s ∨ Owns c s (f s) none []) : Moves c s t := by
  refine State.event_moves h ?_
  split
  · exact .inl rfl
  · rename_i used
    exact k used

theorem State.own_moves {c : Instr} {s t : State} {f : State → State} (h : s.own f = .next t)
    (k : f s = s ∨ Alone c s (f s)) : Moves c s t := by
  cases a : s.awake
  · simp only [State.own, a] at h
    cases h
    exact .same c s
  · rw [State.own_awake a] at h
    cases h
    rcases k with e | o
    · rw [e]; exact .same c s
    · exact .alone (.refl s) o (.refl _)

theorem State.callExpiry_moves {c : Instr} {s t : State} {src : Nat} {timer : Call → Timer} {f : State → Call → State}
    (h : s.callExpiry src timer f = .next t)
    (k : ∀ u call, u.call src = some call → f u call = u ∨ Owns c u (f u call) none []) : Moves c s t := by
  unfold State.callExpiry at h
  split at h
  · cases h; exact .same c s
  · rename_i call present
    refine State.expiry_moves h fun _ u m => k u call ?_
    obtain ⟨_, _, _, _, rfl⟩ := m
    exact present

theorem State.entryTimer_moves {c : Instr} {s t : State} {origin src : Nat} {timer : Entry → Timer}
    {f : State → Entry → State} (h : s.entryTimer origin src timer f = .next t)
    (k : ∀ u e, u.entry origin src = some e → f u e = u ∨ Owns c u (f u e) none []) : Moves c s t := by
  unfold State.entryTimer at h
  split at h
  · cases h; exact .same c s
  · rename_i e listed
    refine State.expiry_moves h fun _ u m => k u e ?_
    obtain ⟨_, _, _, _, rfl⟩ := m
    exact listed

theorem State.pressEvent_moves {c : Instr} {s t : State} {p : Fin 8} (used : (s.point p).kind ≠ .unused)
    (row : c = .callPointPress p ∨ c = .firePointLevelChange p true) (h : s.pressEvent p = .next t) : Moves c s t := by
  cases a : s.awake
  · simp only [State.pressEvent, a] at h
    cases h
    exact .same c s
  · rw [State.pressEvent_awake a] at h
    cases h
    exact .follows a (.refl s) (.press used row) (.refl _)

/-- What the telegram that ends brings where it is received, at the moment of the event. -/
theorem State.reception_moves {c : Instr} {s t : State} {span : Span} {brought : State → State}
    (h : s.reception span brought = .next t)
    (k : ∀ u, brought u = u ∨ ∃ v peer, Owns c u v peer [] ∧ brought u = settle u v peer []) : Moves c s t := by
  have one {u : State} (a : s.awake = true) (m : AtEvent s u) : Moves c s (brought u) := by
    rcases k u with e | ⟨v, peer, o, e⟩
    · rw [e]; exact .still m
    · rw [e]; exact .follows a m o (.refl _)
  rcases State.reception_cases h with rfl | ⟨a, -, rfl⟩ | ⟨a, -, -, rfl | rfl | rfl | rfl⟩
  · exact .same c _
  · exact one a (.refl s)
  · exact .still (.idle s)
  · exact .still (.idleChosen s)
  · exact one a (.idle s)
  · exact one a (.idleChosen s)

/-- A telegram dispatched: by its kind, its addressee and the node's role. -/
theorem dispatch_owns {c : Instr} {src : BitVec 6} {body : Payload} (row : brings c = some (src, body)) (u : State)
    (source : wfSource src = true) (wf : body.wf = true) (other : src.toNat ≠ u.nodeId) :
    (u.dispatch src.toNat body = u ∧ u.testingPeer src.toNat body = none) ∨
      Owns c u (u.dispatch src.toNat body) (u.testingPeer src.toNat body) [] := by
  cases body with
  | state p =>
    cases c <;> cases row
    exact .inr (.state source wf other)
  | call p =>
    cases c <;> cases row
    dsimp only [State.dispatch]
    split
    · exact .inr (.call wf)
    · exact .inl ⟨rfl, rfl⟩
  | clear p =>
    dsimp only [State.dispatch]
    split
    · split
      · exact .inr (.clear row)
      · exact .inl ⟨rfl, rfl⟩
    · split
      · exact .inr (.clearAsked row)
      · exact .inl ⟨rfl, rfl⟩
  | take p =>
    cases c <;> cases row
    dsimp only [State.dispatch]
    split
    · exact .inr .take
    · exact .inl ⟨rfl, rfl⟩
  | giveup p =>
    cases c <;> cases row
    dsimp only [State.dispatch]
    split
    · exact .inr .giveup
    · exact .inl ⟨rfl, rfl⟩
  | order p =>
    dsimp only [State.dispatch, State.hearDirected]
    cases code : flagOrderOf p.code.toNat with
    | some o => exact .inr (.flag row code)
    | none =>
      dsimp only
      by_cases addressed : u.addressed p.target.toNat = true
      · rw [if_pos addressed]
        simp only [State.addressed, Bool.or_eq_true, decide_eq_true_eq] at addressed
        cases c
        case orderSilence src target => cases row; exact .inr .silence
        case orderFireReset src target => cases row; exact .inr (.orderReset source addressed)
        case orderDoorPulse src target door => cases row; exact .inr .orderPulse
        all_goals cases row; try cases code
      · rw [if_neg addressed]
        exact .inl ⟨rfl, rfl⟩

theorem exec_brings_moves {c : Instr} {src : BitVec 6} {body : Payload} (row : brings c = some (src, body)) {s t : State}
    (h : exec c s = .next t) : Moves c s t := by
  rw [exec_of_brings row] at h
  refine State.reception_moves h fun u => ?_
  split
  · exact .inl rfl
  · rename_i good
    have wf : wfSource src = true ∧ body.wf = true := by
      revert good
      cases wfSource src <;> cases body.wf <;> simp
    split
    · exact .inr ⟨_, none, .duplicate (.inr ⟨src, body, row⟩), rfl⟩
    · rename_i other
      rcases dispatch_owns row u wf.1 wf.2 other with ⟨e, p⟩ | o
      · rw [e, p, settle_self]; exact .inl rfl
      · exact .inr ⟨_, _, o, rfl⟩

/-! ### Requests -/

/-- A request: not read, refused, or taken by its owner in the phase its class asks for. -/
theorem State.request_moves {c : Instr} {s t : State} {k : RequestClass} {f : State → State × Response}
    (h : s.request k f = .next t)
    (taken : s.portBar k = none → Moves c s ((f s).1.respond (f s).2)) : Moves c s t := by
  rcases State.request_cases h with rfl | ⟨r, rfl⟩ | ⟨bar, rfl⟩
  · exact .same c _
  · exact .answered (.respond s r)
  · exact taken bar

theorem State.running_of_change {s : State} (h : s.portBar .change = none) : s.running = true := by
  unfold State.portBar at h
  cases run : s.running <;> simp [run] at h ⊢

theorem State.running_of_stationChange {s : State} (h : s.portBar .stationChange = none) : s.running = true := by
  unfold State.portBar at h
  cases run : s.running <;> simp [run] at h ⊢

theorem State.accept_moves {c : Instr} {s : State} {f : State → State} (run : s.running = true)
    (o : Owns c s (f s) none []) : Moves c s ((s.accept f).1.respond (s.accept f).2) :=
  .follows (State.awake_of_running run) (.refl s) o (.respond _ _)

/-- A request that the owner answers without a change. -/
theorem Moves.refused (c : Instr) (s : State) (r : Response) : Moves c s (s.respond r) := .answered (.respond s r)

theorem exec_start_moves {c : Instr} {s t : State} (g : commandGroup c = .start) (h : exec c s = .next t) : Moves c s t := by
  have rise : Moves c s s.selectRise ∧ Moves c s s.selectRise.selectFall := by
    unfold State.selectRise
    split
    · exact ⟨.restarts (.inl rfl) (.refl _), .restarts (.inl rfl) ⟨_, _, rfl⟩⟩
    · exact ⟨.answered ⟨_, _, rfl⟩, .answered ⟨_, _, rfl⟩⟩
  cases c
  case powerUp =>
    cases h
    refine .restarts ?_ (.refl _)
    split
    · exact .inr rfl
    · exact .inl rfl
  case resetPin => cases h; exact .restarts (.inl rfl) (.refl _)
  case resetPinAsserted => cases h; exact .restarts (.inr rfl) (.refl _)
  case configReadComplete bytes strap =>
    dsimp only [exec, execConfigReadComplete] at h
    cases h
    split
    · rename_i loading; exact .loads rfl loading rfl
    · exact .same _ s
  case transactionEnd => cases h; exact rise.1
  case transactionBegin =>
    cases h
    split
    · exact .answered ⟨_, _, rfl⟩
    · exact rise.2
  case unknownRequest code len =>
    cases h
    split
    · exact .refused _ _ _
    · exact .same _ s
  case restart =>
    cases h
    split
    · exact .answered ⟨_, _, rfl⟩
    · exact .same _ s
  all_goals cases g

theorem exec_read_moves {c : Instr} {s t : State} (g : commandGroup c = .statusRead ∨ commandGroup c = .stationRead)
    (h : exec c s = .next t) : Moves c s t := by
  cases c
  case readNode =>
    dsimp only [exec, execReadNode] at h
    exact State.request_moves h fun _ => .alone (.refl s) .readNode (.respond _ _)
  case readReport =>
    dsimp only [exec, execReadReport] at h
    refine State.request_moves h fun _ => ?_
    cases queued : s.ap.reports with
    | nil => simp only [State.takeReport, queued]; exact .refused _ _ _
    | cons r rs => simp only [State.takeReport, queued]; exact .alone (.refl s) (.readReport queued) (.respond _ _)
  case readChannel c =>
    dsimp only [exec, execReadChannel, State.read] at h
    exact State.request_moves h fun _ => .refused _ _ _
  case readDoor d =>
    dsimp only [exec, execReadDoor, State.read] at h
    exact State.request_moves h fun _ => .refused _ _ _
  case readCall source =>
    dsimp only [exec, execReadCall, State.read] at h
    exact State.request_moves h fun _ => .refused _ _ _
  case readNeighbour slot =>
    dsimp only [exec, execReadNeighbour, State.read] at h
    exact State.request_moves h fun _ => .refused _ _ _
  case readRoute =>
    dsimp only [exec, execReadRoute, State.read] at h
    exact State.request_moves h fun _ => .refused _ _ _
  case readSignals =>
    dsimp only [exec, execReadSignals, State.read] at h
    exact State.request_moves h fun _ => .refused _ _ _
  case readTest =>
    dsimp only [exec, execReadTest, State.read] at h
    exact State.request_moves h fun _ => .refused _ _ _
  case listRead pos =>
    dsimp only [exec, execListRead, State.read] at h
    exact State.request_moves h fun _ => .refused _ _ _
  all_goals rcases g with g | g <;> cases g

theorem State.namedEntry_entry {s : State} {origin source : Nat} {need : EntryState} {e : Entry}
    (h : s.namedEntry origin source need = .inl e) : s.entry origin source = some e ∧ e.state = need := by
  unfold State.namedEntry at h
  split at h
  · cases h
  · split at h
    · cases h
    · rename_i listed
      split at h
      · rename_i state; cases h; exact ⟨listed, state⟩
      · cases h

theorem State.entry_identity {s : State} {origin source : Nat} {e : Entry} (h : s.entry origin source = some e) :
    e.origin = origin ∧ e.source = source := by
  simpa [Entry.has] using List.find?_some h

/-- A telegram offered for a station request: entered, the list follows; else the offer stands alone. -/
theorem State.offerFor_moves {c : Instr} {s : State} {body : Payload} {cls : Nat} {entered : State → State}
    (run : s.running = true) (kind : ∀ p, body ≠ .state p)
    (k : (s.offer body cls).2 = .entered → Moves c s ((entered (s.offer body cls).1).respond .ok)) :
    Moves c s ((s.offerFor body cls entered).1.respond (s.offerFor body cls entered).2) := by
  unfold State.offerFor
  dsimp only
  split
  · rename_i e; exact k e
  · exact .alone (.refl s) (.offer run kind) (.respond _ _)

theorem exec_stationChange_moves {c : Instr} {s t : State} (g : commandGroup c = .stationChange) (h : exec c s = .next t) :
    Moves c s t := by
  cases c
  case take origin source =>
    dsimp only [exec, execTake] at h
    refine State.request_moves h fun bar => ?_
    have run := State.running_of_stationChange bar
    split
    · exact .refused _ _ _
    · rename_i e named
      have entry := (State.namedEntry_entry named).1
      obtain ⟨ho, hs⟩ := State.entry_identity entry
      exact State.offerFor_moves run (fun _ e => by cases e) fun _ =>
        .alone (.refl s) (.relist run (fun _ e => by cases e) (by rw [ho, hs, entry])) (.respond _ _)
  case giveup origin source =>
    dsimp only [exec, execGiveup] at h
    refine State.request_moves h fun bar => ?_
    have run := State.running_of_stationChange bar
    split
    · exact .refused _ _ _
    · rename_i e named
      have entry := (State.namedEntry_entry named).1
      obtain ⟨ho, hs⟩ := State.entry_identity entry
      exact State.offerFor_moves run (fun _ e => by cases e) fun _ =>
        .alone (.refl s) (.relist run (fun _ e => by cases e) (by rw [ho, hs, entry])) (.respond _ _)
  case clear origin source =>
    dsimp only [exec, execClear] at h
    refine State.request_moves h fun bar => ?_
    have run := State.running_of_stationChange bar
    split
    · exact .refused _ _ _
    · exact State.offerFor_moves run (fun _ e => by cases e) fun _ =>
        .alone (.refl s) (.offer run (fun _ e => by cases e)) (.respond _ _)
  case order code target door =>
    dsimp only [exec, execOrder] at h
    refine State.request_moves h fun bar => ?_
    have run := State.running_of_stationChange bar
    split
    · exact State.offerFor_moves run (fun _ e => by cases e) fun entered =>
        .follows (State.awake_of_running run) (.refl s) (.order run (fun _ e => by cases e) entered) (.respond _ _)
    · exact .refused _ _ _
  all_goals cases g

theorem exec_change_moves {c : Instr} {s t : State} (g : commandGroup c = .change) (h : exec c s = .next t) :
    Moves c s t := by
  cases c
  case fireReset =>
    dsimp only [exec, execFireReset] at h
    refine State.request_moves h fun bar => ?_
    have run := State.running_of_change bar
    exact .follows (State.awake_of_running run) (.refl s) (.fireReset run) (.respond _ _)
  case isolate c =>
    dsimp only [exec, execIsolate] at h
    refine State.request_moves h fun bar => ?_
    have run := State.running_of_change bar
    split
    · exact .refused _ _ _
    · split
      · exact .refused _ _ _
      · split
        · exact .refused _ _ _
        · rename_i low bad isolated
          simp only [Bool.or_eq_true, decide_eq_true_eq, not_or] at bad
          exact State.accept_moves run (.isolate run (by omega) bad.1 (by simp [bad.2, isolated]))
  case restore c =>
    dsimp only [exec, execRestore] at h
    refine State.request_moves h fun bar => ?_
    have run := State.running_of_change bar
    split
    · exact .refused _ _ _
    · split
      · exact .refused _ _ _
      · rename_i low bad
        simp only [Bool.or_eq_true, decide_eq_true_eq, not_or, bne_iff_ne, ne_eq, not_not] at bad
        exact State.accept_moves run (.restore run (by omega) bad.1 bad.2)
  case walkStart min =>
    dsimp only [exec, execWalkStart] at h
    refine State.request_moves h fun bar => ?_
    have run := State.running_of_change bar
    split
    · exact .refused _ _ _
    · split
      · exact .refused _ _ _
      · split
        · rename_i active; exact .alone (.refl s) (.extendWalk run active) (.respond _ _)
        · rename_i inactive
          split
          · exact .refused _ _ _
          · exact State.accept_moves run (.walkStart run (by simpa using inactive))
  case walkStop =>
    dsimp only [exec, execWalkStop] at h
    refine State.request_moves h fun bar => ?_
    have run := State.running_of_change bar
    exact State.accept_moves run (.walkStop run)
  case doorPulse d =>
    dsimp only [exec, execDoorPulse] at h
    refine State.request_moves h fun bar => ?_
    have run := State.running_of_change bar
    split
    · exact .refused _ _ _
    · split
      · exact .refused _ _ _
      · rename_i low bad
        simp only [Bool.or_eq_true, decide_eq_true_eq, not_or] at bad
        exact .alone (.refl s) (.pulse run (by omega) bad.1) (.respond _ _)
  case lampClear =>
    dsimp only [exec, execLampClear] at h
    exact State.request_moves h fun bar => .alone (.refl s) (.clearLamps (State.running_of_change bar)) (.respond _ _)
  case lampCheck =>
    dsimp only [exec, execLampCheck] at h
    refine State.request_moves h fun bar => ?_
    have run := State.running_of_change bar
    split
    · exact .refused _ _ _
    · rename_i calm
      exact State.accept_moves run (.lampCheck run (by simpa using calm))
  case testStart min =>
    dsimp only [exec, execTestStart] at h
    refine State.request_moves h fun bar => ?_
    have run := State.running_of_change bar
    split
    · exact .refused _ _ _
    · split
      · exact .refused _ _ _
      · rename_i free; exact State.accept_moves run (.testStart run free)
  case testSuspend =>
    dsimp only [exec, execTestSuspend] at h
    refine State.request_moves h fun bar => ?_
    have run := State.running_of_change bar
    split
    · exact .refused _ _ _
    · exact .refused _ _ _
    · rename_i running; exact State.accept_moves run (.testSuspend run running)
  case testResume =>
    dsimp only [exec, execTestResume] at h
    refine State.request_moves h fun bar => ?_
    have run := State.running_of_change bar
    split
    · exact .refused _ _ _
    · rename_i free; exact State.accept_moves run (.testResume run free)
  case testAbort =>
    dsimp only [exec, execTestAbort] at h
    refine State.request_moves h fun bar => ?_
    have run := State.running_of_change bar
    split
    · exact .refused _ _ _
    · rename_i underWay; exact State.accept_moves run (.testAbort run underWay)
  all_goals cases g

/-! ### Every command -/

theorem exec_timer_moves {c : Instr} {s t : State} (g : commandGroup c = .event) (silent : brings c = none)
    (h : exec c s = .next t) : Moves c s t := by
  have at_ {α : Type} {u : State} (m : AtEvent s u) (p : State → α)
      (k : ∀ now deaf free, p { s with now := now, lc := { s.lc with deaf := deaf }, freeCount := free } = p s) : p u = p s := by
    obtain ⟨_, _, _, _, rfl⟩ := m; exact k _ _ _
  cases c
  case listenTimerExpiry =>
    dsimp only [exec, execListenTimerExpiry] at h
    exact State.expiry_moves h fun r u m => .inr (.enterRun (by rwa [at_ m (·.cl.listen) fun _ _ _ => rfl]))
  case sampleArrival c code odd =>
    dsimp only [exec, execSampleArrival] at h
    split at h
    · cases h; exact .same _ s
    · rename_i n due
      have taken : (s.channel c).state ≠ .isolated := by
        unfold State.dueSlot at due
        split at due
        · split at due
          · split at due
            · rename_i g _ both; rw [both.2]; exact nofun
            · cases due
          · cases due
        · split at due
          · cases due
          · assumption
      exact State.eventAt_moves h fun u m => .inr (.sample (by rwa [at_ m (State.channel · c) fun _ _ _ => rfl]))
  case oddSlotGrant =>
    dsimp only [exec, execOddSlotGrant] at h
    split at h
    · rename_i a
      rw [State.own_awake (by exact a)] at h
      cases h
      exact .alone (.reach s _) .grant (.refl _)
    · cases h; exact .same _ s
  case driftTimerExpiry =>
    dsimp only [exec, execDriftTimerExpiry] at h
    exact State.expiry_moves h fun _ u _ => .inr .drift
  case rateTimerExpiry =>
    dsimp only [exec, execRateTimerExpiry] at h
    exact State.expiry_moves h fun _ u _ => .inr .rates
  case holdTimerExpiry c =>
    dsimp only [exec, execHoldTimerExpiry] at h
    exact State.expiry_moves h fun r u m => .inr (.hold (by rwa [at_ m (State.channel · c) fun _ _ _ => rfl]))
  case confirmDelayExpiry =>
    dsimp only [exec, execConfirmDelayExpiry] at h
    exact State.expiry_moves h fun r u m => .inr (.confirm (by rwa [at_ m (·.fl.confirm) fun _ _ _ => rfl]))
  case walkDurationExpiry =>
    dsimp only [exec, execWalkDurationExpiry] at h
    exact State.expiry_moves h fun r u m => .inr (.walkTime (by rwa [at_ m (·.fl.walkTimer) fun _ _ _ => rfl]))
  case contend =>
    dsimp only [exec, execContend] at h
    refine State.own_moves h ?_
    split
    · rename_i may; exact .inr (.contend may)
    · exact .inl rfl
  case loss =>
    dsimp only [exec, execLoss] at h
    refine State.own_moves h ?_
    split
    · exact .inr .lose
    · exact .inl rfl
  case lineCollision =>
    dsimp only [exec, execLineCollision] at h
    refine State.event_moves h ?_
    split
    · rename_i sending; exact .inr (.collide (Option.isSome_iff_ne_none.1 sending))
    · exact .inl rfl
  case transmissionCompletion =>
    dsimp only [exec, execTransmissionCompletion] at h
    refine State.event_moves h ?_
    split
    · rename_i sending; exact .inr (.complete sending)
    · exact .inl rfl
  case stuckPeriodStart =>
    dsimp only [exec, execStuckPeriodStart] at h
    exact State.event_moves h (.inr .stuckBegin)
  case stuckPeriodEnd =>
    dsimp only [exec, execStuckPeriodEnd] at h
    exact State.own_moves h (.inr .stuckEnd)
  case stuckClearTimerExpiry =>
    dsimp only [exec, execStuckClearTimerExpiry] at h
    exact State.expiry_moves h fun r u m => .inr (.stuckExpire (by rwa [at_ m (·.lc.stuckClear) fun _ _ _ => rfl]))
  case checkError why =>
    dsimp only [exec, execCheckError] at h
    exact State.reception_moves h fun u => .inr ⟨_, none, .checkError, rfl⟩
  case noiseWindowAgeOut =>
    dsimp only [exec, execNoiseWindowAgeOut] at h
    refine State.expiry_moves h fun r u m => .inr (.ageNoise ?_)
    rw [at_ m (·.lc.noise) fun _ _ _ => rfl]
    rintro empty
    exact r (by simp [State.noiseDeadline, empty])
  case telegramDiscarded why =>
    dsimp only [exec, execTelegramDiscarded] at h
    exact State.reception_moves h fun u => .inl rfl
  case duplicateId kind =>
    dsimp only [exec, execDuplicateId] at h
    refine State.reception_moves h fun u => ?_
    split
    · exact .inl rfl
    · exact .inr ⟨_, none, .duplicate (.inl ⟨kind, rfl⟩), rfl⟩
  case refreshTimerExpiry =>
    dsimp only [exec, execRefreshTimerExpiry] at h
    exact State.expiry_moves h fun r u m => .inr (.refresh (by rwa [at_ m (·.lc.refresh) fun _ _ _ => rfl]))
  case freshnessDeadlineExpiry slot =>
    dsimp only [exec, execFreshnessDeadlineExpiry] at h
    exact State.expiry_moves h fun r u m => .inr (.loseSlot (by rwa [at_ m (State.slot · slot) fun _ _ _ => rfl]))
  case contactFirstQualified d value =>
    dsimp only [exec, execContactFirstQualified] at h
    refine State.doorEvent_moves h fun used => ?_
    split
    · exact .inl rfl
    · rename_i first; exact .inr (.contact used (by simpa using first))
  case feedbackFirstQualified d value =>
    dsimp only [exec, execFeedbackFirstQualified] at h
    refine State.doorEvent_moves h fun used => ?_
    split
    · exact .inl rfl
    · exact .inr (.feedback used (.inl rfl))
  case doorOpening d =>
    dsimp only [exec, execDoorOpening] at h
    refine State.doorEvent_moves h fun used => ?_
    split
    · exact .inl rfl
    · rename_i shut; exact .inr (.opening used (by simpa using shut))
  case doorShutting d =>
    dsimp only [exec, execDoorShutting] at h
    refine State.doorEvent_moves h fun used => ?_
    split
    · exact .inl rfl
    · exact .inr (.shutting used)
  case feedbackChange d value =>
    dsimp only [exec, execFeedbackChange] at h
    refine State.doorEvent_moves h fun used => ?_
    split
    · exact .inl rfl
    · exact .inr (.feedback used (.inr rfl))
  case rexPress d =>
    dsimp only [exec, execRexPress] at h
    exact State.doorEvent_moves h fun used => .inr (.rex used)
  case accessPulseExpiry d =>
    dsimp only [exec, execAccessPulseExpiry] at h
    exact State.expiry_moves h fun _ u _ => .inr .accessExpire
  case openTimerExpiry d =>
    dsimp only [exec, execOpenTimerExpiry] at h
    exact State.expiry_moves h fun _ u _ => .inr .holdDoor
  case jamComparisonExpiry d =>
    dsimp only [exec, execJamComparisonExpiry] at h
    refine State.expiry_moves h fun _ u m => ?_
    split
    · rename_i jammed; exact .inr (.unjam jammed)
    · exact .inr .jam
  case callPointPress p =>
    dsimp only [exec, execCallPointPress] at h
    split at h
    · cases h; exact .same _ s
    · rename_i bad
      simp only [Bool.or_eq_true, decide_eq_true_eq, not_or] at bad
      exact State.pressEvent_moves bad.1 (.inl rfl) h
  case firePointLevelChange p active =>
    dsimp only [exec, execFirePointLevelChange] at h
    split at h
    · cases h; exact .same _ s
    · rename_i used
      split at h
      · rename_i pressed
        have : active = true := by
          cases active
          · cases pressed
          · rfl
        exact State.pressEvent_moves used (.inr (by rw [this])) h
      · exact State.event_moves h (.inr (.qualify used))
  case attendantKeyTurn =>
    dsimp only [exec, execAttendantKeyTurn] at h
    exact State.event_moves h (.inr .key)
  case unansweredTimerExpiry source =>
    dsimp only [exec, execUnansweredTimerExpiry] at h
    refine State.callExpiry_moves h fun u call present => ?_
    split
    · exact .inr (.unanswered present)
    · exact .inl rfl
  case attendTimerExpiry source =>
    dsimp only [exec, execAttendTimerExpiry] at h
    refine State.callExpiry_moves h fun u call present => ?_
    split
    · exact .inl rfl
    · exact .inr (.attend present)
  case reannounceTimerExpiry source =>
    dsimp only [exec, execReannounceTimerExpiry] at h
    exact State.callExpiry_moves h fun u call present => .inr .reannounce
  case entryExpiry origin source =>
    dsimp only [exec, execEntryExpiry] at h
    exact State.entryTimer_moves h fun u e listed => .inr (.entryExpires listed)
  case takeTimeoutExpiry origin source =>
    dsimp only [exec, execTakeTimeoutExpiry] at h
    refine State.entryTimer_moves h fun u e listed => ?_
    split
    · exact .inr (.takeTimeout listed)
    · exact .inl rfl
  case signStepExpiry sense =>
    dsimp only [exec, execSignStepExpiry] at h
    exact State.expiry_moves h fun _ u _ => .inr .signs
  case stripStepExpiry k sense =>
    dsimp only [exec, execStripStepExpiry] at h
    exact State.expiry_moves h fun r u m => .inr (.strip (by rwa [at_ m (State.strip · k) fun _ _ _ => rfl]))
  case cadenceTimerExpiry =>
    dsimp only [exec, execCadenceTimerExpiry] at h
    exact State.expiry_moves h fun r u m => .inr (.cadence (by rwa [at_ m (·.sd.cadenceTimer) fun _ _ _ => rfl]))
  case minuteTimerExpiry =>
    dsimp only [exec, execMinuteTimerExpiry] at h
    exact State.expiry_moves h fun r u m => .inr (.minute (by rwa [at_ m (·.dt.minute) fun _ _ _ => rfl]))
  case batteryLowChange low =>
    dsimp only [exec, execBatteryLowChange] at h
    exact State.event_moves h (.inr .battery)
  case suspendTimerExpiry =>
    dsimp only [exec, execSuspendTimerExpiry] at h
    exact State.expiry_moves h fun r u m => .inr (.suspendTimer (by rwa [at_ m (·.dt.suspend) fun _ _ _ => rfl]))
  all_goals first | (cases g; done) | cases silent

/-- Every command is a restart, the end of the image's read, an event with its follow-up, or a change of its owner alone. -/
theorem exec_moves {c : Instr} {s t : State} (h : exec c s = .next t) : Moves c s t := by
  cases g : commandGroup c
  · exact exec_start_moves g h
  · exact exec_read_moves (.inl g) h
  · exact exec_read_moves (.inr g) h
  · exact exec_change_moves g h
  · exact exec_stationChange_moves g h
  · cases row : brings c with
    | none => exact exec_timer_moves g row h
    | some b => exact exec_brings_moves (src := b.1) (body := b.2) row h

/-- A step of the machine: one unit of time, or the front command. -/
theorem step_cases {s t : State} (h : step s = .next t) :
    t = s.tick ∨ ∃ c rest, s.pending = c :: rest ∧ exec c (s.setPending rest) = .next t := by
  unfold step at h
  split at h
  · cases h; exact .inl rfl
  · rename_i c rest pending; exact .inr ⟨c, rest, pending, h⟩

end Sys2Proof.Machine
end

/-! ## What the owner of an event can change

The owners' operations by block, each with the fields it can change. -/

section
namespace Sys2Proof.Machine

/-- The detector scanner's and the walk test's operations. -/
inductive DetectorOp (u : State) : State → Prop
  | sample {c code n : Nat} (taken : (u.channel c).state ≠ .isolated) : DetectorOp u ((u.passSlot n).takeSample c code)
  | drift : DetectorOp u (u.forEach 16 stepDrift).startDrift
  | rates : DetectorOp u u.stepRates
  | hold {c : Nat} : DetectorOp u (u.setChannel c (u.channel c).holdExpire)
  | isolate {c : Nat} : DetectorOp u (u.isolateChannel c)
  | restore {c : Nat} : DetectorOp u (u.restoreChannel c)
  | endWalk {why : WalkEnd} : DetectorOp u (u.endWalk why)
  | beginWalk {min : Nat} (active : u.fl.walkActive = false) : DetectorOp u (u.beginWalk min)

/-- The line controller's. -/
inductive LineOp (u : State) : State → Prop
  | collide (sending : u.lc.sending ≠ none) : LineOp u u.collide
  | stuckBegin : LineOp u u.stuckBegin
  | stuckExpire : LineOp u u.stuckExpire
  | checkError : LineOp u u.noteCheckError
  | ageNoise : LineOp u u.ageNoise
  | duplicate {kind : Nat} : LineOp u (u.noteDuplicate kind)
  | refresh (running : u.lc.refresh ≠ none) : LineOp u ((u.offerState u.refreshClass).startRefresh)

/-- The neighbour table's. -/
inductive TableOp (c : Instr) (u : State) : State → Prop
  | state {src : Nat} {p : StatePayload} (wf : p.wf = true) : TableOp c u ((u.takeState src p).adopt src p)
  | flag {o : FlagOrder} {src : BitVec 6} {p : OrderPayload} (row : Laws.Shape.brings c = some (src, .order p))
      (code : flagOrderOf p.code.toNat = some o) : TableOp c u (u.applyFlag o src.toNat)
  | silence {src : BitVec 6} {target : Byte} (row : c = .orderSilence src target) : TableOp c u (u.silence src.toNat)
  | loseSlot {k : Fin 8} (running : (u.slot k).deadline ≠ none) : TableOp c u (u.loseSlot k)

/-- What follows a telegram of the node's own: its completion, and a station's ORDER entered in the queue. -/
inductive SentOp (c : Instr) (u : State) : State → Prop
  | complete {sent : Telegram} (row : c = .transmissionCompletion) (sending : u.lc.sending = some sent) :
      SentOp c u (u.completeSending.handCompletion sent.body)
  | order {body : Payload} {code target door : Byte} (row : c = .order code target door) (run : u.running = true)
      (kind : ∀ p, body ≠ .state p) : SentOp c u ((u.offer body 0).1.applyOwnOrder code.toNat)

/-- The door controller's. -/
inductive DoorOp (u : State) : State → Prop
  | contact {d : Nat} {value : Contact} (used : (u.door d).cfg.kind ≠ .unused) (first : (u.door d).contact = none) :
      DoorOp u (u.moveDoorAfresh d fun door => door.firstContact value (u.freeCondition door) u.now)
  | feedback {d : Nat} {value : Lock} (used : (u.door d).cfg.kind ≠ .unused) : DoorOp u (u.takeFeedback d value)
  | opening {d : Fin 8} (used : (u.door d).cfg.kind ≠ .unused) : DoorOp u (u.openDoor d)
  | shutting {d : Nat} (used : (u.door d).cfg.kind ≠ .unused) : DoorOp u (u.moveDoorAfresh d Door.shuts)
  | rex {d : Nat} (used : (u.door d).cfg.kind ≠ .unused) :
      DoorOp u
        ((u.moveDoor d fun door => { door.grant u.now with rex := ⟨some u.now, u.freeCount⟩ }).setFreeCount (u.freeCount + 1))
  | accessExpire {d : Nat} : DoorOp u (u.moveDoor d Door.accessExpire)
  | hold {d : Fin 8} : DoorOp u (u.holdDoor d)
  | jam {d : Nat} : DoorOp u (u.jamDoor d)
  | unjam {d : Nat} (jammed : (u.door d).state = .jammed) : DoorOp u (u.unjamDoor d)
  | pulse {src door : Nat} : DoorOp u (u.orderPulse src door)

/-- The call controller's. -/
inductive CallOp (u : State) : State → Prop
  | clearAsked {sender src serial : Nat} : CallOp u (u.decideClear sender src serial)
  | take {sender src serial : Nat} : CallOp u (u.decideTake sender src serial)
  | giveup {sender src serial : Nat} : CallOp u (u.decideGiveup sender src serial)
  | press {p : Fin 8} (used : (u.point p).kind ≠ .unused) : CallOp u ((u.qualifyPoint p true).pressPoint p)
  | qualify {p : Nat} {active : Bool} : CallOp u (u.qualifyPoint p active)
  | key : CallOp u (State.turnKey (u.setCc { u.cc with keyOn := some true }))
  | unanswered {src : Nat} {call : Call} (present : u.call src = some call) : CallOp u (u.unansweredExpire src call)
  | attend {src : Nat} {call : Call} (present : u.call src = some call) : CallOp u (u.attendExpire src call)
  | reannounce {src : Nat} : CallOp u (u.announce src)

/-- The attention list's. -/
inductive ListOp (u : State) : State → Prop
  | call {src : Nat} {p : CallPayload} (wf : p.wf = true) : ListOp u (u.hearCall src p)
  | clear {origin source serial clearedBy : Nat} : ListOp u (u.hearClear origin source serial clearedBy)
  | expire {origin source : Nat} {e : Entry} (listed : u.entry origin source = some e) : ListOp u (u.expireEntry e)
  | takeTimeout {origin source : Nat} {e : Entry} (listed : u.entry origin source = some e) : ListOp u (u.takeUnanswered e)

/-- The signal driver's. -/
inductive SignalOp (c : Instr) (u : State) : State → Prop
  | signs {sense : BitVec 4} (row : c = .signStepExpiry sense) :
      SignalOp c u (((u.setPins { u.pins with signSense := sense }).forEach 4 State.stepSign).startSignTimer)
  | strip {k : Fin 2} {sense : BitVec 32} (row : c = .stripStepExpiry k sense) (running : (u.strip k).timer ≠ none) :
      SignalOp c u ((u.setPins { u.pins with stripSense := u.pins.stripSense.set k sense }).stepStrip k (u.strip k) sense)
  | cadence (row : c = .cadenceTimerExpiry) (running : u.sd.cadenceTimer ≠ none) : SignalOp c u u.turnCadence
  | lampCheck (row : c = .lampCheck) (calm : u.isEvacuating = false) : SignalOp c u (u.forEach 2 checkStrip)

/-- The duration tester's. -/
inductive TestOp (c : Instr) (u : State) : State → Prop
  | minute (running : u.dt.minute ≠ none) : TestOp c u u.countMinute
  | battery {low : Bool} : TestOp c u (u.takeBattery low)
  | suspendTimer (running : u.dt.suspend ≠ none) : TestOp c u (u.endTest (.aborted .suspendTimeout) none)
  | start {min : Nat} (run : u.running = true) (free : u.startBar = none) : TestOp c u (u.startTest min)
  | suspend (row : c = .testSuspend) (run : u.running = true) (running : u.dt.state = .running) : TestOp c u (u.suspendTest .host)
  | resume (row : c = .testResume) (run : u.running = true) (free : u.resumeBar = none) : TestOp c u (u.resumeTest .host)
  | abort (run : u.running = true) (underWay : u.dt.state ≠ .idle) : TestOp c u (u.endTest (.aborted .host) none)

/-- The owner's operation, by block. -/
inductive Footprint (c : Instr) (u v : State) : Prop
  | run (running : u.cl.listen ≠ none) (h : v = u.enterRun)
  | confirm (running : u.fl.confirm ≠ none) (h : v = u.confirmExpire)
  | reset {source target : Nat} {clears : Bool} (row : c = .fireReset ∨ ∃ src target, c = .orderFireReset src target)
      (h : v = u.decideReset source target clears)
  | detector (op : DetectorOp u v)
  | line (op : LineOp u v)
  | table (op : TableOp c u v)
  | sent (op : SentOp c u v)
  | doors (acts : actsOnDoors c = true) (op : DoorOp u v)
  | calls (op : CallOp u v)
  | list (op : ListOp u v)
  | signals (op : SignalOp c u v)
  | test (op : TestOp c u v)

theorem Owns.footprint {c : Instr} {u v : State} {peer : Option Nat} {pressed : List Nat} (h : Owns c u v peer pressed) :
    Footprint c u v := by
  cases h with
  | enterRun r => exact .run r rfl
  | confirm r => exact .confirm r rfl
  | orderReset => exact .reset (.inr ⟨_, _, rfl⟩) rfl
  | fireReset => exact .reset (.inl rfl) rfl
  | sample taken => exact .detector (.sample taken)
  | drift => exact .detector .drift
  | rates => exact .detector .rates
  | hold => exact .detector .hold
  | walkTime => exact .detector .endWalk
  | walkStop => exact .detector .endWalk
  | walkStart run active => exact .detector (.beginWalk active)
  | isolate => exact .detector .isolate
  | restore => exact .detector .restore
  | collide r => exact .line (.collide r)
  | stuckBegin => exact .line .stuckBegin
  | stuckExpire => exact .line .stuckExpire
  | checkError => exact .line .checkError
  | ageNoise => exact .line .ageNoise
  | duplicate => exact .line .duplicate
  | refresh r => exact .line (.refresh r)
  | state source wf other => exact .table (.state wf)
  | flag row code => exact .table (.flag row code)
  | silence => exact .table (.silence rfl)
  | loseSlot r => exact .table (.loseSlot r)
  | complete r => exact .sent (.complete rfl r)
  | order run kind entered => exact .sent (.order rfl run kind)
  | contact used first => exact .doors rfl (.contact used first)
  | feedback used row => exact .doors (by rcases row with rfl | rfl <;> rfl) (.feedback used)
  | opening used shut => exact .doors rfl (.opening used)
  | shutting used => exact .doors rfl (.shutting used)
  | rex used => exact .doors rfl (.rex used)
  | accessExpire => exact .doors rfl .accessExpire
  | holdDoor => exact .doors rfl .hold
  | jam => exact .doors rfl .jam
  | unjam jammed => exact .doors rfl (.unjam jammed)
  | orderPulse => exact .doors rfl .pulse
  | clearAsked => exact .calls .clearAsked
  | take => exact .calls .take
  | giveup => exact .calls .giveup
  | press used row => exact .calls (.press used)
  | qualify => exact .calls .qualify
  | key => exact .calls .key
  | unanswered present => exact .calls (.unanswered present)
  | attend present => exact .calls (.attend present)
  | reannounce => exact .calls .reannounce
  | call wf => exact .list (.call wf)
  | clear => exact .list .clear
  | entryExpires listed => exact .list (.expire listed)
  | takeTimeout listed => exact .list (.takeTimeout listed)
  | signs => exact .signals (.signs rfl)
  | strip r => exact .signals (.strip rfl r)
  | cadence r => exact .signals (.cadence rfl r)
  | lampCheck run calm => exact .signals (.lampCheck rfl calm)
  | minute r => exact .test (.minute r)
  | battery => exact .test .battery
  | suspendTimer r => exact .test (.suspendTimer r)
  | testStart run free => exact .test (.start run free)
  | testSuspend run running => exact .test (.suspend rfl run running)
  | testResume run free => exact .test (.resume rfl run free)
  | testAbort run underWay => exact .test (.abort run underWay)

/-! ### What each block's operations can change -/

/-- A sample's event: the walk test's fields, the channels and the reports. -/
theorem State.takeSampleEvent_changes (s : State) (c : Nat) (before : Bool) (e : SampleEvent) :
    ∃ channels active timer tested recorded r, s.takeSampleEvent c before e =
      { s with
        ds := { s.ds with channels := channels }
        fl := { s.fl with walkActive := active, walkTimer := timer, tested := tested, lastRecorded := recorded }
        ap := { s.ap with reports := r } } := by
  have reports {t : State} (h : ∃ r, t = { s with ap := { s.ap with reports := r } }) :
      ∃ channels active timer tested recorded r, t =
        { s with
          ds := { s.ds with channels := channels }
          fl := { s.fl with walkActive := active, walkTimer := timer, tested := tested, lastRecorded := recorded }
          ap := { s.ap with reports := r } } := by
    obtain ⟨r, rfl⟩ := h
    exact ⟨s.ds.channels, s.fl.walkActive, s.fl.walkTimer, s.fl.tested, s.fl.lastRecorded, r, rfl⟩
  cases e with
  | nothing => exact reports (s.reportIf_changes _ _ _ _)
  | faulted cls => exact reports (s.report_changes _ _ _)
  | faultInAlarm cls => exact reports (s.report_changes _ _ _)
  | recovered => exact reports (s.report_changes _ _ _)
  | burst =>
    dsimp only [State.takeSampleEvent, State.completeBurst]
    split
    · exact ⟨_, _, _, _, _, _, rfl⟩
    · obtain ⟨a, t, m, l, r, h⟩ := s.endWalk_changes .secondAlarm
      rw [h]
      exact ⟨_, _, _, _, _, _, rfl⟩

theorem DetectorOp.changes {u v : State} (op : DetectorOp u v) :
    ∃ ds active timer tested recorded r, v =
      { u with
        ds := ds
        fl := { u.fl with walkActive := active, walkTimer := timer, tested := tested, lastRecorded := recorded }
        ap := { u.ap with reports := r } } := by
  cases op with
  | @sample c code n taken =>
    unfold State.takeSample
    dsimp only
    obtain ⟨_, _, _, _, _, _, h⟩ := State.takeSampleEvent_changes
      ((u.passSlot n).setChannel c (((u.passSlot n).channel c).sample code (u.passSlot n).nt.mode (u.passSlot n).slotHoldsFire
        (u.passSlot n).cl.node.v (u.passSlot n).now).1) c ((u.passSlot n).channel c).driftLimit
      (((u.passSlot n).channel c).sample code (u.passSlot n).nt.mode (u.passSlot n).slotHoldsFire
        (u.passSlot n).cl.node.v (u.passSlot n).now).2
    exact ⟨_, _, _, _, _, _, h⟩
  | drift =>
    obtain ⟨w, h⟩ := forEach_stepDrift_changes u 16
    rw [h]
    exact ⟨_, u.fl.walkActive, u.fl.walkTimer, u.fl.tested, u.fl.lastRecorded, _, rfl⟩
  | rates => exact ⟨_, u.fl.walkActive, u.fl.walkTimer, u.fl.tested, u.fl.lastRecorded, u.ap.reports, rfl⟩
  | hold => exact ⟨_, u.fl.walkActive, u.fl.walkTimer, u.fl.tested, u.fl.lastRecorded, u.ap.reports, rfl⟩
  | @isolate c =>
    unfold State.isolateChannel
    dsimp only
    obtain ⟨r, h⟩ := State.reportIf_changes (u.setChannel c (u.channel c).isolate) (u.channel c).driftLimit .driftLimit c 0
    rw [h]
    exact ⟨_, u.fl.walkActive, u.fl.walkTimer, u.fl.tested, u.fl.lastRecorded, _, rfl⟩
  | restore => exact ⟨_, u.fl.walkActive, u.fl.walkTimer, u.fl.tested, u.fl.lastRecorded, _, rfl⟩
  | @endWalk why =>
    obtain ⟨_, _, _, _, _, h⟩ := u.endWalk_changes why
    exact ⟨u.ds, _, _, _, _, _, h⟩
  | beginWalk => exact ⟨u.ds, _, _, _, _, _, rfl⟩

theorem LineOp.changes {u v : State} (op : LineOp u v) :
    ∃ lc r, v = { u with lc := lc, ap := { u.ap with reports := r } } := by
  cases op with
  | collide => exact u.collide_changes
  | stuckBegin => exact u.stuckBegin_changes
  | stuckExpire => exact u.stuckExpire_changes
  | checkError => exact u.noteCheckError_changes
  | ageNoise => exact u.ageNoise_changes
  | duplicate => exact u.noteDuplicate_changes _
  | refresh => exact ⟨_, u.ap.reports, rfl⟩

theorem TableOp.changes {c : Instr} {u v : State} (op : TableOp c u v) :
    ∃ nt r, v = { u with nt := nt, ap := { u.ap with reports := r } } := by
  cases op with
  | @state src p =>
    obtain ⟨_, _, h⟩ := u.takeState_changes src p
    obtain ⟨_, _, _, _, h'⟩ := (u.takeState src p).adopt_changes src p
    rw [h', h]
    exact ⟨_, _, rfl⟩
  | flag =>
    obtain ⟨_, _, _, _, h⟩ := u.applyFlag_changes _ _
    exact ⟨_, _, h⟩
  | silence => exact ⟨_, _, rfl⟩
  | loseSlot => exact ⟨_, _, rfl⟩

theorem State.applyOwnOrder_changes (s : State) (code : Nat) :
    ∃ nt r, s.applyOwnOrder code = { s with nt := nt, ap := { s.ap with reports := r } } := by
  unfold State.applyOwnOrder
  split
  · obtain ⟨_, _, _, _, h⟩ := s.applyFlag_changes _ s.nodeId
    exact ⟨_, _, h⟩
  · exact ⟨s.nt, s.ap.reports, rfl⟩

theorem SentOp.changes {c : Instr} {u v : State} (op : SentOp c u v) :
    ∃ lc al nt r, v = { u with lc := lc, al := al, nt := nt, ap := { u.ap with reports := r } } := by
  cases op with
  | @complete sent sending =>
    obtain ⟨_, _, h⟩ := u.completeSending_changes
    generalize u.completeSending = w at h
    subst h
    unfold State.handCompletion
    split
    · exact ⟨_, _, _, _, rfl⟩
    · obtain ⟨_, h⟩ := State.takeCompleted_changes _ _ _ _
      rw [h]
      exact ⟨_, _, _, _, rfl⟩
    · obtain ⟨_, _, h⟩ := State.applyOwnOrder_changes _ _
      rw [h]
      exact ⟨_, _, _, _, rfl⟩
    · exact ⟨_, _, _, _, rfl⟩
    · exact ⟨_, _, _, _, rfl⟩
    · exact ⟨_, _, _, _, rfl⟩
  | order =>
    obtain ⟨_, _, h⟩ := State.applyOwnOrder_changes _ _
    rw [h]
    exact ⟨_, _, _, _, rfl⟩

theorem DoorOp.changes {u v : State} (op : DoorOp u v) :
    ∃ doors calls serials lc r free, v =
      { u with
        doors := doors
        cc := { u.cc with calls := calls, serials := serials }
        lc := lc
        ap := { u.ap with reports := r }
        freeCount := free } := by
  cases op with
  | contact => exact ⟨_, u.cc.calls, u.cc.serials, u.lc, u.ap.reports, u.freeCount, rfl⟩
  | feedback => exact ⟨_, u.cc.calls, u.cc.serials, u.lc, u.ap.reports, u.freeCount, rfl⟩
  | @opening d =>
    unfold State.openDoor
    dsimp only
    split
    · obtain ⟨_, _, _, _, h⟩ := State.doorAlarm_changes
        ((u.moveDoorAfresh d fun door => door.opens u.now).report .doorForced d
          (u.moveDoorAfresh d fun door => door.opens u.now).nt.mode.code) (8 + d) .forced
        (if (u.moveDoorAfresh d fun door => door.opens u.now).nt.mode = .night then 0 else 1)
      exact ⟨_, _, _, _, _, u.freeCount, h⟩
    · exact ⟨_, u.cc.calls, u.cc.serials, u.lc, u.ap.reports, u.freeCount, rfl⟩
  | shutting => exact ⟨_, u.cc.calls, u.cc.serials, u.lc, u.ap.reports, u.freeCount, rfl⟩
  | rex => exact ⟨_, u.cc.calls, u.cc.serials, u.lc, u.ap.reports, _, rfl⟩
  | accessExpire => exact ⟨_, u.cc.calls, u.cc.serials, u.lc, u.ap.reports, u.freeCount, rfl⟩
  | @hold d =>
    unfold State.holdDoor
    dsimp only
    split
    · obtain ⟨_, _, _, _, h⟩ := State.doorAlarm_changes
        ((u.moveDoor d Door.openExpire).report .doorHeld d (u.door d).cfg.limitSeconds) (8 + d) .held 3
      exact ⟨_, _, _, _, _, u.freeCount, h⟩
    · exact ⟨_, u.cc.calls, u.cc.serials, u.lc, u.ap.reports, u.freeCount, rfl⟩
  | jam => exact ⟨_, u.cc.calls, u.cc.serials, u.lc, _, u.freeCount, rfl⟩
  | unjam => exact ⟨_, u.cc.calls, u.cc.serials, u.lc, _, u.freeCount, rfl⟩
  | @pulse src door =>
    unfold State.orderPulse
    split
    · exact ⟨u.doors, u.cc.calls, u.cc.serials, u.lc, _, u.freeCount, rfl⟩
    · exact ⟨_, u.cc.calls, u.cc.serials, u.lc, u.ap.reports, u.freeCount, rfl⟩

theorem CallOp.changes {u v : State} (op : CallOp u v) :
    ∃ cc lc r, v = { u with cc := cc, lc := lc, ap := { u.ap with reports := r } } := by
  cases op with
  | @clearAsked a b c =>
    obtain ⟨_, _, _, _, h⟩ := u.decideClear_changes a b c
    exact ⟨_, _, _, h⟩
  | @take a b c =>
    obtain ⟨_, _, _, h⟩ := u.decideTake_changes a b c
    exact ⟨_, _, _, h⟩
  | @giveup a b c =>
    obtain ⟨_, _, _, h⟩ := u.decideGiveup_changes a b c
    exact ⟨_, _, _, h⟩
  | @press p =>
    obtain ⟨_, _, _, h⟩ := State.press_changes (u.qualifyPoint p true) p
      ((u.qualifyPoint p true).point p).kind.callKind ((u.qualifyPoint p true).point p).priority
    exact ⟨_, u.lc, _, h⟩
  | qualify => exact ⟨_, u.lc, u.ap.reports, rfl⟩
  | key =>
    obtain ⟨_, _, _, _, h⟩ := State.turnKey_changes (u.setCc { u.cc with keyOn := some true })
    exact ⟨_, _, _, h⟩
  | @unanswered src call =>
    obtain ⟨_, _, _, h⟩ := u.unansweredExpire_changes src call
    exact ⟨_, _, _, h⟩
  | @attend src call =>
    obtain ⟨_, _, _, h⟩ := u.attendExpire_changes src call
    exact ⟨_, _, _, h⟩
  | @reannounce src =>
    obtain ⟨_, _, h⟩ := u.announce_changes src
    exact ⟨_, _, u.ap.reports, h⟩

theorem ListOp.changes {u v : State} (op : ListOp u v) :
    ∃ al r, v = { u with al := al, ap := { u.ap with reports := r } } := by
  cases op with
  | call => exact u.hearCall_changes _ _
  | clear => exact u.hearClear_changes _ _ _ _
  | expire => exact ⟨_, _, rfl⟩
  | takeTimeout => exact ⟨_, _, rfl⟩

theorem SignalOp.changes {c : Instr} {u v : State} (op : SignalOp c u v) :
    ∃ sd pins r free, v = { u with sd := sd, pins := pins, ap := { u.ap with reports := r }, freeCount := free } := by
  cases op with
  | @signs sense =>
    obtain ⟨_, h⟩ := State.stepSigns_changes (u.setPins { u.pins with signSense := sense }) 4
    rw [h]
    exact ⟨_, _, _, u.freeCount, rfl⟩
  | @strip k sense =>
    obtain ⟨_, _, h⟩ := State.stepStrip_changes
      (u.setPins { u.pins with stripSense := u.pins.stripSense.set k sense }) k (u.strip k) sense
    exact ⟨_, _, _, u.freeCount, h⟩
  | cadence => exact ⟨_, u.pins, u.ap.reports, u.freeCount, rfl⟩
  | lampCheck =>
    obtain ⟨_, h⟩ := State.eachStrip_changes _ checkStrip_changes 2 u
    rw [h]
    exact ⟨_, u.pins, _, _, rfl⟩

theorem TestOp.changes {c : Instr} {u v : State} (op : TestOp c u v) :
    ∃ dt marker r, v = { u with dt := dt, marker := marker, ap := { u.ap with reports := r } } := by
  cases op with
  | minute =>
    unfold State.countMinute
    dsimp only
    split
    · exact ⟨_, _, _, rfl⟩
    · exact ⟨_, u.marker, u.ap.reports, rfl⟩
  | battery =>
    unfold State.takeBattery
    dsimp only
    split
    · exact ⟨_, _, _, rfl⟩
    · exact ⟨_, u.marker, u.ap.reports, rfl⟩
  | suspendTimer => exact ⟨_, _, _, rfl⟩
  | start => exact u.startTest_changes _
  | suspend => exact ⟨_, u.marker, _, rfl⟩
  | resume => exact u.resumeTest_changes _
  | abort => exact ⟨_, _, _, rfl⟩

theorem State.confirmExpire_changes (s : State) :
    ∃ g c t r, s.confirmExpire =
      { s with fl := { s.fl with gallery := g, cause := c, confirm := t }, ap := { s.ap with reports := r } } := by
  obtain ⟨_, _, _, _, h⟩ := (s.setFl { s.fl with confirm := none }).evaluate_changes true
  exact ⟨_, _, _, _, h⟩

theorem State.decideReset_changes (s : State) (a b : Nat) (c : Bool) :
    ∃ fl channels latch slots r, s.decideReset a b c =
      { s with
        fl := fl
        ds := { s.ds with channels := channels }
        nt := { s.nt with latch := latch, slots := slots }
        ap := { s.ap with reports := r } } := by
  unfold State.decideReset
  split
  · exact ⟨s.fl, s.ds.channels, s.nt.latch, s.nt.slots, _, rfl⟩
  · exact s.acceptReset_changes a b c

end Sys2Proof.Machine
end

/-! ## The state in which LOADING ends (R177) -/

section
namespace Sys2Proof.Machine

/-! ### The configuration's records are those of a restart -/

/-- What every configuration gives the blocks: as many records as each list holds, each at its value after restart. -/
structure Configuration.Fresh (c : Configuration) : Prop where
  slots : c.slots.length = 8
  slot : ∀ k ∈ c.slots, ∃ id link cost, k = Slot.afterRestart id link cost ∧ 1 ≤ cost
  channels : c.channels.length = 16
  doors : c.doors.length = 8
  points : c.points.length = 8
  point : ∀ p ∈ c.points, p.input = none ∧ (p.kind ≠ .unused → p.priority ≤ 3)
  signs : c.signs.length = 4
  sign : ∀ g ∈ c.signs, ∃ used default map, g = Sign.afterRestart used default map
  strips : c.strips.length = 2
  strip : ∀ p ∈ c.strips, ∃ n w pp step offset map, p = Strip.afterRestart n w pp step offset map

theorem takeSlot_fresh (img : List Byte) (k : Nat) :
    ∃ id link cost, (takeSlot img k).value = Slot.afterRestart id link cost ∧ 1 ≤ cost := by
  unfold takeSlot
  split
  · exact ⟨0, none, 1, rfl, by omega⟩
  · exact ⟨_, _, _, rfl, by unfold clampTo; omega⟩

theorem takePoint_fresh (img : List Byte) (p : Nat) :
    (takePoint img p).value.input = none ∧ ((takePoint img p).value.kind ≠ .unused → (takePoint img p).value.priority ≤ 3) := by
  refine ⟨rfl, fun used => ?_⟩
  unfold takePoint at used ⊢
  dsimp only at used ⊢
  rw [if_neg used]
  split <;> omega

theorem takeSign_fresh (img : List Byte) (n : Nat) :
    ∃ used default map, (takeSign img n).value = Sign.afterRestart used default map := by
  unfold takeSign
  dsimp only
  split
  · exact ⟨_, _, _, rfl⟩
  · exact ⟨_, _, _, rfl⟩

theorem takeStrip_fresh (img : List Byte) (k : Nat) :
    ∃ n w pp step offset map, (takeStrip img k).value = Strip.afterRestart n w pp step offset map := by
  unfold takeStrip
  dsimp only
  split
  · exact ⟨_, _, _, _, _, _, rfl⟩
  · exact ⟨_, _, _, _, _, _, rfl⟩

theorem validConfig_fresh (img : List Byte) : (validConfig img).Fresh where
  slots := rfl
  slot k h := by
    obtain ⟨x, hx, rfl⟩ := List.mem_map.1 h
    obtain ⟨i, -, rfl⟩ := List.mem_map.1 hx
    exact takeSlot_fresh img i
  channels := rfl
  doors := rfl
  points := rfl
  point p h := by
    obtain ⟨x, hx, rfl⟩ := List.mem_map.1 h
    obtain ⟨i, -, rfl⟩ := List.mem_map.1 hx
    exact takePoint_fresh img i
  signs := rfl
  sign g h := by
    obtain ⟨x, hx, rfl⟩ := List.mem_map.1 h
    obtain ⟨i, -, rfl⟩ := List.mem_map.1 hx
    exact takeSign_fresh img i
  strips := rfl
  strip p h := by
    obtain ⟨x, hx, rfl⟩ := List.mem_map.1 h
    obtain ⟨i, -, rfl⟩ := List.mem_map.1 hx
    exact takeStrip_fresh img i

theorem defaultConfig_fresh (strap : Mode) : (defaultConfig strap).Fresh where
  slots := rfl
  slot k h := ⟨0, none, 1, List.eq_of_mem_replicate h, by omega⟩
  channels := rfl
  doors := rfl
  points := rfl
  point p h := by rw [List.eq_of_mem_replicate h]; exact ⟨rfl, fun _ => by decide⟩
  signs := rfl
  sign g h := ⟨_, _, _, List.eq_of_mem_replicate h⟩
  strips := rfl
  strip p h := ⟨_, _, _, _, _, _, List.eq_of_mem_replicate h⟩

theorem configOf_fresh (img : List Byte) (strap : Mode) : (configOf img strap).Fresh := by
  unfold configOf
  split
  · exact validConfig_fresh img
  · exact defaultConfig_fresh strap

/-! ### What stands after the end of the read -/

theorem State.loaded_closed (s : State) (img : List Byte) (strap : Mode) : (s.loaded img strap).offersOpen = false := rfl

/-- The end of LOADING: the records of the configuration, a call and reports; nothing is offered to the line before RUN. -/
theorem State.leaveLoading_changes (s : State) (img : List Byte) (strap : Mode) :
    ∃ calls serials r, s.leaveLoading img strap =
      { s.loaded img strap with
        cc := { (s.loaded img strap).cc with calls := calls, serials := serials }
        ap := { (s.loaded img strap).ap with reports := r } } := by
  unfold State.leaveLoading
  dsimp only
  generalize State.restarted .loading s.ap.port s.pending s.marker s.pins s.freeCount = old
  obtain ⟨calls, serials, r, h⟩ := faultFollow_changes old (s.loaded img strap).reportConfig
  have closed : (faultFollow old (s.loaded img strap).reportConfig).offersOpen = false := by rw [h]; rfl
  obtain ⟨calls', lc, h'⟩ := announceFollow_changes old (faultFollow old (s.loaded img strap).reportConfig) []
  have line := State.announceEach_lc_closed ((faultFollow old (s.loaded img strap).reportConfig).tableOrder.filter
    (announcementDue old (faultFollow old (s.loaded img strap).reportConfig) [])) closed
  have same : lc = (s.loaded img strap).lc := by
    have := congrArg State.lc h'
    rw [h] at line
    exact (this.symm.trans (by rw [h]; exact line)).trans rfl
  rw [h', same, h]
  exact ⟨calls', serials, r, rfl⟩

end Sys2Proof.Machine
end

/-! ## What every command keeps

An invariant is kept by every command, and by every step, where the restarts, the end of the image's read, each owner's operation with its
follow-up, and each change of an owner alone keep it. -/

section
namespace Sys2Proof.Machine

/-- `I` holds after a restart and after the end of the image's read, and is kept by all that a command can do to it otherwise. -/
structure Kept (I : State → Prop) : Prop where
  answered {s t : State} : Answered s t → I s → I t
  moment {s u : State} : AtEvent s u → I s → I u
  pending {s : State} (rest : List Instr) : I s → I (s.setPending rest)
  restarts (s : State) {phase : Phase} (port : Port) : phase = .loading ∨ phase = .held → I (s.restart phase port)
  loads (s : State) (bytes : List Byte) (strap : Mode) : I (s.leaveLoading bytes strap)
  follows {c : Instr} {u v : State} {peer : Option Nat} {pressed : List Nat} :
    u.awake = true → Owns c u v peer pressed → I u → I (settle u v peer pressed)
  alone {c : Instr} {u v : State} : Alone c u v → I u → I v

theorem Kept.exec {I : State → Prop} (k : Kept I) {c : Instr} {s t : State} (held : I s) (h : exec c s = .next t) : I t := by
  cases exec_moves h with
  | restarts asleep h => exact k.answered h (k.restarts _ _ asleep)
  | loads _ _ h => rw [h]; exact k.loads s _ _
  | follows awake moment owner h =>
    refine k.answered h (k.follows ?_ owner (k.moment moment held))
    obtain ⟨_, _, _, _, rfl⟩ := moment
    exact awake
  | alone moment owner h => exact k.answered h (k.alone owner (k.moment moment held))

theorem AtEvent.tick (s : State) : AtEvent s s.tick := by
  unfold State.tick
  split
  · exact ⟨s.now + 1, s.lc.deaf, s.freeCount, .inr rfl, rfl⟩
  · exact .refl s

theorem Kept.step {I : State → Prop} (k : Kept I) {s t : State} (held : I s) (h : step s = .next t) : I t := by
  rcases step_cases h with rfl | ⟨c, rest, -, h⟩
  · exact k.moment (.tick s) held
  · exact k.exec (k.pending rest held) h

/-- What an owner alone can change. -/
theorem Alone.changes {c : Instr} {u v : State} (h : Alone c u v) :
    ∃ channels next grant walk lc doors r al sd, v =
      { u with
        ds := { u.ds with channels := channels, nextSlot := next, grant := grant }
        fl := { u.fl with walkTimer := walk }
        lc := lc
        doors := doors
        ap := { u.ap with reports := r }
        al := al
        sd := sd } := by
  cases h with
  | @grant _ n choice => cases choice <;> exact ⟨_, _, _, u.fl.walkTimer, u.lc, u.doors, u.ap.reports, u.al, u.sd, rfl⟩
  | stuckEnd =>
    unfold State.stuckEnd
    split <;> exact ⟨u.ds.channels, u.ds.nextSlot, u.ds.grant, u.fl.walkTimer, _, u.doors, u.ap.reports, u.al, u.sd, rfl⟩
  | clearLamps =>
    obtain ⟨r, e⟩ := State.reportIf_changes (u.setSd { u.sd with
      signs := u.sd.signs.map fun g => { g with fault := false }
      strips := u.sd.strips.map fun p => { p with latch := none } }) (0 < u.lampFaults) .lampCleared noSubject u.lampFaults
    rw [State.clearLamps, e]
    exact ⟨u.ds.channels, u.ds.nextSlot, u.ds.grant, u.fl.walkTimer, u.lc, u.doors, _, u.al, _, rfl⟩
  | _ => exact ⟨u.ds.channels, u.ds.nextSlot, u.ds.grant, _, _, _, _, _, _, rfl⟩

/-- Of the channels' records an odd slot's grant alone changes one, in the time of the last odd slot. -/
theorem Alone.map_channels {c : Instr} {u v : State} (h : Alone c u v) {α : Type} (f : Channel → α)
    (kept : ∀ ch n, f { ch with lastOdd := n } = f ch) : v.ds.channels.map f = u.ds.channels.map f := by
  cases h with
  | @grant _ n choice =>
    cases choice with
    | none => rfl
    | some c => exact State.map_setChannel (s := u) f (kept _ _)
  | stuckEnd => unfold State.stuckEnd; split <;> rfl
  | clearLamps =>
    obtain ⟨r, e⟩ := State.reportIf_changes (u.setSd { u.sd with
      signs := u.sd.signs.map fun g => { g with fault := false }
      strips := u.sd.strips.map fun p => { p with latch := none } }) (0 < u.lampFaults) .lampCleared noSubject u.lampFaults
    rw [State.clearLamps, e]
    rfl
  | _ => rfl

/-- From LISTEN or RUN to LISTEN or RUN a command is an event with its follow-up, or a change of an owner alone. -/
theorem exec_awake {c : Instr} {s t : State} (awake : s.awake = true) (awake' : t.awake = true) (h : exec c s = .next t) :
    (∃ u v peer pressed, AtEvent s u ∧ Owns c u v peer pressed ∧ Answered (settle u v peer pressed) t) ∨
      ∃ u v, AtEvent s u ∧ Alone c u v ∧ Answered v t := by
  cases exec_moves h with
  | @restarts phase port asleep a =>
    have sleeps := s.restart_asleep asleep port
    obtain ⟨_, _, rfl⟩ := a
    exact absurd (sleeps.symm.trans awake') nofun
  | loads _ loading =>
    unfold State.awake at awake
    rw [loading] at awake
    cases awake
  | follows _ moment owner a => exact .inl ⟨_, _, _, _, moment, owner, a⟩
  | alone moment owner a => exact .inr ⟨_, _, moment, owner, a⟩

/-- The moment of an event changes no phase. -/
theorem AtEvent.awake {s u : State} (h : AtEvent s u) : u.awake = s.awake := by
  obtain ⟨_, _, _, _, rfl⟩ := h
  rfl

theorem Answered.running {s t : State} (h : Answered s t) : t.running = s.running := by
  obtain ⟨_, _, rfl⟩ := h
  rfl

end Sys2Proof.Machine
end

/-! ## Lists by place -/

section
namespace Sys2Proof.Machine

theorem getD_mem {α : Type} {l : List α} {i : Nat} (h : i < l.length) (d : α) : l.getD i d ∈ l := by
  rw [List.getD_eq_getElem l d h]
  exact List.getElem_mem h

theorem mem_getD {α : Type} {l : List α} {x : α} (h : x ∈ l) (d : α) : ∃ i < l.length, l.getD i d = x := by
  obtain ⟨i, low, rfl⟩ := List.mem_iff_getElem.1 h
  exact ⟨i, low, List.getD_eq_getElem l d low⟩

theorem forall_mem_iff_getD {α : Type} {l : List α} {n : Nat} (len : l.length = n) (d : α) {P : α → Prop} :
    (∀ x ∈ l, P x) ↔ ∀ i < n, P (l.getD i d) := by
  subst len
  refine ⟨fun h i low => h _ (getD_mem low d), fun h x mem => ?_⟩
  obtain ⟨i, low, rfl⟩ := mem_getD mem d
  exact h i low

theorem exists_mem_iff_getD {α : Type} {l : List α} {n : Nat} (len : l.length = n) (d : α) {P : α → Prop} :
    (∃ x ∈ l, P x) ↔ ∃ i < n, P (l.getD i d) := by
  subst len
  constructor
  · rintro ⟨x, mem, h⟩
    obtain ⟨i, low, rfl⟩ := mem_getD mem d
    exact ⟨i, low, h⟩
  · rintro ⟨i, low, h⟩
    exact ⟨_, getD_mem low d, h⟩

/-- Where at most one element is such, there is at most one place of such. -/
theorem place_unique {α : Type} {l : List α} {p : α → Bool} (few : l.countP p ≤ 1) {d : α} {i j : Nat} (hi : i < l.length)
    (hj : j < l.length) (pi : p (l.getD i d) = true) (pj : p (l.getD j d) = true) : i = j := by
  have ordered {i j : Nat} (hi : i < l.length) (hj : j < l.length) (pi : p (l.getD i d) = true) (pj : p (l.getD j d) = true) :
      ¬ i < j := fun lt => by
    rw [List.getD_eq_getElem l d hi] at pi
    rw [List.getD_eq_getElem l d hj] at pj
    have first : 0 < (l.take j).countP p := List.countP_pos_iff.2 ⟨l[i], List.mem_take_iff_getElem.2 ⟨i, by omega, rfl⟩, pi⟩
    have second : 0 < (l.drop j).countP p :=
      List.countP_pos_iff.2 ⟨l[j], List.mem_drop_iff_getElem.2 ⟨0, by omega, by simp⟩, pj⟩
    have whole : (l.take j).countP p + (l.drop j).countP p = l.countP p := by rw [← List.countP_append, List.take_append_drop]
    omega
  have := ordered hi hj pi pj
  have := ordered hj hi pj pi
  omega

end Sys2Proof.Machine
end

/-! ## What owners leave of the configuration, and what they make of a door -/

section
namespace Sys2Proof.Machine

/-! ### Slots -/

/-- A slot's configuration: id, link door, cost. -/
def Slot.config (k : Slot) : Nat × Option Nat × Nat := (k.id, k.link, k.cost)

/-- The configurations of the slots. -/
def State.slotConfigs (s : State) : List (Nat × Option Nat × Nat) := s.nt.slots.map Slot.config

theorem State.setSlot_configs {s : State} {k : Nat} {v : Slot} (h : v.config = (s.slot k).config) :
    (s.setSlot k v).slotConfigs = s.slotConfigs := map_set_same Slot.config h

theorem State.reportHeard_slots (s : State) (k : Nat) (b : Presence) (g : FireState) :
    (s.reportHeard k b g).nt.slots = s.nt.slots := by
  obtain ⟨_, h⟩ := s.reportHeard_changes k b g
  rw [h]

theorem State.takeState_configs (s : State) (src : Nat) (p : StatePayload) :
    (s.takeState src p).slotConfigs = s.slotConfigs := by
  unfold State.takeState
  split
  · rfl
  · exact (congrArg (List.map Slot.config) (State.reportHeard_slots _ _ _ _)).trans (State.setSlot_configs rfl)

/-- The orders and the adoption leave the slots. -/
theorem State.applyFlag_slots (s : State) (o : FlagOrder) (n : Nat) : (s.applyFlag o n).nt.slots = s.nt.slots := by
  obtain ⟨_, _, _, _, h⟩ := s.applyFlag_changes o n
  rw [h]

theorem State.adopt_slots (s : State) (src : Nat) (p : StatePayload) : (s.adopt src p).nt.slots = s.nt.slots := by
  obtain ⟨_, _, _, _, h⟩ := s.adopt_changes src p
  rw [h]

theorem State.applyOwnOrder_slots (s : State) (code : Nat) : (s.applyOwnOrder code).nt.slots = s.nt.slots := by
  unfold State.applyOwnOrder
  split
  · exact s.applyFlag_slots _ _
  · rfl

theorem State.clearHeld_configs (s : State) : s.clearHeld.slotConfigs = s.slotConfigs := by
  unfold State.clearHeld
  refine State.forEach_keeps State.slotConfigs (fun w k => ?_) 8 s
  dsimp only
  split
  · exact State.setSlot_configs (s := w) rfl
  · rfl

theorem TableOp.configs {c : Instr} {u v : State} (op : TableOp c u v) : v.slotConfigs = u.slotConfigs := by
  cases op with
  | state => exact (congrArg (List.map Slot.config) (State.adopt_slots _ _ _)).trans (u.takeState_configs _ _)
  | flag => exact congrArg (List.map Slot.config) (State.applyFlag_slots _ _ _)
  | silence => rfl
  | loseSlot => exact State.setSlot_configs (s := u) rfl

theorem SentOp.slots {c : Instr} {u v : State} (op : SentOp c u v) : v.nt.slots = u.nt.slots := by
  cases op with
  | @complete sent sending =>
    obtain ⟨_, _, h⟩ := u.completeSending_changes
    generalize u.completeSending = w at h
    subst h
    unfold State.handCompletion
    split
    · rfl
    · obtain ⟨_, h⟩ := State.takeCompleted_changes _ _ _ _
      rw [h]
    · exact State.applyOwnOrder_slots _ _
    · rfl
    · rfl
    · rfl
  | order => exact State.applyOwnOrder_slots _ _

/-! ### Doors -/

/-- `e` is door `d` but for its state, inputs, lock drive and timers. -/
def Door.Same (d e : Door) : Prop := e.cfg = d.cfg ∧ e.magnet = d.magnet

/-- `e` is door `d` after a change of its own: its lock is driven as R94 asks. -/
structure Door.Moved (free : Bool) (d e : Door) : Prop where
  cfg : e.cfg = d.cfg
  magnet : e.magnet = d.magnet
  lock : e.lock = lockDrive free e

theorem Door.driveAfresh_lock (d : Door) (free : Bool) (now : Nat) :
    (d.driveAfresh free now).lock = lockDrive free (d.driveAfresh free now) := rfl

theorem Door.drive_lock (d : Door) (free : Bool) (now : Nat) : (d.drive free now).lock = lockDrive free (d.drive free now) := by
  unfold Door.drive
  split
  · assumption
  · rfl

theorem Door.Same.drive {d e : Door} (h : d.Same e) (free : Bool) (now : Nat) : d.Moved free (e.drive free now) where
  cfg := (Door.drive_cfg_state e free now).1.trans h.1
  magnet := Eq.trans (by unfold Door.drive; split <;> rfl) h.2
  lock := e.drive_lock free now

theorem Door.Same.driveAfresh {d e : Door} (h : d.Same e) (free : Bool) (now : Nat) : d.Moved free (e.driveAfresh free now) where
  cfg := h.1
  magnet := h.2
  lock := e.driveAfresh_lock free now

theorem Door.derive_same (d : Door) (free : Bool) (now : Nat) : d.Same (d.derive free now) := by
  unfold Door.derive
  repeat' split
  all_goals exact ⟨rfl, rfl⟩

theorem Door.opens_same (d : Door) (now : Nat) : d.Same (d.opens now) := by
  unfold Door.opens
  dsimp only
  split <;> exact ⟨rfl, rfl⟩

theorem Door.shuts_same (d : Door) : d.Same d.shuts := by
  unfold Door.shuts
  dsimp only
  split <;> exact ⟨rfl, rfl⟩

theorem Door.firstContact_same (d : Door) (v : Contact) (free : Bool) (now : Nat) : d.Same (d.firstContact v free now) := by
  unfold Door.firstContact
  dsimp only
  split
  · split <;> exact ⟨rfl, rfl⟩
  · exact Door.derive_same { d with contact := some v } free now

theorem Door.grant_same (d : Door) (now : Nat) : d.Same (d.grant now) := by
  unfold Door.grant
  split <;> exact ⟨rfl, rfl⟩

theorem Door.accessExpire_same (d : Door) : d.Same d.accessExpire := by
  unfold Door.accessExpire
  dsimp only
  split <;> exact ⟨rfl, rfl⟩

theorem Door.openExpire_same (d : Door) : d.Same d.openExpire := by
  unfold Door.openExpire
  dsimp only
  split <;> exact ⟨rfl, rfl⟩

theorem Door.freeBegins_same (d : Door) : d.Same d.freeBegins := by
  unfold Door.freeBegins
  split <;> exact ⟨rfl, rfl⟩

theorem Door.freeEnds_same (d : Door) (now : Nat) : d.Same (d.freeEnds now) := by
  unfold Door.freeEnds
  split <;> exact ⟨rfl, rfl⟩

/-- From `u` to `v` one door at most has made a change of its own. -/
def State.OneDoorMoved (u v : State) : Prop :=
  v.doors = u.doors ∨ ∃ d w, (u.door d).Moved (u.freeCondition (u.door d)) w ∧ v.doors = u.doors.set d w

theorem State.moveDoor_moved {u : State} {d : Nat} {f : Door → Door} (h : (u.door d).Same (f (u.door d))) :
    u.OneDoorMoved (u.moveDoor d f) := .inr ⟨d, _, h.drive _ _, rfl⟩

theorem State.moveDoorAfresh_moved {u : State} {d : Nat} {f : Door → Door} (h : (u.door d).Same (f (u.door d))) :
    u.OneDoorMoved (u.moveDoorAfresh d f) := .inr ⟨d, _, h.driveAfresh _ _, rfl⟩

theorem State.OneDoorMoved.of_doors {u v w : State} (h : u.OneDoorMoved v) (same : w.doors = v.doors) : u.OneDoorMoved w := by
  unfold State.OneDoorMoved
  rw [same]
  exact h

theorem State.doorAlarm_doors (s : State) (src : Nat) (k : CallKind) (b : Nat) : (s.doorAlarm src k b).doors = s.doors := by
  obtain ⟨_, _, _, _, h⟩ := s.doorAlarm_changes src k b
  rw [h]

theorem DoorOp.moved {u v : State} (op : DoorOp u v) : u.OneDoorMoved v := by
  cases op with
  | contact => exact State.moveDoorAfresh_moved (Door.firstContact_same _ _ _ _)
  | feedback => exact State.moveDoorAfresh_moved ⟨rfl, rfl⟩
  | @opening d =>
    have moved : u.OneDoorMoved (u.moveDoorAfresh d fun door => door.opens u.now) :=
      State.moveDoorAfresh_moved (Door.opens_same _ _)
    unfold State.openDoor
    dsimp only
    split
    · exact moved.of_doors (State.doorAlarm_doors _ _ _ _)
    · exact moved
  | shutting => exact State.moveDoorAfresh_moved (Door.shuts_same _)
  | rex => exact (State.moveDoor_moved (f := fun door => { door.grant u.now with rex := ⟨some u.now, u.freeCount⟩ })
      (Door.grant_same _ _)).of_doors rfl
  | accessExpire => exact State.moveDoor_moved (Door.accessExpire_same _)
  | @hold d =>
    have moved : u.OneDoorMoved (u.moveDoor d Door.openExpire) := State.moveDoor_moved (Door.openExpire_same _)
    unfold State.holdDoor
    dsimp only
    split
    · exact moved.of_doors (State.doorAlarm_doors _ _ _ _)
    · exact moved
  | @jam d => exact (State.moveDoorAfresh_moved (d := d) (f := Door.enterJam) ⟨rfl, rfl⟩).of_doors rfl
  | @unjam d => exact (State.moveDoorAfresh_moved (d := d) (f := fun door => door.derive (u.freeCondition door) u.now)
      (Door.derive_same _ _ _)).of_doors rfl
  | pulse =>
    unfold State.orderPulse
    split
    · exact .inl rfl
    · exact State.moveDoor_moved (Door.grant_same _ _)

/-- The configurations of the doors. -/
def State.doorConfigs (s : State) : List DoorConfig := s.doors.map Door.cfg

theorem State.OneDoorMoved.configs {u v : State} (h : u.OneDoorMoved v) : v.doorConfigs = u.doorConfigs := by
  rcases h with same | ⟨d, w, moved, set_⟩
  · exact congrArg (List.map Door.cfg) same
  · unfold State.doorConfigs
    rw [set_]
    exact map_set_same (d := Door.idle .unused) Door.cfg moved.cfg

/-! ### Every owner -/

theorem State.decideReset_slotConfigs (s : State) (a b : Nat) (clears : Bool) :
    (s.decideReset a b clears).slotConfigs = s.slotConfigs := by
  unfold State.decideReset
  split
  · rfl
  · have latch (u : State) (w : LatchClear) : (u.clearLatch w).slotConfigs = u.slotConfigs := by
      obtain ⟨_, _, h⟩ := u.clearLatch_changes w; rw [h]; rfl
    have end_ (u : State) (w : WalkEnd) : (u.endWalk w).slotConfigs = u.slotConfigs := by
      obtain ⟨_, _, _, _, _, h⟩ := u.endWalk_changes w; rw [h]; rfl
    have gallery (u : State) (g : FireState) : (u.setGallery g).slotConfigs = u.slotConfigs := by
      obtain ⟨_, _, h⟩ := u.setGallery_changes g; rw [h]; rfl
    show (State.setGallery _ _).slotConfigs = _
    rw [gallery]
    cases clears
    · rw [if_neg Bool.false_ne_true, latch, end_]; rfl
    · rw [if_pos rfl, State.clearHeld_configs, latch, end_]; rfl

/-- No owner changes a slot's configuration. -/
theorem Footprint.slotConfigs {c : Instr} {u v : State} (h : Footprint c u v) : v.slotConfigs = u.slotConfigs := by
  cases h with
  | run running h => rw [h]; rfl
  | confirm running h => obtain ⟨_, _, _, _, e⟩ := u.confirmExpire_changes; rw [h, e]; rfl
  | reset _ h => rw [h]; exact u.decideReset_slotConfigs _ _ _
  | detector op => obtain ⟨_, _, _, _, _, _, rfl⟩ := op.changes; rfl
  | line op => obtain ⟨_, _, rfl⟩ := op.changes; rfl
  | table op => exact op.configs
  | sent op => exact congrArg (List.map Slot.config) op.slots
  | doors _ op => obtain ⟨_, _, _, _, _, _, rfl⟩ := op.changes; rfl
  | calls op => obtain ⟨_, _, _, rfl⟩ := op.changes; rfl
  | list op => obtain ⟨_, _, rfl⟩ := op.changes; rfl
  | signals op => obtain ⟨_, _, _, _, rfl⟩ := op.changes; rfl
  | test op => obtain ⟨_, _, _, rfl⟩ := op.changes; rfl

/-- Every owner but a door's own operation leaves the doors. -/
theorem Footprint.moved {c : Instr} {u v : State} (h : Footprint c u v) : u.OneDoorMoved v := by
  cases h with
  | run running h => rw [h]; exact .inl rfl
  | confirm running h => obtain ⟨_, _, _, _, e⟩ := u.confirmExpire_changes; rw [h, e]; exact .inl rfl
  | @reset a b clears _ h => obtain ⟨_, _, _, _, _, e⟩ := u.decideReset_changes a b clears; rw [h, e]; exact .inl rfl
  | detector op => obtain ⟨_, _, _, _, _, _, rfl⟩ := op.changes; exact .inl rfl
  | line op => obtain ⟨_, _, rfl⟩ := op.changes; exact .inl rfl
  | table op => obtain ⟨_, _, rfl⟩ := op.changes; exact .inl rfl
  | sent op => obtain ⟨_, _, _, _, rfl⟩ := op.changes; exact .inl rfl
  | doors _ op => exact op.moved
  | calls op => obtain ⟨_, _, _, rfl⟩ := op.changes; exact .inl rfl
  | list op => obtain ⟨_, _, rfl⟩ := op.changes; exact .inl rfl
  | signals op => obtain ⟨_, _, _, _, rfl⟩ := op.changes; exact .inl rfl
  | test op => obtain ⟨_, _, _, rfl⟩ := op.changes; exact .inl rfl

/-- What no owner changes: command queue, clock, configuration fields, route record, port. -/
theorem Footprint.changes {c : Instr} {u v : State} (h : Footprint c u v) :
    ∃ phase listen ds fl lc nt doors cc al sd dt marker r pins free, v =
      { u with
        cl := { u.cl with phase := phase, listen := listen }
        ds := ds
        fl := fl
        lc := lc
        nt := nt
        doors := doors
        cc := cc
        al := al
        sd := sd
        dt := dt
        marker := marker
        ap := { u.ap with reports := r }
        pins := pins
        freeCount := free } := by
  cases h with
  | run running h =>
    rw [h]
    exact ⟨_, _, _, u.fl, u.lc, u.nt, u.doors, u.cc, u.al, u.sd, u.dt, u.marker, u.ap.reports, u.pins, u.freeCount, rfl⟩
  | confirm running h =>
    obtain ⟨_, _, _, _, e⟩ := u.confirmExpire_changes
    rw [h, e]
    exact ⟨u.cl.phase, u.cl.listen, u.ds, _, u.lc, u.nt, u.doors, u.cc, u.al, u.sd, u.dt, u.marker, _, u.pins, u.freeCount, rfl⟩
  | @reset a b clears _ h =>
    obtain ⟨_, _, _, _, _, e⟩ := u.decideReset_changes a b clears
    rw [h, e]
    exact ⟨u.cl.phase, u.cl.listen, _, _, u.lc, _, u.doors, u.cc, u.al, u.sd, u.dt, u.marker, _, u.pins, u.freeCount, rfl⟩
  | detector op =>
    obtain ⟨_, _, _, _, _, _, rfl⟩ := op.changes
    exact ⟨u.cl.phase, u.cl.listen, _, _, u.lc, u.nt, u.doors, u.cc, u.al, u.sd, u.dt, u.marker, _, u.pins, u.freeCount, rfl⟩
  | line op =>
    obtain ⟨_, _, rfl⟩ := op.changes
    exact ⟨u.cl.phase, u.cl.listen, u.ds, u.fl, _, u.nt, u.doors, u.cc, u.al, u.sd, u.dt, u.marker, _, u.pins, u.freeCount, rfl⟩
  | table op =>
    obtain ⟨_, _, rfl⟩ := op.changes
    exact ⟨u.cl.phase, u.cl.listen, u.ds, u.fl, u.lc, _, u.doors, u.cc, u.al, u.sd, u.dt, u.marker, _, u.pins, u.freeCount, rfl⟩
  | sent op =>
    obtain ⟨_, _, _, _, rfl⟩ := op.changes
    exact ⟨u.cl.phase, u.cl.listen, u.ds, u.fl, _, _, u.doors, u.cc, _, u.sd, u.dt, u.marker, _, u.pins, u.freeCount, rfl⟩
  | doors _ op =>
    obtain ⟨_, _, _, _, _, _, rfl⟩ := op.changes
    exact ⟨u.cl.phase, u.cl.listen, u.ds, u.fl, _, u.nt, _, _, u.al, u.sd, u.dt, u.marker, _, u.pins, _, rfl⟩
  | calls op =>
    obtain ⟨_, _, _, rfl⟩ := op.changes
    exact ⟨u.cl.phase, u.cl.listen, u.ds, u.fl, _, u.nt, u.doors, _, u.al, u.sd, u.dt, u.marker, _, u.pins, u.freeCount, rfl⟩
  | list op =>
    obtain ⟨_, _, rfl⟩ := op.changes
    exact ⟨u.cl.phase, u.cl.listen, u.ds, u.fl, u.lc, u.nt, u.doors, u.cc, _, u.sd, u.dt, u.marker, _, u.pins, u.freeCount, rfl⟩
  | signals op =>
    obtain ⟨_, _, _, _, rfl⟩ := op.changes
    exact ⟨u.cl.phase, u.cl.listen, u.ds, u.fl, u.lc, u.nt, u.doors, u.cc, u.al, _, u.dt, u.marker, _, _, _, rfl⟩
  | test op =>
    obtain ⟨_, _, _, rfl⟩ := op.changes
    exact ⟨u.cl.phase, u.cl.listen, u.ds, u.fl, u.lc, u.nt, u.doors, u.cc, u.al, u.sd, _, _, _, u.pins, u.freeCount, rfl⟩

/-- No owner changes the route record. -/
theorem Footprint.ru {c : Instr} {u v : State} (h : Footprint c u v) : v.ru = u.ru := by
  obtain ⟨_, _, _, _, _, _, _, _, _, _, _, _, _, _, _, rfl⟩ := h.changes
  rfl

/-- No owner changes the node's configuration fields, nor the clock and the queue of commands. -/
theorem Footprint.node {c : Instr} {u v : State} (h : Footprint c u v) :
    v.cl.node = u.cl.node ∧ v.cl.invalid = u.cl.invalid ∧ v.cl.clampCount = u.cl.clampCount ∧ v.cl.firstClamp = u.cl.firstClamp ∧
      v.now = u.now ∧ v.pending = u.pending := by
  obtain ⟨_, _, _, _, _, _, _, _, _, _, _, _, _, _, _, rfl⟩ := h.changes
  exact ⟨rfl, rfl, rfl, rfl, rfl, rfl⟩

end Sys2Proof.Machine
end

/-! ## The gallery fire state (R26 to R29) -/

section
namespace Sys2Proof.Machine

/-! ### What its conditions read -/

/-- Channel states with kinds, slots, points' levels and Tc: all that R27 and R29 read. -/
def State.fireInputs (s : State) : List (ChannelState × ChannelKind) × List (Presence × FireState) × List Bool × Nat :=
  (s.ds.channels.map fun ch => (ch.state, ch.cfg.kind), s.slotFires, s.fireLevels, s.cl.node.tc)

theorem State.firstInAlarm_eq (s : State) (kind : ChannelKind) :
    s.firstInAlarm kind = s.fireInputs.1.findIdx? fun p => decide (p.1 = .alarm) && decide (p.2 = kind) := by
  simp [State.firstInAlarm, State.fireInputs, List.findIdx?_map, Function.comp_def, Channel.inAlarm]

theorem State.smokeAlarms_eq (s : State) :
    s.smokeAlarms = s.fireInputs.1.countP fun p => decide (p.1 = .alarm) && decide (p.2 = .smoke) := by
  simp [State.smokeAlarms, State.fireInputs, List.countP_map, Function.comp_def, Channel.inAlarm]

theorem State.activeFirePoint_eq (s : State) : s.activeFirePoint = s.fireInputs.2.2.1.findIdx? fun active => active := by
  simp [State.activeFirePoint, State.fireInputs, State.fireLevels, List.findIdx?_map, Function.comp_def]

theorem State.agreeingSlot_eq (s : State) :
    s.agreeingSlot =
      s.fireInputs.2.1.findIdx? fun p => decide (p.1 = .fresh) && (decide (p.2 = .suspect) || decide (p.2 = .fire)) := by
  simp only [State.agreeingSlot, State.fireInputs, State.slotFires, List.findIdx?_map]
  congr 1
  funext k
  unfold Slot.fresh Slot.offeredFire Slot.heard Function.comp
  cases used : k.used
  · simp [used]
  · cases heard : k.presence <;> simp [used, heard]

theorem State.anyInAlarm_eq (s : State) :
    s.ds.channels.any (·.inAlarm) = s.fireInputs.1.any fun p => decide (p.1 = .alarm) := by
  simp [State.fireInputs, List.any_map, Function.comp_def, Channel.inAlarm]

theorem State.anyNearAlarm_eq (s : State) :
    s.ds.channels.any (·.nearAlarm) = s.fireInputs.1.any fun p => decide (p.1 = .prealarm) || decide (p.1 = .verify) := by
  simp [State.fireInputs, List.any_map, Function.comp_def, Channel.nearAlarm]

theorem State.slotHoldsFire_eq (s : State) : s.slotHoldsFire = s.fireInputs.2.1.any fun p => decide (p.2 = .fire) := by
  simp [State.slotHoldsFire, State.fireInputs, State.slotFires, List.any_map, Function.comp_def]

theorem State.fireCondition_congr {a b : State} (h : b.fireInputs = a.fireInputs) (out : Bool) :
    b.fireCondition out = a.fireCondition out := by
  have tc : b.cl.node.tc = a.cl.node.tc := congrArg (·.2.2.2) h
  unfold State.fireCondition
  rw [State.firstInAlarm_eq, State.firstInAlarm_eq, State.activeFirePoint_eq, State.smokeAlarms_eq, State.agreeingSlot_eq, h, tc,
    ← State.firstInAlarm_eq, ← State.firstInAlarm_eq, ← State.activeFirePoint_eq, ← State.smokeAlarms_eq, ← State.agreeingSlot_eq]

theorem State.derivedState_congr {a b : State} (h : b.fireInputs = a.fireInputs) : b.derivedState = a.derivedState := by
  unfold State.derivedState
  rw [State.smokeAlarms_eq, State.anyInAlarm_eq, State.anyNearAlarm_eq, State.slotHoldsFire_eq, h,
    ← State.smokeAlarms_eq, ← State.anyInAlarm_eq, ← State.anyNearAlarm_eq, ← State.slotHoldsFire_eq]

theorem State.derivedState_ne_fire (s : State) : s.derivedState ≠ .fire := by
  unfold State.derivedState
  repeat' split
  all_goals exact nofun

theorem State.derivedState_suspect {s : State} : s.derivedState = .suspect ↔ s.smokeAlarms = 1 := by
  unfold State.derivedState
  split
  · simp_all
  · split <;> simp_all

/-! ### The invariant in the state of an event -/

/-- The gallery fire state and the confirm-delay timer are those the inputs give (R26 to R29). -/
structure State.FireSettled (s : State) : Prop where
  timer : s.fl.confirm ≠ none ↔ s.fl.gallery = .suspect
  derived : s.fl.gallery ≠ .fire → s.fireCondition false = none ∧ s.fl.gallery = s.derivedState

theorem State.galleryFollows_iff {s : State} : s.GalleryFollows ↔ (s.awake = true → s.FireSettled) :=
  ⟨fun h a => ⟨(h a).1, (h a).2⟩, fun h a => ⟨(h a).timer, (h a).derived⟩⟩

theorem State.FireSettled.congr {a b : State} (h : a.FireSettled) (inputs : b.fireInputs = a.fireInputs)
    (gallery : b.fl.gallery = a.fl.gallery) (confirm : b.fl.confirm = a.fl.confirm) : b.FireSettled where
  timer := by rw [confirm, gallery]; exact h.timer
  derived := by rw [gallery, State.fireCondition_congr inputs, State.derivedState_congr inputs]; exact h.derived

theorem State.setGallery_fireInputs (s : State) (g : FireState) : (s.setGallery g).fireInputs = s.fireInputs := by
  obtain ⟨_, _, h⟩ := s.setGallery_changes g
  rw [h]; rfl

theorem State.setGallery_gallery (s : State) (g : FireState) : (s.setGallery g).fl.gallery = g := by
  obtain ⟨_, _, h⟩ := s.setGallery_changes g
  rw [h]

theorem State.setGallery_timer {s : State} (timer : s.fl.confirm ≠ none ↔ s.fl.gallery = .suspect) (g : FireState) :
    (s.setGallery g).fl.confirm ≠ none ↔ (s.setGallery g).fl.gallery = .suspect := by
  rw [s.setGallery_gallery, s.setGallery_confirm]
  split
  · rename_i same; rw [← same]; exact timer
  · split <;> simp_all

theorem State.confirmFire_gallery (s : State) (c : Cause) (a b : Option Nat) :
    (s.confirmFire c a b).fl.gallery = .fire := by
  obtain ⟨_, _, h⟩ := s.confirmFire_changes c a b
  rw [h]

/-- R28: entering FIRE stops the confirm-delay timer. -/
theorem State.confirmFire_confirm {s : State} (below : s.fl.gallery ≠ .fire) (c : Cause) (a b : Option Nat) :
    (s.confirmFire c a b).fl.confirm = none := by
  have stopped := State.setGallery_confirm (s.setFl { s.fl with cause := ⟨c, a, b, some s.seconds⟩ }) .fire
  rw [if_neg (show (s.setFl { s.fl with cause := ⟨c, a, b, some s.seconds⟩ }).fl.gallery ≠ .fire from below),
    if_neg (by decide)] at stopped
  exact stopped

/-- R27: below FIRE a FIRE condition confirms the fire. -/
theorem State.evaluate_condition {s : State} {out : Bool} {c : Cause} {a b : Option Nat} (below : s.fl.gallery ≠ .fire)
    (found : s.fireCondition out = some (c, a, b)) : s.evaluate out = s.confirmFire c a b := by
  rw [State.evaluate, if_neg below, found]

/-- R26 to R29: after an evaluation the state is the one its inputs give. -/
theorem State.evaluate_settled {s : State} (timer : s.fl.confirm ≠ none ↔ s.fl.gallery = .suspect) :
    (s.evaluate false).FireSettled := by
  unfold State.evaluate
  split
  · rename_i fire; exact ⟨timer, fun h => absurd fire h⟩
  · rename_i below
    split
    · rename_i c a b _
      refine ⟨?_, fun h => absurd (s.confirmFire_gallery c a b) h⟩
      rw [s.confirmFire_gallery, State.confirmFire_confirm below]
      simp
    · rename_i none_
      refine ⟨State.setGallery_timer timer _, fun _ => ?_⟩
      rw [State.fireCondition_congr (s.setGallery_fireInputs _), State.derivedState_congr (s.setGallery_fireInputs _),
        s.setGallery_gallery]
      exact ⟨none_, rfl⟩

/-- An evaluation that finds the state it derives changes nothing (R31). -/
theorem State.evaluate_same {s : State} (h : s.fl.gallery ≠ .fire → s.fireCondition false = none ∧ s.fl.gallery = s.derivedState) :
    s.evaluate false = s := by
  unfold State.evaluate
  split
  · rfl
  · rename_i below
    obtain ⟨none_, derived⟩ := h below
    rw [none_]
    exact if_pos derived

/-! ### What follows an event's owner -/

theorem walkFollow_fireInputs (old s : State) : (walkFollow old s).fireInputs = s.fireInputs := by
  obtain ⟨_, _, _, _, _, h⟩ := walkFollow_changes old s
  rw [h]; rfl

theorem walkFollow_gallery (old s : State) :
    (walkFollow old s).fl.gallery = s.fl.gallery ∧ (walkFollow old s).fl.confirm = s.fl.confirm := by
  obtain ⟨_, _, _, _, _, h⟩ := walkFollow_changes old s
  rw [h]; exact ⟨rfl, rfl⟩

theorem fireFollow_fireInputs (old s : State) : (fireFollow old s).fireInputs = s.fireInputs := by
  obtain ⟨_, _, h⟩ := fireFollow_changes old s
  rw [h]; rfl

/-- The kinds of the channels, and Tc, which no event changes. -/
def State.fireConfig (s : State) : List ChannelKind × Nat := (s.ds.channels.map (·.cfg.kind), s.cl.node.tc)

/-- Two lists of pairs with the same first and the same second parts are the same. -/
theorem map_pair_eq {α β γ : Type} {f : α → β} {g : α → γ} {l m : List α} (first : l.map f = m.map f)
    (second : l.map g = m.map g) : (l.map fun x => (f x, g x)) = m.map fun x => (f x, g x) := by
  have zip (l : List α) : (l.map fun x => (f x, g x)) = (l.map f).zip (l.map g) := by
    rw [List.zip_map']
  rw [zip, zip, first, second]

/-- Where no evaluation is due the inputs are as before the event. -/
theorem fireInputs_of_unchanged {old s : State} (h : fireInputsChanged old s = false) (config : s.fireConfig = old.fireConfig) :
    s.fireInputs = old.fireInputs := by
  simp only [fireInputsChanged, Bool.or_eq_false_iff, bne_eq_false_iff_eq] at h
  obtain ⟨⟨⟨states, slots⟩, levels⟩, -⟩ := h
  have kinds : s.ds.channels.map (·.cfg.kind) = old.ds.channels.map (·.cfg.kind) := congrArg (·.1) config
  have tc : s.cl.node.tc = old.cl.node.tc := congrArg (·.2) config
  have channels : (s.ds.channels.map fun ch => (ch.state, ch.cfg.kind)) = old.ds.channels.map fun ch => (ch.state, ch.cfg.kind) :=
    map_pair_eq states.symm kinds
  unfold State.fireInputs
  rw [channels, slots, levels, tc]

/-- R26 to R29 at the end of an event whose owner leaves the gallery fire state. -/
theorem fireFollow_settled {old s : State} (settled : old.FireSettled) (config : s.fireConfig = old.fireConfig)
    (gallery : s.fl.gallery = old.fl.gallery) (confirm : s.fl.confirm = old.fl.confirm) : (fireFollow old s).FireSettled := by
  have walk := walkFollow_gallery old s
  have same : (walkFollow old s).fl.gallery = old.fl.gallery ∧ (walkFollow old s).fl.confirm = old.fl.confirm :=
    ⟨walk.1.trans gallery, walk.2.trans confirm⟩
  have kept : (walkFollow old s).fireConfig = old.fireConfig := by
    obtain ⟨_, _, _, _, _, h⟩ := walkFollow_changes old s
    rw [h]; exact config
  unfold fireFollow
  dsimp only
  cases changed : fireInputsChanged old (walkFollow old s)
  · exact settled.congr (fireInputs_of_unchanged changed kept) same.1 same.2
  · refine State.evaluate_settled ?_
    rw [same.1, same.2]
    exact settled.timer

/-- And of one whose owner has settled it. -/
theorem fireFollow_of_settled {old s : State} (settled : s.FireSettled) : (fireFollow old s).FireSettled ∧
    (fireFollow old s).fl.gallery = s.fl.gallery ∧ (fireFollow old s).fl.confirm = s.fl.confirm := by
  have walk := walkFollow_gallery old s
  have w : (walkFollow old s).FireSettled := settled.congr (walkFollow_fireInputs old s) walk.1 walk.2
  unfold fireFollow
  dsimp only
  split
  · rw [State.evaluate_same w.derived]; exact ⟨w, walk⟩
  · exact ⟨w, walk⟩

/-! ### The owners -/

theorem Channel.sample_cfg (ch : Channel) (code : Nat) (mode : Mode) (reduced : Bool) (v now : Nat) :
    (ch.sample code mode reduced v now).1.cfg = ch.cfg := by
  have fault (cls : SampleClass) : (ch.faultSample cls).1.cfg = ch.cfg := by
    unfold Channel.faultSample
    repeat' split
    all_goals rfl
  unfold Channel.sample
  split
  · unfold Channel.goodSample
    dsimp only
    repeat' split
    all_goals rfl
  · exact fault _

theorem Channel.driftStep_cfg (ch : Channel) : ch.driftStep.cfg = ch.cfg := by
  obtain ⟨_, _, h⟩ := ch.driftStep_changes; rw [h]

theorem Channel.rateStep_cfg (ch : Channel) : ch.rateStep.cfg = ch.cfg := by
  obtain ⟨_, h⟩ := ch.rateStep_changes; rw [h]

theorem Channel.holdExpire_cfg (ch : Channel) : ch.holdExpire.cfg = ch.cfg := by
  unfold Channel.holdExpire; split <;> rfl

theorem Channel.fireReset_cfg (ch : Channel) : ch.fireReset.cfg = ch.cfg := by
  unfold Channel.fireReset; dsimp only; split <;> rfl

/-- The configurations of the channels. -/
def State.channelConfigs (s : State) : List ChannelConfig := s.ds.channels.map (·.cfg)

theorem State.setChannel_configs {s : State} {c : Nat} {v : Channel} (h : v.cfg = (s.channel c).cfg) :
    (s.setChannel c v).channelConfigs = s.channelConfigs := State.map_setChannel (·.cfg) h

theorem State.report_configs (s : State) (k : ReportKind) (a b : Nat) : (s.report k a b).channelConfigs = s.channelConfigs := rfl

theorem State.reportIf_configs (s : State) (c : Bool) (k : ReportKind) (a b : Nat) :
    (s.reportIf c k a b).channelConfigs = s.channelConfigs := by
  cases c <;> rfl

theorem State.endWalk_configs (s : State) (why : WalkEnd) : (s.endWalk why).channelConfigs = s.channelConfigs := by
  obtain ⟨_, _, _, _, _, h⟩ := s.endWalk_changes why
  rw [h]; rfl

theorem State.completeBurst_configs (s : State) (c : Nat) : (s.completeBurst c).channelConfigs = s.channelConfigs := by
  unfold State.completeBurst
  split
  · exact State.setChannel_configs (by rfl)
  · exact (State.setChannel_configs (by rfl)).trans (s.endWalk_configs _)

theorem State.takeSampleEvent_configs (s : State) (c : Nat) (before : Bool) (e : SampleEvent) :
    (s.takeSampleEvent c before e).channelConfigs = s.channelConfigs := by
  cases e with
  | nothing => exact s.reportIf_configs _ _ _ _
  | faulted cls => rfl
  | faultInAlarm cls => rfl
  | recovered => rfl
  | burst => exact s.completeBurst_configs c

theorem stepDrift_configs (s : State) (c : Nat) : (stepDrift s c).channelConfigs = s.channelConfigs :=
  (State.reportIf_configs _ _ _ _ _).trans (State.setChannel_configs (Channel.driftStep_cfg _))

theorem State.startDrift_configs (s : State) : s.startDrift.channelConfigs = s.channelConfigs := rfl

theorem State.map_channels_configs {s : State} {f : Channel → Channel} (h : ∀ ch, (f ch).cfg = ch.cfg) :
    (s.ds.channels.map f).map (·.cfg) = s.channelConfigs := by
  simp [State.channelConfigs, Function.comp_def, h]

theorem DetectorOp.configs {u v : State} (op : DetectorOp u v) : v.channelConfigs = u.channelConfigs := by
  cases op with
  | sample => exact (State.takeSampleEvent_configs _ _ _ _).trans (State.setChannel_configs (Channel.sample_cfg ..))
  | drift => exact (State.startDrift_configs _).trans (State.forEach_keeps State.channelConfigs stepDrift_configs 16 u)
  | rates => exact State.map_channels_configs Channel.rateStep_cfg
  | hold => exact State.setChannel_configs (Channel.holdExpire_cfg _)
  | @isolate c =>
    have kept : (u.setChannel c (u.channel c).isolate).channelConfigs = u.channelConfigs := State.setChannel_configs rfl
    exact (State.reportIf_configs (u.setChannel c (u.channel c).isolate) _ _ _ _).trans kept
  | @restore c =>
    have kept : (u.setChannel c ((u.channel c).restore u.now)).channelConfigs = u.channelConfigs := State.setChannel_configs rfl
    exact kept
  | endWalk => exact u.endWalk_configs _
  | beginWalk => rfl

theorem State.decideReset_configs (s : State) (a b : Nat) (clears : Bool) :
    (s.decideReset a b clears).channelConfigs = s.channelConfigs := by
  unfold State.decideReset
  split
  · rfl
  · exact (congrArg (List.map _) (s.acceptReset_channels a b clears)).trans (State.map_channels_configs Channel.fireReset_cfg)

/-- No owner changes a channel's configuration. -/
theorem Footprint.configs {c : Instr} {u v : State} (h : Footprint c u v) : v.channelConfigs = u.channelConfigs := by
  cases h with
  | run running h => rw [h]; rfl
  | confirm running h => obtain ⟨_, _, _, _, e⟩ := u.confirmExpire_changes; rw [h, e]; rfl
  | reset _ h => rw [h]; exact u.decideReset_configs _ _ _
  | detector op => exact op.configs
  | line op => obtain ⟨_, _, rfl⟩ := op.changes; rfl
  | table op => obtain ⟨_, _, rfl⟩ := op.changes; rfl
  | sent op => obtain ⟨_, _, _, _, rfl⟩ := op.changes; rfl
  | doors _ op => obtain ⟨_, _, _, _, _, _, rfl⟩ := op.changes; rfl
  | calls op => obtain ⟨_, _, _, rfl⟩ := op.changes; rfl
  | list op => obtain ⟨_, _, rfl⟩ := op.changes; rfl
  | signals op => obtain ⟨_, _, _, _, rfl⟩ := op.changes; rfl
  | test op => obtain ⟨_, _, _, rfl⟩ := op.changes; rfl

theorem Footprint.fireConfig {c : Instr} {u v : State} (h : Footprint c u v) : v.fireConfig = u.fireConfig := by
  have kinds : v.ds.channels.map (·.cfg.kind) = u.ds.channels.map (·.cfg.kind) := by
    simpa [State.channelConfigs, Function.comp_def] using congrArg (List.map ChannelConfig.kind) h.configs
  unfold State.fireConfig
  rw [kinds, h.node.1]

/-- The owners that decide the gallery fire state themselves: the confirm-delay timer's expiry, and an accepted fire reset. Every other
leaves it, with the cause record and the confirm-delay timer. -/
theorem Footprint.gallery {c : Instr} {u v : State} (h : Footprint c u v) :
    (v.fl.gallery = u.fl.gallery ∧ v.fl.confirm = u.fl.confirm ∧ v.fl.cause = u.fl.cause) ∨
      (u.fl.confirm ≠ none ∧ v = u.confirmExpire) ∨
      (u.activeFirePoint = none ∧ ∃ source target clears, v = u.acceptReset source target clears) := by
  cases h with
  | run running h => rw [h]; exact .inl ⟨rfl, rfl, rfl⟩
  | confirm running h => exact .inr (.inl ⟨running, h⟩)
  | @reset source target clears _ h =>
    unfold State.decideReset at h
    split at h
    · rw [h]; exact .inl ⟨rfl, rfl, rfl⟩
    · rename_i none_; exact .inr (.inr ⟨none_, source, target, clears, h⟩)
  | detector op => obtain ⟨_, _, _, _, _, _, rfl⟩ := op.changes; exact .inl ⟨rfl, rfl, rfl⟩
  | line op => obtain ⟨_, _, rfl⟩ := op.changes; exact .inl ⟨rfl, rfl, rfl⟩
  | table op => obtain ⟨_, _, rfl⟩ := op.changes; exact .inl ⟨rfl, rfl, rfl⟩
  | sent op => obtain ⟨_, _, _, _, rfl⟩ := op.changes; exact .inl ⟨rfl, rfl, rfl⟩
  | doors _ op => obtain ⟨_, _, _, _, _, _, rfl⟩ := op.changes; exact .inl ⟨rfl, rfl, rfl⟩
  | calls op => obtain ⟨_, _, _, rfl⟩ := op.changes; exact .inl ⟨rfl, rfl, rfl⟩
  | list op => obtain ⟨_, _, rfl⟩ := op.changes; exact .inl ⟨rfl, rfl, rfl⟩
  | signals op => obtain ⟨_, _, _, _, rfl⟩ := op.changes; exact .inl ⟨rfl, rfl, rfl⟩
  | test op => obtain ⟨_, _, _, rfl⟩ := op.changes; exact .inl ⟨rfl, rfl, rfl⟩


/-! ### What settles it -/

/-- R28: at the expiry of the confirm delay the lone SMOKE alarm is FIRE's condition. -/
theorem State.fireCondition_delay {s : State} (quiet : s.fireCondition false = none) (lone : s.smokeAlarms = 1) :
    ∃ c, s.fireCondition true = some (.delay, some c, none) := by
  have found : ∃ c, s.firstInAlarm .smoke = some c := by
    refine Option.ne_none_iff_exists'.1 fun none_ => ?_
    have : s.smokeAlarms = 0 := by
      rw [State.firstInAlarm, List.findIdx?_eq_none_iff] at none_
      exact List.countP_eq_zero.2 fun ch mem => by simpa using none_ ch mem
    omega
  obtain ⟨c, hc⟩ := found
  refine ⟨c, ?_⟩
  unfold State.fireCondition at quiet ⊢
  cases heat : s.firstInAlarm .heat with
  | some i => rw [heat] at quiet; cases quiet
  | none =>
    cases point : s.activeFirePoint with
    | some p => rw [heat, point] at quiet; cases quiet
    | none =>
      cases agreeing : s.agreeingSlot with
      | some k => rw [heat, point, hc, lone, agreeing] at quiet; cases quiet
      | none => simp [hc, lone]

theorem State.confirmExpire_settled {u : State} (settled : u.FireSettled) (running : u.fl.confirm ≠ none) :
    u.confirmExpire.FireSettled ∧ u.confirmExpire.fl.gallery = .fire := by
  have suspect := settled.timer.1 running
  obtain ⟨quiet, derived⟩ := settled.derived (by rw [suspect]; nofun)
  have lone : u.smokeAlarms = 1 := State.derivedState_suspect.1 (derived.symm.trans suspect)
  obtain ⟨c, found⟩ := State.fireCondition_delay quiet lone
  have below : (u.setFl { u.fl with confirm := none }).fl.gallery ≠ .fire := fun fire => nomatch suspect.symm.trans fire
  have fires := State.evaluate_condition below ((State.fireCondition_congr (a := u) rfl true).trans found)
  rw [State.confirmExpire, fires]
  have gallery := State.confirmFire_gallery (u.setFl { u.fl with confirm := none }) .delay (some c) none
  refine ⟨⟨?_, fun low => absurd gallery low⟩, gallery⟩
  rw [gallery, State.confirmFire_confirm below]
  simp

/-! #### A fire reset -/

theorem Channel.fireReset_calm (ch : Channel) : ch.fireReset.inAlarm = false := by
  unfold Channel.fireReset Channel.inAlarm
  dsimp only
  cases ch.state <;> cases ch.settled <;> simp [Channel.refill]

theorem State.derivedState_calm {s : State} (calm : ∀ ch ∈ s.ds.channels, ch.inAlarm = false)
    (points : s.activeFirePoint = none) : s.fireCondition false = none ∧ s.derivedState ≠ .suspect := by
  have none_ (kind : ChannelKind) : s.firstInAlarm kind = none :=
    List.findIdx?_eq_none_iff.2 fun ch mem => by rw [calm ch mem]; rfl
  have zero : s.smokeAlarms = 0 := List.countP_eq_zero.2 fun ch mem => by rw [calm ch mem]; exact nofun
  refine ⟨?_, fun suspect => ?_⟩
  · unfold State.fireCondition
    rw [none_, points, none_]
  · have := State.derivedState_suspect.1 suspect
    omega

/-- R33: the last of an accepted fire reset's list is the state derived from what it leaves. -/
theorem State.acceptReset_derives (u : State) (source target : Nat) (clears : Bool) :
    ∃ w : State, u.acceptReset source target clears = (w.setGallery w.derivedState).report .fireReset target source ∧
      w.ds.channels = u.ds.channels.map .fireReset ∧ w.cc = u.cc ∧ w.fl.confirm = none := by
  refine ⟨_, rfl, ?_⟩
  obtain ⟨_, _, _, _, _, walk⟩ := State.endWalk_changes
    ((u.setDs { u.ds with channels := u.ds.channels.map .fireReset }).setFl
      { (u.setDs { u.ds with channels := u.ds.channels.map .fireReset }).fl with confirm := none, cause := .clear }) .reset
  rw [walk]
  obtain ⟨_, _, latch⟩ := State.clearLatch_changes _ _
  rw [latch]
  split
  · obtain ⟨_, held⟩ := State.clearHeld_changes _
    rw [held]
    exact ⟨rfl, rfl, rfl⟩
  · exact ⟨rfl, rfl, rfl⟩

theorem State.acceptReset_settled {u : State} (points : u.activeFirePoint = none) (source target : Nat) (clears : Bool) :
    (u.acceptReset source target clears).FireSettled ∧ (u.acceptReset source target clears).fl.gallery ≠ .suspect := by
  obtain ⟨w, form, channels, cc, stopped⟩ := u.acceptReset_derives source target clears
  have calm : ∀ ch ∈ w.ds.channels, ch.inAlarm = false := fun ch mem => by
    rw [channels] at mem
    obtain ⟨before, -, rfl⟩ := List.mem_map.1 mem
    exact before.fireReset_calm
  obtain ⟨none_, unsuspected⟩ := State.derivedState_calm (s := w) calm (by rw [State.activeFirePoint, cc]; exact points)
  have settled : (w.setGallery w.derivedState).FireSettled := by
    refine ⟨?_, fun _ => ?_⟩
    · rw [State.setGallery_gallery, State.setGallery_confirm, if_neg unsuspected, stopped]
      simp [unsuspected]
    · rw [State.fireCondition_congr (State.setGallery_fireInputs ..), State.derivedState_congr (State.setGallery_fireInputs ..),
        State.setGallery_gallery]
      exact ⟨none_, rfl⟩
  rw [form]
  refine ⟨settled.congr rfl rfl rfl, fun suspect => unsuspected ?_⟩
  rw [← w.setGallery_gallery w.derivedState]
  exact suspect

/-! ### The end of an event -/

theorem settle_fireInputs (old s : State) (peer : Option Nat) (pressed : List Nat) :
    (settle old s peer pressed).fireInputs = s.fireInputs := by
  have detector := settle_keeps_detector old s peer pressed
  have table := settle_keeps_table old s peer pressed
  have node := settle_keeps_configuration old s peer pressed
  unfold State.fireInputs State.slotFires State.fireLevels
  rw [detector.1, table.1, table.2.2.2.2.1, node.1]

theorem settle_fireSettled {old s : State} (peer : Option Nat) (pressed : List Nat) (h : (fireFollow old s).FireSettled) :
    (settle old s peer pressed).FireSettled := by
  have fl := settle_fl old s peer pressed
  exact h.congr ((settle_fireInputs ..).trans (fireFollow_fireInputs old s).symm) (congrArg (·.gallery) fl)
    (congrArg (·.confirm) fl)

theorem Footprint.fireSettled {c : Instr} {u v : State} (f : Footprint c u v) (settled : u.FireSettled) : (fireFollow u v).FireSettled := by
  rcases f.gallery with ⟨gallery, confirm, -⟩ | ⟨running, rfl⟩ | ⟨points, source, target, clears, rfl⟩
  · exact fireFollow_settled settled f.fireConfig gallery confirm
  · exact (fireFollow_of_settled (State.confirmExpire_settled settled running).1).1
  · exact (fireFollow_of_settled (State.acceptReset_settled points source target clears).1).1

/-! ### After LOADING -/

theorem State.loaded_settled (s : State) (img : List Byte) (strap : Mode) : (s.leaveLoading img strap).FireSettled := by
  obtain ⟨calls, serials, r, e⟩ := s.leaveLoading_changes img strap
  have inputs : (s.leaveLoading img strap).fireInputs = (s.loaded img strap).fireInputs := by rw [e]; rfl
  have fresh := configOf_fresh img strap
  refine State.FireSettled.congr (a := s.loaded img strap) ⟨by simp [State.loaded, FireLogic.afterRestart], fun _ => ?_⟩ inputs
    (by rw [e]) (by rw [e])
  have channels : ∀ ch ∈ (s.loaded img strap).ds.channels, ch.inAlarm = false ∧ ch.nearAlarm = false := fun ch mem => by
    obtain ⟨cfg, -, rfl⟩ := List.mem_map.1 mem
    unfold Channel.afterRestart Channel.inAlarm Channel.nearAlarm
    dsimp only
    split <;> decide
  have points : (s.loaded img strap).activeFirePoint = none := List.findIdx?_eq_none_iff.2 fun p mem => by
    unfold Point.fireActive
    rw [(fresh.point p mem).1]
    simp
  have slots : (s.loaded img strap).slotHoldsFire = false := List.any_eq_false.2 fun k mem => by
    obtain ⟨id, link, cost, rfl, -⟩ := fresh.slot k mem
    simp [Slot.offeredFire, Slot.afterRestart, Slot.heard]
  obtain ⟨none_, -⟩ := State.derivedState_calm (fun ch mem => (channels ch mem).1) points
  refine ⟨none_, ?_⟩
  have zero : (s.loaded img strap).smokeAlarms = 0 := List.countP_eq_zero.2 fun ch mem => by rw [(channels ch mem).1]; exact nofun
  have near : (s.loaded img strap).ds.channels.any (·.nearAlarm) = false := List.any_eq_false.2 fun ch mem => by
    rw [(channels ch mem).2]; exact nofun
  unfold State.derivedState
  rw [zero, near, slots]
  simp [State.loaded, FireLogic.afterRestart]

/-! ### Every step -/

theorem Alone.fire {c : Instr} {u v : State} (h : Alone c u v) :
    v.fireInputs = u.fireInputs ∧ v.fl.gallery = u.fl.gallery ∧ v.fl.confirm = u.fl.confirm := by
  have channels := h.map_channels (fun ch => (ch.state, ch.cfg.kind)) fun _ _ => rfl
  obtain ⟨_, _, _, _, _, _, _, _, _, rfl⟩ := h.changes
  unfold State.fireInputs
  rw [channels]
  exact ⟨rfl, rfl, rfl⟩

/-- R26 to R29 stand at the end of every step. -/
theorem State.galleryFollows_kept : Kept State.GalleryFollows where
  answered h i := by obtain ⟨_, _, rfl⟩ := h; exact i
  moment h i := by obtain ⟨_, _, _, _, rfl⟩ := h; exact i
  pending _ i := i
  restarts s _ port asleep awake := by rw [s.restart_asleep asleep port] at awake; cases awake
  loads s bytes strap := State.galleryFollows_iff.2 fun _ => s.loaded_settled bytes strap
  follows awake owner i :=
    State.galleryFollows_iff.2 fun _ => settle_fireSettled _ _ (owner.footprint.fireSettled (State.galleryFollows_iff.1 i awake))
  alone h i := State.galleryFollows_iff.2 fun awake => by
    obtain ⟨inputs, gallery, confirm⟩ := h.fire
    refine State.FireSettled.congr (State.galleryFollows_iff.1 i ?_) inputs gallery confirm
    obtain ⟨_, _, _, _, _, _, _, _, _, rfl⟩ := h.changes
    exact awake

/-! ### The confirm-delay timer (R28) -/

/-- From `s` to `t` the confirm-delay timer starts at an entry to SUSPECT and stays as it is while the state stays SUSPECT. -/
structure ConfirmTimed (s t : State) : Prop where
  entered : s.fl.gallery ≠ .suspect → t.fl.gallery = .suspect → t.fl.confirm = some (t.now + s.cl.node.tc * Config.second)
  stayed : s.fl.gallery = .suspect → t.fl.gallery = .suspect → t.fl.confirm = s.fl.confirm

theorem ConfirmTimed.of_same {s t : State} (gallery : t.fl.gallery = s.fl.gallery) (confirm : t.fl.confirm = s.fl.confirm) :
    ConfirmTimed s t where
  entered out in_ := absurd (gallery ▸ in_) out
  stayed _ _ := confirm

theorem ConfirmTimed.of_left {s t : State} (left : t.fl.gallery ≠ .suspect) : ConfirmTimed s t where
  entered _ in_ := absurd in_ left
  stayed _ in_ := absurd in_ left

theorem State.setGallery_timed (s : State) (g : FireState) : ConfirmTimed s (s.setGallery g) := by
  have confirm := s.setGallery_confirm g
  have gallery := s.setGallery_gallery g
  have now : (s.setGallery g).now = s.now := by
    obtain ⟨_, _, h⟩ := s.setGallery_changes g
    rw [h]
  refine ⟨fun out in_ => ?_, fun before in_ => ?_⟩
  · rw [gallery] at in_
    rw [confirm, if_neg (by rw [in_]; exact out), if_pos in_, now]
  · rw [gallery] at in_
    rw [confirm, if_pos (before.trans in_.symm)]

theorem State.evaluate_timed (s : State) : ConfirmTimed s (s.evaluate false) := by
  unfold State.evaluate
  split
  · exact .of_same rfl rfl
  · split
    · rename_i c a b _
      exact .of_left (by rw [s.confirmFire_gallery c a b]; nofun)
    · exact s.setGallery_timed _

theorem Footprint.timed {c : Instr} {u v : State} (f : Footprint c u v) (settled : u.FireSettled) (peer : Option Nat) (pressed : List Nat) :
    ConfirmTimed u (settle u v peer pressed) := by
  have fl := settle_fl u v peer pressed
  have now : (settle u v peer pressed).now = u.now := by rw [settle_now]; exact f.node.2.2.2.2.1
  have after : ConfirmTimed u (fireFollow u v) := by
    rcases f.gallery with ⟨gallery, confirm, -⟩ | ⟨running, rfl⟩ | ⟨points, source, target, clears, rfl⟩
    · obtain ⟨_, _, _, _, _, w⟩ := walkFollow_changes u v
      unfold fireFollow
      dsimp only
      split
      · have timed := (walkFollow u v).evaluate_timed
        rw [w] at timed ⊢
        refine ⟨fun out in_ => ?_, fun before in_ => ?_⟩
        · rw [← f.node.1]
          exact timed.entered (gallery ▸ out) in_
        · exact (timed.stayed (gallery ▸ before) in_).trans confirm
      · rw [w]; exact .of_same gallery confirm
    · obtain ⟨at_, fire⟩ := State.confirmExpire_settled settled running
      exact .of_left (by rw [(fireFollow_of_settled (old := u) at_).2.1, fire]; nofun)
    · obtain ⟨at_, left⟩ := State.acceptReset_settled points source target clears
      exact .of_left (by rw [(fireFollow_of_settled (old := u) at_).2.1]; exact left)
  have same : (fireFollow u v).now = u.now := by
    obtain ⟨_, _, h⟩ := fireFollow_changes u v
    rw [h]; exact f.node.2.2.2.2.1
  refine ⟨fun out in_ => ?_, fun before in_ => ?_⟩
  · rw [fl] at in_ ⊢
    rw [now, ← same]
    exact after.entered out in_
  · rw [fl] at in_ ⊢
    exact after.stayed before in_

theorem ConfirmTimed.answered {s t t' : State} (h : ConfirmTimed s t) (a : Answered t t') : ConfirmTimed s t' := by
  obtain ⟨_, _, rfl⟩ := a
  exact ⟨h.entered, h.stayed⟩

theorem ConfirmTimed.moment {s u t : State} (h : ConfirmTimed u t) (m : AtEvent s u) : ConfirmTimed s t := by
  obtain ⟨_, _, _, _, rfl⟩ := m
  exact ⟨h.entered, h.stayed⟩

/-- R28, whatever is commanded. -/
theorem exec_timed {c : Instr} {s t : State} (awake : s.awake = true) (awake' : t.awake = true) (held : s.GalleryFollows)
    (h : exec c s = .next t) : ConfirmTimed s t := by
  rcases exec_awake awake awake' h with ⟨u, v, peer, pressed, moment, owner, a⟩ | ⟨u, v, moment, owner, a⟩
  · have settled := State.galleryFollows_iff.1 (State.galleryFollows_kept.moment moment held) (moment.awake.trans awake)
    exact ((owner.footprint.timed settled _ _).answered a).moment moment
  · exact ((ConfirmTimed.of_same owner.fire.2.1 owner.fire.2.2).answered a).moment moment

/-! ### R27's and R29's tables -/

/-- R27: no condition of the table holds below FIRE. -/
theorem State.fireCondition_none {s : State} :
    s.fireCondition false = none ↔
      s.firstInAlarm .heat = none ∧ s.activeFirePoint = none ∧
        (s.firstInAlarm .smoke = none ∨ s.smokeAlarms ≤ 1 ∧ s.agreeingSlot = none ∧ s.cl.node.tc ≠ 0) := by
  unfold State.fireCondition
  cases s.firstInAlarm .heat with
  | some c => simp
  | none =>
    cases s.activeFirePoint with
    | some p => simp
    | none =>
      cases s.firstInAlarm .smoke with
      | none => simp
      | some c =>
        by_cases double : 2 ≤ s.smokeAlarms
        · simp [double]; omega
        · cases s.agreeingSlot with
          | some k => simp [double]
          | none => simp [double]; omega

theorem State.firstInAlarm_none {s : State} (len : s.ds.channels.length = 16) {kind : ChannelKind} :
    s.firstInAlarm kind = none ↔ ∀ i < 16, ¬((s.channel i).cfg.kind = kind ∧ (s.channel i).state = .alarm) := by
  rw [State.firstInAlarm, List.findIdx?_eq_none_iff, forall_mem_iff_getD len (Channel.afterRestart .unused)]
  simp only [State.channel, Channel.inAlarm, Bool.and_eq_false_iff, decide_eq_false_iff_not, not_and]
  exact forall₂_congr fun i _ => by tauto

theorem State.activeFirePoint_none {s : State} (len : s.cc.points.length = 8) :
    s.activeFirePoint = none ↔ ∀ p < 8, (s.point p).kind = .fire → (s.point p).input ≠ some true := by
  rw [State.activeFirePoint, List.findIdx?_eq_none_iff, forall_mem_iff_getD len Point.unused]
  simp [State.point, Point.fireActive]

theorem State.agreeingSlot_none {s : State} (len : s.nt.slots.length = 8) :
    s.agreeingSlot = none ↔ ∀ k < 8,
      ¬((s.slot k).id ≠ 0 ∧ (s.slot k).presence = .fresh ∧ ((s.slot k).fire = .suspect ∨ (s.slot k).fire = .fire)) := by
  rw [State.agreeingSlot, List.findIdx?_eq_none_iff, forall_mem_iff_getD len Slot.unused]
  simp [State.slot, Slot.fresh, Slot.used]

theorem State.slotHoldsFire_iff {s : State} (len : s.nt.slots.length = 8) :
    s.slotHoldsFire = true ↔ ∃ k < 8, (s.slot k).id ≠ 0 ∧
      ((s.slot k).presence = .fresh ∨ (s.slot k).presence = .silent) ∧ (s.slot k).fire = .fire := by
  have one (k : Slot) : decide (k.offeredFire = .fire) = true ↔
      k.id ≠ 0 ∧ (k.presence = .fresh ∨ k.presence = .silent) ∧ k.fire = .fire := by
    unfold Slot.offeredFire Slot.heard Slot.used
    cases k.presence <;> by_cases used : k.id = 0 <;> simp [used]
  rw [State.slotHoldsFire, List.any_eq_true, exists_mem_iff_getD len Slot.unused]
  simp only [one]
  rfl

theorem State.anyChannel_iff {s : State} (len : s.ds.channels.length = 16) (p : Channel → Bool) :
    s.ds.channels.any p = true ↔ ∃ i < 16, p (s.channel i) = true := by
  rw [List.any_eq_true, exists_mem_iff_getD len (Channel.afterRestart .unused)]
  rfl

/-- The SMOKE channel at place `i` is in alarm. -/
def State.SmokeAlarm (s : State) (i : Nat) : Prop := (s.channel i).cfg.kind = .smoke ∧ (s.channel i).state = .alarm

theorem State.smokeAlarms_pos {s : State} (len : s.ds.channels.length = 16) : 0 < s.smokeAlarms ↔ ∃ i < 16, s.SmokeAlarm i := by
  rw [State.smokeAlarms, List.countP_pos_iff, exists_mem_iff_getD len (Channel.afterRestart .unused)]
  simp [State.SmokeAlarm, State.channel, Channel.inAlarm, and_comm]

theorem State.smokeAlarm_unique {s : State} (len : s.ds.channels.length = 16) (few : s.smokeAlarms ≤ 1) {i j : Nat} (hi : i < 16)
    (hj : j < 16) (ai : s.SmokeAlarm i) (aj : s.SmokeAlarm j) : i = j := by
  refine place_unique few (d := Channel.afterRestart .unused) (by omega) (by omega) ?_ ?_
  · simpa [State.SmokeAlarm, State.channel, Channel.inAlarm, and_comm] using ai
  · simpa [State.SmokeAlarm, State.channel, Channel.inAlarm, and_comm] using aj

/-- R29's table, line by line. -/
theorem State.derivedState_iff (s : State) :
    (s.derivedState = .suspect ↔ s.smokeAlarms = 1) ∧
      (s.derivedState = .caution ↔ s.smokeAlarms ≠ 1 ∧ s.ds.channels.any (·.inAlarm) = false ∧
        (s.ds.channels.any (·.nearAlarm) = true ∨ s.slotHoldsFire = true)) ∧
      (s.derivedState = .quiet ↔ s.smokeAlarms ≠ 1 ∧ ¬(s.ds.channels.any (·.inAlarm) = false ∧
        (s.ds.channels.any (·.nearAlarm) = true ∨ s.slotHoldsFire = true))) := by
  unfold State.derivedState
  by_cases lone : s.smokeAlarms = 1
  · simp [lone]
  · cases s.ds.channels.any (·.inAlarm) <;> cases s.ds.channels.any (·.nearAlarm) <;> cases s.slotHoldsFire <;> simp [lone]

/-- Settles O5: `galleryFollows_kept` and `exec_timed`, and R27's and R29's tables read by place. -/
theorem stepKeepsGalleryState : Obligations.StepKeepsGalleryState := by
  refine ⟨fun s t _ held h => State.galleryFollows_kept.step held h, fun c s t awake awake' _ held h => ?_,
    fun s awake shaped held below => ?_⟩
  · have timed := exec_timed awake awake' held h
    have settled := State.galleryFollows_iff.1 (State.galleryFollows_kept.exec held h) awake'
    exact ⟨timed.entered, timed.stayed, fun left => by_contra fun running => left (settled.timer.1 running)⟩
  · have settled := State.galleryFollows_iff.1 held awake
    obtain ⟨none_, derived⟩ := settled.derived below
    obtain ⟨heat, point, smoke⟩ := State.fireCondition_none.1 none_
    have few : s.smokeAlarms ≤ 1 := by
      rcases smoke with absent | ⟨few, -, -⟩
      · by_contra many
        obtain ⟨i, low, alarm⟩ := (State.smokeAlarms_pos shaped.channels).1 (by omega)
        exact (State.firstInAlarm_none shaped.channels).1 absent i low alarm
      · exact few
    have unique {i j : Nat} (hi : i < 16) (hj : j < 16) := State.smokeAlarm_unique (i := i) (j := j) shaped.channels few hi hj
    have alone : (∃ i < 16, s.SmokeAlarm i ∧ ∀ j < 16, s.SmokeAlarm j → j = i) ↔ s.smokeAlarms = 1 := by
      constructor
      · rintro ⟨i, low, alarm, -⟩
        have := (State.smokeAlarms_pos shaped.channels).2 ⟨i, low, alarm⟩
        omega
      · intro one
        obtain ⟨i, low, alarm⟩ := (State.smokeAlarms_pos shaped.channels).1 (by omega)
        exact ⟨i, low, alarm, fun j hj aj => unique hj low aj alarm⟩
    have calm : ((∀ i < 16, ¬(s.channel i).state = .alarm) ∧
        ((∃ i < 16, (s.channel i).state = .prealarm ∨ (s.channel i).state = .verify) ∨ ∃ k < 8, ((s.slot k).id ≠ 0 ∧
          ((s.slot k).presence = .fresh ∨ (s.slot k).presence = .silent) ∧ (s.slot k).fire = .fire))) ↔
        s.ds.channels.any (·.inAlarm) = false ∧ (s.ds.channels.any (·.nearAlarm) = true ∨ s.slotHoldsFire = true) := by
      rw [← Bool.not_eq_true, State.anyChannel_iff shaped.channels, State.anyChannel_iff shaped.channels,
        State.slotHoldsFire_iff shaped.slots]
      simp [Channel.inAlarm, Channel.nearAlarm]
    have table := s.derivedState_iff
    rw [← derived] at table
    refine ⟨fun i low kind alarm => (State.firstInAlarm_none shaped.channels).1 heat i low ⟨kind, alarm⟩,
      (State.activeFirePoint_none shaped.points).1 point, fun i hi j hj ai aj => unique hi hj ai aj, ?_, table.1.trans alone.symm,
      table.2.1.trans (and_congr (not_congr alone.symm) calm.symm),
      table.2.2.trans (and_congr (not_congr alone.symm) (not_congr calm.symm))⟩
    rintro ⟨i, low, alarm, -⟩
    rcases smoke with absent | ⟨-, agreeing, delayed⟩
    · exact absurd alarm ((State.firstInAlarm_none shaped.channels).1 absent i low)
    · exact ⟨delayed, (State.agreeingSlot_none shaped.slots).1 agreeing⟩

end Sys2Proof.Machine
end

/-! ## The stages of an event's follow-up

Each block's own part of `settle`, on a state in which fire logic, phase, route record, slots and building flags stand as they do at the
event's end. -/

section
namespace Sys2Proof.Machine

/-- `t` has the clock, phase, fire logic, route record, slots, building flags and configuration of `w`. -/
structure SameGround (w t : State) : Prop where
  now : t.now = w.now
  cl : t.cl = w.cl
  fl : t.fl = w.fl
  ru : t.ru = w.ru
  slots : t.nt.slots = w.nt.slots
  mode : t.nt.mode = w.nt.mode
  evacuate : t.nt.evacuate = w.nt.evacuate
  channels : t.ds.channels = w.ds.channels
  pins : t.pins = w.pins

theorem SameGround.symm {w t : State} (h : SameGround w t) : SameGround t w :=
  ⟨h.now.symm, h.cl.symm, h.fl.symm, h.ru.symm, h.slots.symm, h.mode.symm, h.evacuate.symm, h.channels.symm, h.pins.symm⟩

theorem SameGround.running {w t : State} (h : SameGround w t) : t.running = w.running := by
  unfold State.running; rw [h.cl]

theorem SameGround.isEvacuating {w t : State} (h : SameGround w t) : t.isEvacuating = w.isEvacuating := by
  unfold State.isEvacuating; rw [h.ru]

theorem SameGround.freeCondition {w t : State} (h : SameGround w t) (d : Door) : t.freeCondition d = w.freeCondition d := by
  unfold State.freeCondition; rw [h.mode, h.isEvacuating]

theorem SameGround.magnetDrive {w t : State} (h : SameGround w t) (i : Nat) (d : Door) : t.magnetDrive i d = w.magnetDrive i d := by
  unfold State.magnetDrive State.linkFire; rw [h.mode, h.isEvacuating, h.fl, h.slots]

theorem SameGround.trans {a b c : State} (h : SameGround a b) (k : SameGround b c) : SameGround a c :=
  ⟨k.now.trans h.now, k.cl.trans h.cl, k.fl.trans h.fl, k.ru.trans h.ru, k.slots.trans h.slots, k.mode.trans h.mode,
    k.evacuate.trans h.evacuate, k.channels.trans h.channels, k.pins.trans h.pins⟩

theorem SameGround.refl (s : State) : SameGround s s := ⟨rfl, rfl, rfl, rfl, rfl, rfl, rfl, rfl, rfl⟩

theorem State.offer_state (s : State) (body : Payload) (cls : Nat) :
    (s.offer body cls).1.lc.lastState = s.lc.lastState ∧ (s.offer body cls).1.lc.refresh = s.lc.refresh := by
  obtain ⟨_, _, _, kept⟩ := s.lc.offer_keeps s.offersOpen body cls
  exact ⟨(congrArg (·.lastState) kept).trans rfl, (congrArg (·.refresh) kept).trans rfl⟩

/-- A CALL offered is no STATE. -/
theorem State.announce_state (s : State) (src : Nat) :
    (s.announce src).lc.lastState = s.lc.lastState ∧ (s.announce src).lc.refresh = s.lc.refresh := by
  unfold State.announce
  split
  · exact ⟨rfl, rfl⟩
  · exact State.offer_state ..

theorem announceFollow_state (old s : State) (pressed : List Nat) :
    (announceFollow old s pressed).lc.lastState = s.lc.lastState ∧ (announceFollow old s pressed).lc.refresh = s.lc.refresh := by
  unfold announceFollow
  generalize List.filter _ _ = l
  induction l generalizing s with
  | nil => exact ⟨rfl, rfl⟩
  | cons src l ih => exact ⟨(ih _).1.trans (s.announce_state src).1, (ih _).2.trans (s.announce_state src).2⟩

/-- Between `s` and `t` a block acts by `f` on `w`, which stands on the ground of `t`; reports are offered before it and after it. -/
structure Stage (s t w : State) (f : State → State) : Prop where
  ground : SameGround w t
  before : Extends s.ap.reports w.ap.reports
  after : Extends (f w).ap.reports t.ap.reports

/-- The part of each block between the route record and the line, on a ground that stands to the end. -/
structure SettleStages (old s t : State) (peer : Option Nat) : Prop where
  latch : ∃ w, Stage s t w (latchFollow old) ∧ w.nt.latch = s.nt.latch ∧ t.nt.latch = (latchFollow old w).nt.latch
  doors : ∃ w, Stage s t w (doorsFollow old) ∧ w.doors = s.doors ∧ t.doors = (doorsFollow old w).doors
  signals : ∃ w, Stage s t w (signalsFollow old) ∧ w.sd = s.sd ∧ t.sd = (signalsFollow old w).sd
  tester : ∃ w, Stage s t w (testFollow old · peer) ∧ w.dt = s.dt ∧ w.marker = s.marker ∧ t.dt = (testFollow old w peer).dt ∧
    t.marker = (testFollow old w peer).marker
  line : ∃ w x, SameGround w t ∧ w.lc = s.lc ∧ w.dt = s.dt ∧ SameGround x t ∧ x.lc = (firstStateFollow old w).lc ∧ x.dt = t.dt ∧
    t.lc.lastState = (stateFollow old x).lc.lastState ∧ t.lc.refresh = (stateFollow old x).lc.refresh

theorem settle_stages (old s : State) (peer : Option Nat) (pressed : List Nat) :
    SettleStages old s (settle old s peer pressed) peer := by
  unfold settle
  dsimp only
  have x1 := fireFollow_extends old s
  obtain ⟨v1, r1, h1⟩ := fireFollow_changes old s
  generalize fireFollow old s = s1 at h1 x1 ⊢
  have x2 := phaseFollow_extends old s1
  obtain ⟨_, _, _, _, h2⟩ := phaseFollow_changes old s1
  generalize phaseFollow old s1 = s2 at h2 x2 ⊢
  have x3 := routeFollow_extends old s2
  obtain ⟨r3, h3⟩ := routeFollow_changes old s2
  generalize routeFollow old s2 = s3 at h3 x3 ⊢
  have x4 := firstStateFollow_extends old s3
  obtain ⟨v4, h4⟩ := firstStateFollow_changes old s3
  generalize first : firstStateFollow old s3 = s4 at h4 x4 ⊢
  have x5 := latchFollow_extends old s4
  obtain ⟨v5, r5, h5⟩ := latchFollow_changes old s4
  generalize latch : latchFollow old s4 = s5 at h5 x5 ⊢
  have x6 := doorsFollow_extends old s5
  obtain ⟨v6, h6⟩ := doorsFollow_changes old s5
  generalize doors : doorsFollow old s5 = s6 at h6 x6 ⊢
  have x7 := callsFollow_extends old s6
  obtain ⟨v7, h7⟩ := callsFollow_changes old s6
  generalize callsFollow old s6 = s7 at h7 x7 ⊢
  have x8 := signalsFollow_extends old s7
  obtain ⟨v8, r8, n8, h8⟩ := signalsFollow_changes old s7
  generalize signals : signalsFollow old s7 = s8 at h8 x8 ⊢
  have x9 := testFollow_extends old s8 peer
  obtain ⟨v9, m9, q9, n9, h9⟩ := testFollow_changes old s8 peer
  generalize tester : testFollow old s8 peer = s9 at h9 x9 ⊢
  have x10 := stateFollow_extends old s9
  obtain ⟨v10, h10⟩ := stateFollow_changes old s9
  generalize line : stateFollow old s9 = s10 at h10 x10 ⊢
  have x11 := faultFollow_extends old s10
  obtain ⟨v11, n11, r11, h11⟩ := faultFollow_changes old s10
  generalize faultFollow old s10 = s11 at h11 x11 ⊢
  have announced := announceFollow_state old s11 pressed
  have x12 := announceFollow_extends old s11 pressed
  obtain ⟨v12, w12, h12⟩ := announceFollow_changes old s11 pressed
  generalize announceFollow old s11 pressed = t at h12 announced x12 ⊢
  have g9 : SameGround s9 t := by rw [h12, h11, h10]; exact ⟨rfl, rfl, rfl, rfl, rfl, rfl, rfl, rfl, rfl⟩
  have g8 : SameGround s8 t := SameGround.trans (by rw [h9]; exact ⟨rfl, rfl, rfl, rfl, rfl, rfl, rfl, rfl, rfl⟩) g9
  have g7 : SameGround s7 t := SameGround.trans (by rw [h8]; exact ⟨rfl, rfl, rfl, rfl, rfl, rfl, rfl, rfl, rfl⟩) g8
  have g5 : SameGround s5 t := SameGround.trans (by rw [h7, h6]; exact ⟨rfl, rfl, rfl, rfl, rfl, rfl, rfl, rfl, rfl⟩) g7
  have g4 : SameGround s4 t := SameGround.trans (by rw [h5]; exact ⟨rfl, rfl, rfl, rfl, rfl, rfl, rfl, rfl, rfl⟩) g5
  have g3 : SameGround s3 t := SameGround.trans (by rw [h4]; exact ⟨rfl, rfl, rfl, rfl, rfl, rfl, rfl, rfl, rfl⟩) g4
  have b4 : Extends s.ap.reports s4.ap.reports := ((x1.trans x2).trans x3).trans x4
  have b5 := b4.trans x5
  have b7 := (b5.trans x6).trans x7
  have a9 : Extends s9.ap.reports t.ap.reports := (x10.trans x11).trans x12
  have a8 := x9.trans a9
  have a6 := (x7.trans x8).trans a8
  refine ⟨⟨s4, ⟨g4, b4, latch ▸ x6.trans a6⟩, ?_, ?_⟩, ⟨s5, ⟨g5, b5, doors ▸ a6⟩, ?_, ?_⟩,
    ⟨s7, ⟨g7, b7, signals ▸ a8⟩, ?_, ?_⟩, ⟨s8, ⟨g8, b7.trans x8, tester ▸ a9⟩, ?_, ?_, ?_, ?_⟩,
    ⟨s3, s9, g3, ?_, ?_, g9, ?_, ?_, ?_, ?_⟩⟩
  · rw [h4, h3, h2, h1]
  · rw [latch, h12, h11, h10, h9, h8, h7, h6]
  · rw [h5, h4, h3, h2, h1]
  · rw [doors, h12, h11, h10, h9, h8, h7]
  · rw [h7, h6, h5, h4, h3, h2, h1]
  · rw [signals, h12, h11, h10, h9]
  · rw [h8, h7, h6, h5, h4, h3, h2, h1]
  · rw [h8, h7, h6, h5, h4, h3, h2, h1]
  · rw [tester, h12, h11, h10]
  · rw [tester, h12, h11, h10]
  · rw [h3, h2, h1]
  · rw [h3, h2, h1]
  · rw [first, h9, h8, h7, h6, h5]
  · rw [h12, h11, h10]
  · rw [announced.1, line, h11]
  · rw [announced.2, line, h11]

/-- The doors' kinds and JAMMED conditions are those the owner leaves. -/
theorem settle_routeViews (old s : State) (peer : Option Nat) (pressed : List Nat) :
    (settle old s peer pressed).doors.map (·.routeView) = s.doors.map (·.routeView) := by
  obtain ⟨w, -, same, doors⟩ := (settle_stages old s peer pressed).doors
  rw [doors, doorsFollow_routeViews, same]

end Sys2Proof.Machine
end

/-! ## Owners offer reports, and take none away (R172) -/

section
namespace Sys2Proof.Machine

theorem State.takeSampleEvent_extends (s : State) (c : Nat) (before : Bool) (e : SampleEvent) :
    Extends s.ap.reports (s.takeSampleEvent c before e).ap.reports := by
  cases e with
  | nothing => exact s.reportIf_extends _ _ _ _
  | faulted cls => exact s.report_extends _ _ _
  | faultInAlarm cls => exact s.report_extends _ _ _
  | recovered => exact s.report_extends _ _ _
  | burst => exact s.completeBurst_extends c

theorem State.startDrift_reports (s : State) : s.startDrift.ap.reports = s.ap.reports := rfl

theorem DetectorOp.extends {u v : State} (op : DetectorOp u v) : Extends u.ap.reports v.ap.reports := by
  cases op with
  | @sample c code n => exact State.takeSampleEvent_extends (State.setChannel _ _ _) _ _ _
  | drift => exact (State.forEach_extends stepDrift_extends 16 u).trans (.of_eq (State.startDrift_reports _))
  | rates => exact .refl _
  | hold => exact .refl _
  | @isolate c =>
    exact (State.reportIf_extends (u.setChannel c (u.channel c).isolate) _ _ _ _).trans (State.report_extends _ _ _ _)
  | @restore c => exact State.report_extends (u.setChannel c ((u.channel c).restore u.now)) _ _ _
  | endWalk => exact u.endWalk_extends _
  | beginWalk => exact State.report_extends (u.setFl _) _ _ _

theorem LineOp.extends {u v : State} (op : LineOp u v) : Extends u.ap.reports v.ap.reports := by
  cases op with
  | collide => exact u.collide_extends
  | stuckBegin => exact u.stuckBegin_extends
  | stuckExpire => exact u.stuckExpire_extends
  | checkError => exact u.noteCheckError_extends
  | ageNoise => exact u.ageNoise_extends
  | duplicate => exact u.noteDuplicate_extends _
  | refresh => exact .refl _

theorem TableOp.extends {c : Instr} {u v : State} (op : TableOp c u v) : Extends u.ap.reports v.ap.reports := by
  cases op with
  | state => exact (u.takeState_extends _ _).trans (State.adopt_extends _ _ _)
  | flag => exact u.applyFlag_extends _ _
  | silence => exact State.report_extends (u.setNt _) _ _ _
  | @loseSlot k => exact State.report_extends (u.setSlot k _) _ _ _

theorem State.applyOwnOrder_extends (s : State) (code : Nat) : Extends s.ap.reports (s.applyOwnOrder code).ap.reports := by
  unfold State.applyOwnOrder
  split
  · exact s.applyFlag_extends _ _
  · exact .refl _

theorem State.takeCompleted_reports (s : State) (origin source serial : Nat) :
    (s.takeCompleted origin source serial).ap.reports = s.ap.reports := by
  unfold State.takeCompleted
  repeat' split
  all_goals rfl

theorem State.handCompletion_extends (s : State) (body : Payload) : Extends s.ap.reports (s.handCompletion body).ap.reports := by
  cases body with
  | take p => exact .of_eq (s.takeCompleted_reports _ _ _)
  | order p => exact s.applyOwnOrder_extends _
  | _ => exact .refl _

theorem SentOp.extends {c : Instr} {u v : State} (op : SentOp c u v) : Extends u.ap.reports v.ap.reports := by
  cases op with
  | complete => exact u.completeSending_extends.trans (State.handCompletion_extends _ _)
  | @order body => exact (u.offer_extends body 0).trans (State.applyOwnOrder_extends _ _)

theorem DoorOp.extends {u v : State} (op : DoorOp u v) : Extends u.ap.reports v.ap.reports := by
  cases op with
  | @opening d =>
    unfold State.openDoor
    dsimp only
    split
    · exact (State.report_extends (u.moveDoorAfresh d fun door => door.opens u.now) _ _ _).trans (State.doorAlarm_extends _ _ _ _)
    · exact .refl _
  | @hold d =>
    unfold State.holdDoor
    dsimp only
    split
    · exact (State.report_extends (u.moveDoor d Door.openExpire) _ _ _).trans (State.doorAlarm_extends _ _ _ _)
    · exact .refl _
  | @jam d => exact State.report_extends (u.moveDoorAfresh d Door.enterJam) _ _ _
  | @unjam d => exact State.report_extends (u.moveDoorAfresh d fun door => door.derive (u.freeCondition door) u.now) _ _ _
  | pulse =>
    unfold State.orderPulse
    split
    · exact u.report_extends _ _ _
    · exact .refl _
  | _ => exact .refl _

theorem State.clearCall_extends (s : State) (src by_ : Nat) : Extends s.ap.reports (s.clearCall src by_).ap.reports := by
  unfold State.clearCall
  split
  · exact .refl _
  · rename_i c _
    refine (Extends.of_eq ?_).trans (State.report_extends _ _ _ _)
    rfl

theorem State.decideClear_extends (s : State) (sender src serial : Nat) :
    Extends s.ap.reports (s.decideClear sender src serial).ap.reports := by
  unfold State.decideClear
  split
  · exact s.offer_extends _ _
  · split
    · split
      · exact (s.announce_extends src).trans (State.report_extends _ _ _ _)
      · exact s.clearCall_extends _ _
    · exact s.announce_extends src

theorem State.decideTake_extends (s : State) (sender src serial : Nat) :
    Extends s.ap.reports (s.decideTake sender src serial).ap.reports := by
  unfold State.decideTake
  split
  · exact s.offer_extends _ _
  · split
    · exact (State.announce_extends (s.setCall src _) src).trans (State.report_extends _ _ _ _)
    · exact s.announce_extends src

theorem State.decideGiveup_extends (s : State) (sender src serial : Nat) :
    Extends s.ap.reports (s.decideGiveup sender src serial).ap.reports := by
  unfold State.decideGiveup
  split
  · exact .refl _
  · split
    · exact (State.announce_extends (s.setCall src _) src).trans (State.report_extends _ _ _ _)
    · exact .refl _

theorem State.turnKey_extends (s : State) : Extends s.ap.reports s.turnKey.ap.reports := by
  unfold State.turnKey
  split
  · exact s.clearCall_extends _ _
  · split
    · exact s.clearCall_extends _ _
    · exact .refl _

theorem CallOp.extends {u v : State} (op : CallOp u v) : Extends u.ap.reports v.ap.reports := by
  cases op with
  | clearAsked => exact u.decideClear_extends _ _ _
  | take => exact u.decideTake_extends _ _ _
  | giveup => exact u.decideGiveup_extends _ _ _
  | @press p => exact State.press_extends (u.qualifyPoint p true) _ _ _
  | qualify => exact .refl _
  | key => exact State.turnKey_extends (u.setCc _)
  | @unanswered src => exact (State.announce_extends (u.setCall src _) src).trans (State.report_extends _ _ _ _)
  | @attend src => exact (State.announce_extends (u.setCall src _) src).trans (State.report_extends _ _ _ _)
  | reannounce => exact u.announce_extends _

theorem State.insertCall_extends (s : State) (e : Entry) : Extends s.ap.reports (s.insertCall e).ap.reports :=
  State.report_extends (s.enlist e) _ _ _

theorem State.hearCall_extends (s : State) (origin : Nat) (p : CallPayload) :
    Extends s.ap.reports (s.hearCall origin p).ap.reports := by
  unfold State.hearCall
  split
  · unfold State.newCall
    split
    · exact s.insertCall_extends _
    · split
      · rename_i d _
        exact (State.report_extends (s.unlist d.origin d.source) _ _ _).trans (State.insertCall_extends _ _)
      · exact s.report_extends _ _ _
  · rename_i e _
    split
    · unfold State.updateCall State.reportUpdate
      split
      · exact State.report_extends (s.relist _) _ _ _
      · split
        · exact State.report_extends (s.relist _) _ _ _
        · exact State.reportIf_extends (s.relist _) _ _ _ _
    · exact (State.reportIf_extends (s.unlist e.origin e.source) _ _ _ _).trans (State.insertCall_extends _ _)

theorem ListOp.extends {u v : State} (op : ListOp u v) : Extends u.ap.reports v.ap.reports := by
  cases op with
  | call => exact u.hearCall_extends _ _
  | @clear origin source =>
    unfold State.hearClear
    split
    · split
      · exact State.report_extends (u.unlist origin source) _ _ _
      · exact .refl _
    · exact .refl _
  | @expire _ _ e => exact State.report_extends (u.unlist e.origin e.source) _ _ _
  | @takeTimeout _ _ e => exact State.report_extends (u.relist { e with state := .opened, takeTimeout := none }) _ _ _

theorem SignalOp.extends {c : Instr} {u v : State} (op : SignalOp c u v) : Extends u.ap.reports v.ap.reports := by
  cases op with
  | @signs sense => exact State.forEach_extends State.stepSign_extends 4 (u.setPins { u.pins with signSense := sense })
  | @strip k sense =>
    exact State.stepStrip_extends (u.setPins { u.pins with stripSense := u.pins.stripSense.set k sense }) k (u.strip k) sense
  | cadence => exact .refl _
  | lampCheck => exact State.forEach_extends checkStrip_extends 2 u

theorem TestOp.extends {c : Instr} {u v : State} (op : TestOp c u v) : Extends u.ap.reports v.ap.reports := by
  cases op with
  | minute =>
    unfold State.countMinute
    dsimp only
    split
    · exact State.endTest_extends (u.setDt _) _ _
    · exact .refl _
  | battery =>
    unfold State.takeBattery
    dsimp only
    split
    · exact State.endTest_extends (u.setDt _) _ _
    · exact .refl _
  | suspendTimer => exact u.endTest_extends _ _
  | start => exact u.startTest_extends _
  | suspend => exact u.suspendTest_extends _
  | resume => exact u.resumeTest_extends _
  | abort => exact u.endTest_extends _ _

theorem Footprint.extends {c : Instr} {u v : State} (h : Footprint c u v) : Extends u.ap.reports v.ap.reports := by
  cases h with
  | run running h => rw [h]; exact .refl _
  | confirm running h => rw [h]; exact State.evaluate_extends (u.setFl _) _
  | reset _ h => rw [h]; exact u.decideReset_extends _ _ _
  | detector op => exact op.extends
  | line op => exact op.extends
  | table op => exact op.extends
  | sent op => exact op.extends
  | doors _ op => exact op.extends
  | calls op => exact op.extends
  | list op => exact op.extends
  | signals op => exact op.extends
  | test op => exact op.extends

end Sys2Proof.Machine
end

/-! ## The route record (R77 to R86) -/

section
namespace Sys2Proof.Machine

/-! ### What the computation reads of the slots -/

/-- A slot as the other blocks read it: what it offers (R63), with its configuration. -/
def Slot.read (k : Slot) : Slot :=
  { k with
    presence := if k.used then k.presence else .absent
    fire := k.offeredFire
    f := k.offeredF
    x := k.offeredX
    h := none
    test := k.offeredTest
    deadline := none }

theorem Slot.read_used (k : Slot) : k.read.used = k.used := rfl

theorem Slot.read_heard (k : Slot) : k.read.heard = k.heard := by
  unfold Slot.heard
  rw [k.read_used]
  cases used : k.used <;> simp [Slot.read, used]

theorem Slot.read_fresh (k : Slot) : k.read.fresh = k.fresh := by
  unfold Slot.fresh
  rw [k.read_used]
  cases used : k.used <;> simp [Slot.read, used]

theorem Slot.read_fireSum (k : Slot) : k.read.fireSum = k.fireSum := by
  unfold Slot.fireSum
  rw [k.read_heard]
  cases heard : k.heard
  · rfl
  · simp [Slot.read, Slot.offeredF, heard]

/-- The state with every slot as it is read. -/
def State.reading (s : State) : State := s.setNt { s.nt with slots := s.nt.slots.map Slot.read }

theorem State.reading_slot (s : State) (i : Nat) : s.reading.slot i = (s.slot i).read := by
  show (s.nt.slots.map Slot.read).getD i Slot.unused = (s.nt.slots.getD i Slot.unused).read
  simp only [List.getD_eq_getElem?_getD, List.getElem?_map]
  cases s.nt.slots[i]? <;> rfl

theorem State.reading_usable (s : State) (k : Slot) : s.reading.usable k.read = s.usable k := by
  unfold State.usable
  rw [k.read_fresh]
  rfl

theorem State.reading_exitSum (s : State) (k : Slot) : s.reading.exitSum k.read = s.exitSum k := by
  unfold State.exitSum
  rw [s.reading_usable]
  cases usable : s.usable k
  · rfl
  · have fresh : k.fresh = true := by
      unfold State.usable at usable
      exact (Bool.and_eq_true_iff.1 usable).1
    simp [Slot.read, Slot.offeredX, fresh]

theorem State.reading_fireDistance (s : State) : s.reading.fireDistance = s.fireDistance := by
  have sums : (s.reading.nt.slots.filter (·.used)).map (·.fireSum) = (s.nt.slots.filter (·.used)).map (·.fireSum) := by
    show ((s.nt.slots.map Slot.read).filter (·.used)).map (·.fireSum) = _
    rw [List.filter_map, List.map_map]
    exact List.map_congr_left fun k _ => k.read_fireSum
  unfold State.fireDistance
  rw [sums]
  rfl

theorem State.reading_achieves (s : State) : s.reading.achieves = s.achieves := by
  funext x i
  unfold State.achieves
  rw [s.reading_slot, s.reading_usable, s.reading_exitSum]

theorem State.reading_chooseVia (s : State) : s.reading.chooseVia = s.chooseVia := by
  funext x
  unfold State.chooseVia
  rw [s.reading_achieves]
  have cost : (fun i => (s.reading.slot i).cost) = fun i => (s.slot i).cost := by
    funext i
    rw [s.reading_slot]
    rfl
  rw [cost]
  rfl

theorem State.reading_exitByNeighbours (s : State) : s.reading.exitByNeighbours = s.exitByNeighbours := by
  unfold State.exitByNeighbours
  show least ((s.nt.slots.map Slot.read).map s.reading.exitSum) = _
  rw [List.map_map]
  exact congrArg least (List.map_congr_left fun k _ => s.reading_exitSum k)

theorem State.reading_computedRoute (s : State) : s.reading.computedRoute = s.computedRoute := by
  unfold State.computedRoute
  rw [s.reading_fireDistance, s.reading_exitByNeighbours, s.reading_chooseVia]
  rfl

/-- What a computation reads, the via before apart: slots as they are read, doors by kind and JAMMED condition. -/
def State.routeReads (s : State) : FireState × List Slot × Bool × Nat × List (DoorKind × Bool) := s.reading.routeInputs

theorem State.computedRoute_of_reads {s t : State} (h : t.routeReads = s.routeReads) (via : t.ru.via = s.ru.via) :
    t.computedRoute = s.computedRoute := by
  rw [← t.reading_computedRoute, ← s.reading_computedRoute]
  exact State.computedRoute_congr h via

/-- Where the slots' configurations stand and nothing of R66 changed, the slots are read as before. -/
theorem readSlots_of_views {s t : State} (configs : t.slotConfigs = s.slotConfigs) (views : t.slotViews = s.slotViews) :
    t.nt.slots.map Slot.read = s.nt.slots.map Slot.read := by
  have both := map_pair_eq configs views
  have read (l : List Slot) : l.map Slot.read =
      (l.map fun k : Slot => (k.config, ((if k.used then k.presence else .absent : Presence), k.offeredFire, k.offeredF, k.offeredX,
        k.offeredTest))).map fun p => ⟨p.1.1, p.1.2.1, p.1.2.2, p.2.1, p.2.2.1, p.2.2.2.1, p.2.2.2.2.1, none, p.2.2.2.2.2, none⟩ := by
    rw [List.map_map]
    rfl
  rw [read, read, both]

theorem routeReads_of_unchanged {old s : State} (h : routeInputsChanged old s = false) (slots : s.slotConfigs = old.slotConfigs)
    (doors : s.doorConfigs = old.doorConfigs) (node : s.cl.node = old.cl.node) : s.routeReads = old.routeReads := by
  simp only [routeInputsChanged, Bool.or_eq_false_iff, bne_eq_false_iff_eq] at h
  obtain ⟨⟨⟨⟨views, gallery⟩, jams⟩, evacuate⟩, -⟩ := h
  have kinds : s.doors.map (·.cfg.kind) = old.doors.map (·.cfg.kind) := by
    simpa [State.doorConfigs, Function.comp_def] using congrArg (List.map DoorConfig.kind) doors
  have doors' : s.doors.map (·.routeView) = old.doors.map (·.routeView) := map_pair_eq kinds jams.symm
  show (s.fl.gallery, s.nt.slots.map Slot.read, s.nt.evacuate, s.cl.node.e, s.doors.map (·.routeView)) =
    (old.fl.gallery, old.nt.slots.map Slot.read, old.nt.evacuate, old.cl.node.e, old.doors.map (·.routeView))
  rw [gallery, readSlots_of_views slots views.symm, evacuate, node, doors']

/-! ### Sums -/

theorem foldl_min_spec (l : List Nat) (a : Nat) :
    l.foldl min a ≤ a ∧ (∀ x ∈ l, l.foldl min a ≤ x) ∧ (l.foldl min a = a ∨ l.foldl min a ∈ l) := by
  induction l generalizing a with
  | nil => exact ⟨le_refl a, fun x h => absurd h List.not_mem_nil, .inl rfl⟩
  | cons y l ih =>
    obtain ⟨bound, below, reached⟩ := ih (min a y)
    rw [List.foldl_cons]
    refine ⟨by omega, fun x h => ?_, ?_⟩
    · rcases List.mem_cons.1 h with rfl | later
      · omega
      · exact below x later
    · rcases reached with first | later
      · rw [first]
        rcases Nat.le_total a y with le | le
        · exact .inl (min_eq_left le)
        · exact .inr (by rw [min_eq_right le]; exact List.mem_cons_self)
      · exact .inr (List.mem_cons_of_mem y later)

theorem least_le {l : List Nat} {x : Nat} (h : x ∈ l) : least l ≤ x := (foldl_min_spec l 15).2.1 x h

theorem least_le_fifteen (l : List Nat) : least l ≤ 15 := (foldl_min_spec l 15).1

theorem least_reached (l : List Nat) : least l = 15 ∨ least l ∈ l := (foldl_min_spec l 15).2.2

/-- R77: with every cost at least 1 the fire distance is 0 in FIRE alone. -/
theorem State.fireDistance_zero {s : State} (costs : ∀ k ∈ s.nt.slots, 1 ≤ k.cost) :
    s.fireDistance = 0 ↔ s.fl.gallery = .fire := by
  unfold State.fireDistance
  split
  · rename_i fire; simp [fire]
  · rename_i below
    refine ⟨fun zero => ?_, fun fire => absurd fire below⟩
    rcases least_reached ((s.nt.slots.filter (·.used)).map (·.fireSum)) with none_ | reached
    · omega
    · rw [zero] at reached
      obtain ⟨k, mem, sum⟩ := List.mem_map.1 reached
      have cost := costs k (List.mem_of_mem_filter mem)
      unfold Slot.fireSum cap at sum
      split at sum <;> omega

/-! ### Via (R82) -/

theorem cheapest_mem {cost : Nat → Nat} {l : List Nat} {i : Nat} (h : cheapest cost l = some i) : i ∈ l := by
  induction l generalizing i with
  | nil => cases h
  | cons a l ih =>
    unfold cheapest at h
    cases found : cheapest cost l with
    | none => rw [found] at h; cases h; exact List.mem_cons_self
    | some j =>
      rw [found] at h
      dsimp only at h
      split at h
      · cases h; exact List.mem_cons_self
      · cases h; exact List.mem_cons_of_mem a (ih found)

theorem cheapest_isSome {cost : Nat → Nat} {l : List Nat} {i : Nat} (h : i ∈ l) : ∃ j, cheapest cost l = some j := by
  cases l with
  | nil => cases h
  | cons a l =>
    unfold cheapest
    split
    · exact ⟨_, rfl⟩
    · split <;> exact ⟨_, rfl⟩

/-- The lowest cost, and among equal costs the first place. -/
theorem cheapest_least {cost : Nat → Nat} {l : List Nat} (sorted : l.Pairwise (· < ·)) {i : Nat} (h : cheapest cost l = some i) :
    ∀ j ∈ l, cost i < cost j ∨ (cost i = cost j ∧ i ≤ j) := by
  induction l generalizing i with
  | nil => cases h
  | cons a l ih =>
    obtain ⟨first, rest⟩ := List.pairwise_cons.1 sorted
    intro j mem
    unfold cheapest at h
    cases found : cheapest cost l with
    | none =>
      rw [found] at h
      cases h
      rcases List.mem_cons.1 mem with rfl | later
      · exact .inr ⟨rfl, le_refl _⟩
      · obtain ⟨k, some_⟩ := cheapest_isSome (cost := cost) later
        rw [found] at some_
        cases some_
    | some b =>
      rw [found] at h
      have best := ih rest found
      have after := first b (cheapest_mem found)
      dsimp only at h
      split at h
      · cases h
        rcases List.mem_cons.1 mem with rfl | later
        · exact .inr ⟨rfl, le_refl _⟩
        · have := best j later
          omega
      · cases h
        rcases List.mem_cons.1 mem with rfl | later
        · omega
        · exact best j later

/-- The slots that achieve `x`. -/
def State.achievers (s : State) (x : Nat) : List Nat := (List.range 8).filter (s.achieves x)

theorem State.mem_achievers {s : State} {x i : Nat} : i ∈ s.achievers x ↔ i < 8 ∧ s.achieves x i = true := by
  simp [State.achievers]

/-- A slot that achieves an exit distance stands in the table. -/
theorem State.achieves_lt {s : State} (len : s.nt.slots.length = 8) {x i : Nat} (h : s.achieves x i = true) : i < 8 := by
  by_contra outside
  have absent : s.slot i = Slot.unused := List.getD_eq_default _ _ (by omega)
  unfold State.achieves State.usable at h
  rw [absent] at h
  cases h

/-- The via among the slots that achieve an exit distance when the present one does not. -/
def State.freshVia (s : State) (x : Nat) : Via :=
  match cheapest (fun i => (s.slot i).cost) (s.achievers x) with
  | some i => .slot i
  | none => .none

/-- R82: the present via is kept while it achieves the exit distance; -/
theorem State.chooseVia_kept {s : State} {x i : Nat} (via : s.ru.via = .slot i) (achieved : s.achieves x i = true) :
    s.chooseVia x = .slot i := by
  unfold State.chooseVia
  rw [via]
  exact if_pos achieved

/-- else it is chosen afresh. -/
theorem State.chooseVia_fresh {s : State} {x : Nat} (lost : ∀ i, s.ru.via = .slot i → s.achieves x i = false) :
    s.chooseVia x = s.freshVia x := by
  unfold State.chooseVia
  cases via : s.ru.via with
  | slot i => exact if_neg (by rw [lost i via]; exact Bool.false_ne_true)
  | own => rfl
  | none => rfl

theorem State.freshVia_slot {s : State} {x i : Nat} (h : s.freshVia x = .slot i) :
    cheapest (fun i => (s.slot i).cost) (s.achievers x) = some i := by
  unfold State.freshVia at h
  split at h
  · cases h; assumption
  · cases h

theorem State.freshVia_found {s : State} {x i : Nat} (low : i < 8) (h : s.achieves x i = true) : ∃ j, s.freshVia x = .slot j := by
  obtain ⟨j, found⟩ := cheapest_isSome (cost := fun i => (s.slot i).cost) (State.mem_achievers.2 ⟨low, h⟩)
  exact ⟨j, by rw [State.freshVia, found]⟩

/-- Whatever slot is chosen achieves the exit distance. -/
theorem State.chooseVia_achieves {s : State} {x i : Nat} (h : s.chooseVia x = .slot i) : s.achieves x i = true := by
  by_cases kept : ∃ j, s.ru.via = .slot j ∧ s.achieves x j = true
  · obtain ⟨j, via, achieved⟩ := kept
    rw [State.chooseVia_kept via achieved] at h
    cases h
    exact achieved
  · rw [State.chooseVia_fresh fun j via => by_contra fun achieved => kept ⟨j, via, Bool.eq_true_of_not_eq_false achieved⟩] at h
    exact (State.mem_achievers.1 (cheapest_mem (State.freshVia_slot h))).2

/-- A via is chosen where a slot achieves the exit distance. -/
theorem State.chooseVia_found {s : State} {x i : Nat} (low : i < 8) (h : s.achieves x i = true) : ∃ j, s.chooseVia x = .slot j := by
  by_cases kept : ∃ j, s.ru.via = .slot j ∧ s.achieves x j = true
  · obtain ⟨j, via, achieved⟩ := kept
    exact ⟨j, State.chooseVia_kept via achieved⟩
  · rw [State.chooseVia_fresh fun j via => by_contra fun achieved => kept ⟨j, via, Bool.eq_true_of_not_eq_false achieved⟩]
    exact State.freshVia_found low h

/-- A via that was chosen is chosen again. -/
theorem State.chooseVia_again (s : State) {r : Route} {x : Nat} (via : r.via = s.chooseVia x) :
    (s.setRu r).chooseVia x = s.chooseVia x := by
  by_cases found : ∃ i, s.chooseVia x = .slot i
  · obtain ⟨i, chosen⟩ := found
    rw [chosen]
    have achieved : s.achieves x i = true := State.chooseVia_achieves chosen
    exact State.chooseVia_kept (s := s.setRu r) (via.trans chosen) achieved
  · have lost : ∀ i, s.ru.via = .slot i → s.achieves x i = false := fun i before => by_contra fun achieved =>
      found ⟨i, State.chooseVia_kept before (Bool.eq_true_of_not_eq_false achieved)⟩
    rw [State.chooseVia_fresh lost]
    exact State.chooseVia_fresh (s := s.setRu r) fun i now => absurd ⟨i, via.symm.trans now⟩ found

/-! ### The record computed -/

theorem State.computedRoute_exit {s : State} {d : Nat} (exit_ : s.exitDoor = some d) :
    s.computedRoute = ⟨s.fireDistance, 0, .own, some d, if s.fl.gallery = .fire then 15 else 0,
      evacCause s.fireDistance s.cl.node.e s.nt.evacuate⟩ := by
  unfold State.computedRoute
  rw [exit_]

theorem State.computedRoute_inner {s : State} (exit_ : s.exitDoor = none) :
    s.computedRoute = ⟨s.fireDistance, s.exitByNeighbours,
      if s.exitByNeighbours = 15 then .none else s.chooseVia s.exitByNeighbours, none,
      if s.fl.gallery = .fire then 15 else s.exitByNeighbours, evacCause s.fireDistance s.cl.node.e s.nt.evacuate⟩ := by
  unfold State.computedRoute
  rw [exit_]

/-- A record computed stands at the next computation. -/
theorem State.computedRoute_again {s t : State} (inputs : t.routeInputs = s.routeInputs) (ru : t.ru = s.computedRoute) :
    t.computedRoute = s.computedRoute := by
  have same : (s.setRu s.computedRoute).computedRoute = s.computedRoute := by
    cases exit_ : s.exitDoor with
    | some d => rw [State.computedRoute_exit exit_]; exact State.computedRoute_exit (s := s.setRu _) exit_
    | none =>
      rw [State.computedRoute_inner (s := s.setRu s.computedRoute) exit_]
      rw [State.computedRoute_inner exit_]
      by_cases dead : s.exitByNeighbours = 15
      · show Route.mk _ _ (if s.exitByNeighbours = 15 then _ else _) _ _ _ = _
        rw [if_pos dead, if_pos dead]
        rfl
      · show Route.mk _ _ (if s.exitByNeighbours = 15 then _ else (s.setRu _).chooseVia s.exitByNeighbours) _ _ _ = _
        rw [if_neg dead, if_neg dead, State.chooseVia_again s rfl]
        rfl
  rw [← same]
  exact State.computedRoute_congr inputs (congrArg Route.via ru)

/-! ### The invariant -/

/-- The route record is the one a computation finds in RUN, and R86's in LISTEN. -/
structure State.RouteSettled (s : State) : Prop where
  slots : s.nt.slots.length = 8
  costs : ∀ k ∈ s.nt.slots, 1 ≤ k.cost
  listen : s.cl.phase = .listen →
    s.ru = { Route.afterRestart with evacuating := if s.nt.evacuate = true then some .building else none }
  run : s.cl.phase = .run → s.ru = s.computedRoute

/-- Some slot achieves the exit distance through the neighbours where it is below 15. -/
theorem State.exitByNeighbours_achieved {s : State} (len : s.nt.slots.length = 8) (live : s.exitByNeighbours < 15) :
    ∃ i < 8, s.achieves s.exitByNeighbours i = true := by
  have reached : s.exitByNeighbours ∈ s.nt.slots.map s.exitSum := by
    rcases least_reached (s.nt.slots.map s.exitSum) with dead | reached
    · unfold State.exitByNeighbours at live; omega
    · exact reached
  obtain ⟨k, mem, sum⟩ := List.mem_map.1 reached
  obtain ⟨i, low, here⟩ := (exists_mem_iff_getD len Slot.unused (P := fun k => s.exitSum k = s.exitByNeighbours)).1 ⟨k, mem, sum⟩
  refine ⟨i, low, ?_⟩
  have here : s.exitSum (s.slot i) = s.exitByNeighbours := here
  have usable : s.usable (s.slot i) = true := by
    by_contra unusable
    unfold State.exitSum at here
    rw [if_neg unusable] at here
    omega
  simp [State.achieves, usable, here]

theorem State.RouteSettled.follows {s : State} (h : s.RouteSettled) : s.RouteFollows := by
  refine ⟨h.costs, h.listen, fun run => ?_⟩
  have ru := h.run run
  have zero : s.ru.f = s.fireDistance := by
    rw [ru]
    cases exit_ : s.exitDoor with
    | some d => rw [State.computedRoute_exit exit_]
    | none => rw [State.computedRoute_inner exit_]
  refine ⟨zero, zero ▸ State.fireDistance_zero h.costs, ?_⟩
  cases exit_ : s.exitDoor with
  | some d =>
    rw [ru, State.computedRoute_exit exit_]
    exact ⟨rfl, rfl, rfl, rfl, fun _ => rfl, nofun, nofun⟩
  | none =>
    rw [ru, State.computedRoute_inner exit_]
    refine ⟨rfl, rfl, rfl, rfl, nofun, fun _ dead => if_pos dead, fun _ (live : s.exitByNeighbours < 15) => ?_⟩
    obtain ⟨i, low, achieved⟩ := State.exitByNeighbours_achieved h.slots live
    obtain ⟨j, chosen⟩ := State.chooseVia_found low achieved
    have achieved' := State.chooseVia_achieves chosen
    exact ⟨j, State.achieves_lt h.slots achieved', (if_neg (by omega)).trans chosen, achieved'⟩

theorem State.RouteFollows.settled {s : State} (len : s.nt.slots.length = 8) (h : s.RouteFollows) : s.RouteSettled := by
  obtain ⟨costs, listen, run⟩ := h
  refine ⟨len, costs, listen, fun running => ?_⟩
  obtain ⟨f, -, exitDoor, xLocal, announced, evacuating, own, dead, live⟩ := run running
  rcases route : s.ru with ⟨f', x', via', exit', announced', evacuating'⟩
  rw [route] at f exitDoor xLocal announced evacuating own dead live
  cases exit_ : s.exitDoor with
  | some d =>
    rw [State.computedRoute_exit exit_]
    rw [exit_] at exitDoor xLocal own
    simp only [Option.isSome_some, if_true, forall_const] at xLocal own
    simp_all
  | none =>
    rw [State.computedRoute_inner exit_]
    rw [exit_] at exitDoor xLocal
    simp only [Option.isSome_none, Bool.false_eq_true, if_false] at xLocal
    have via : via' = if s.exitByNeighbours = 15 then .none else s.chooseVia s.exitByNeighbours := by
      subst xLocal
      split
      · rename_i is15; exact dead exit_ is15
      · rename_i below
        have bound : s.exitByNeighbours ≤ 15 := least_le_fifteen _
        have below : s.exitByNeighbours < 15 := by omega
        obtain ⟨i, -, slot, achieved⟩ := live exit_ below
        exact slot.trans (State.chooseVia_kept (by rw [route]; exact slot) achieved).symm
    simp_all

/-! ### The record after an event -/

theorem Footprint.phase {c : Instr} {u v : State} (h : Footprint c u v) : v.cl = u.cl ∨ (u.cl.listen ≠ none ∧ v = u.enterRun) := by
  cases h with
  | run running h => exact .inr ⟨running, h⟩
  | confirm running h => obtain ⟨_, _, _, _, e⟩ := u.confirmExpire_changes; rw [h, e]; exact .inl rfl
  | @reset a b clears _ h => obtain ⟨_, _, _, _, _, e⟩ := u.decideReset_changes a b clears; rw [h, e]; exact .inl rfl
  | detector op => obtain ⟨_, _, _, _, _, _, rfl⟩ := op.changes; exact .inl rfl
  | line op => obtain ⟨_, _, rfl⟩ := op.changes; exact .inl rfl
  | table op => obtain ⟨_, _, rfl⟩ := op.changes; exact .inl rfl
  | sent op => obtain ⟨_, _, _, _, rfl⟩ := op.changes; exact .inl rfl
  | doors _ op => obtain ⟨_, _, _, _, _, _, rfl⟩ := op.changes; exact .inl rfl
  | calls op => obtain ⟨_, _, _, rfl⟩ := op.changes; exact .inl rfl
  | list op => obtain ⟨_, _, rfl⟩ := op.changes; exact .inl rfl
  | signals op => obtain ⟨_, _, _, _, rfl⟩ := op.changes; exact .inl rfl
  | test op => obtain ⟨_, _, _, rfl⟩ := op.changes; exact .inl rfl

/-- The state in which the route unit acts: the owner's, with phase and fire logic as they then stand. -/
theorem phased_keeps (old s : State) :
    let w := phaseFollow old (fireFollow old s)
    w.ru = s.ru ∧ w.nt = s.nt ∧ w.doors = s.doors ∧ w.cl.node = s.cl.node ∧ w.now = s.now ∧
      (w.cl.phase = s.cl.phase ∨ s.cl.phase = .listen ∧ w.cl.phase = .run) := by
  obtain ⟨_, _, h⟩ := fireFollow_changes old s
  dsimp only
  generalize fireFollow old s = x at h
  unfold phaseFollow
  split
  · rename_i enters
    simp only [Bool.and_eq_true, decide_eq_true_eq] at enters
    refine ⟨?_, ?_, ?_, ?_, ?_, .inr ⟨?_, rfl⟩⟩
    · rw [h]; rfl
    · rw [h]; rfl
    · rw [h]; rfl
    · rw [h]; rfl
    · rw [h]; rfl
    · rw [← enters.1.1, h]
  · rw [h]
    exact ⟨rfl, rfl, rfl, rfl, rfl, .inl rfl⟩

/-- At the end of an event the route unit's inputs are those it acted on. -/
theorem settle_routeInputs (old s : State) (peer : Option Nat) (pressed : List Nat) :
    (settle old s peer pressed).routeInputs = (phaseFollow old (fireFollow old s)).routeInputs := by
  have views := settle_routeViews old s peer pressed
  have fl := settle_fl old s peer pressed
  have cl := settle_cl old s peer pressed
  have table := settle_keeps_table old s peer pressed
  obtain ⟨-, nt, doors, -⟩ := phased_keeps old s
  have fl' : (phaseFollow old (fireFollow old s)).fl = (fireFollow old s).fl := by
    unfold phaseFollow
    split <;> rfl
  unfold State.routeInputs
  rw [views, fl, cl, table.1, table.2.2.1, nt, doors, fl']

/-- R77 to R84: in RUN the record after an event is the one computed from what stands there, the via before it being the present one. -/
theorem Footprint.computes {c : Instr} {u v : State} (f : Footprint c u v) (settled : u.RouteSettled) (peer : Option Nat) (pressed : List Nat)
    (run : (settle u v peer pressed).running = true) :
    (settle u v peer pressed).ru = State.computedRoute { settle u v peer pressed with ru := u.ru } := by
  obtain ⟨ru, nt, doors, node, -, phase⟩ := phased_keeps u v
  have inputs := settle_routeInputs u v peer pressed
  have running : (phaseFollow u (fireFollow u v)).running = true := by
    unfold State.running at run ⊢
    rw [← settle_cl u v peer pressed]
    exact run
  have followed := settle_ru u v peer pressed
  generalize settle u v peer pressed = t at inputs run followed ⊢
  have after : State.computedRoute { t with ru := u.ru } = (phaseFollow u (fireFollow u v)).computedRoute :=
    State.computedRoute_congr inputs (congrArg Route.via (ru.trans f.ru)).symm
  rw [after, followed]
  generalize phaseFollow u (fireFollow u v) = w at *
  unfold followedRoute
  rw [if_pos running]
  cases changed : routeInputsChanged u w
  · have before : u.cl.phase = .run := by
      simp only [routeInputsChanged, Bool.or_eq_false_iff, Bool.and_eq_false_iff, Bool.not_eq_false'] at changed
      rcases changed.2 with b | n
      · simpa [State.running] using b
      · rw [running] at n; cases n
    have reads : w.routeReads = u.routeReads := by
      refine routeReads_of_unchanged changed ?_ ?_ (node.trans f.node.1)
      · unfold State.slotConfigs; rw [nt]; exact f.slotConfigs
      · unfold State.doorConfigs; rw [doors]; exact f.moved.configs
    rw [if_neg Bool.false_ne_true, State.computedRoute_of_reads reads (congrArg Route.via (ru.trans f.ru)), ← settled.run before]
    exact ru.trans f.ru
  · rw [if_pos rfl]

theorem slotCosts_of_configs {s t : State} (h : t.slotConfigs = s.slotConfigs) (costs : ∀ k ∈ s.nt.slots, 1 ≤ k.cost) :
    ∀ k ∈ t.nt.slots, 1 ≤ k.cost := by
  intro k mem
  have there : k.config ∈ s.slotConfigs := by rw [← h]; exact List.mem_map_of_mem mem
  obtain ⟨k', mem', same⟩ := List.mem_map.1 there
  have := costs k' mem'
  have cost : k'.cost = k.cost := congrArg (·.2.2) same
  omega

theorem slotCount_of_configs {s t : State} (h : t.slotConfigs = s.slotConfigs) : t.nt.slots.length = s.nt.slots.length := by
  simpa [State.slotConfigs] using congrArg List.length h

theorem settle_slotConfigs {c : Instr} {u v : State} (f : Footprint c u v) (peer : Option Nat) (pressed : List Nat) :
    (settle u v peer pressed).slotConfigs = u.slotConfigs := by
  unfold State.slotConfigs
  rw [(settle_keeps_table u v peer pressed).1]
  exact f.slotConfigs

theorem Footprint.routeSettled {c : Instr} {u v : State} (f : Footprint c u v) (settled : u.RouteSettled)
    (peer : Option Nat) (pressed : List Nat) : (settle u v peer pressed).RouteSettled := by
  have configs := settle_slotConfigs f peer pressed
  refine ⟨(slotCount_of_configs configs).trans settled.slots, slotCosts_of_configs configs settled.costs, fun listening => ?_,
    fun running => ?_⟩
  · obtain ⟨ru, nt, -, -, -, phase⟩ := phased_keeps u v
    have here : (phaseFollow u (fireFollow u v)).cl.phase = .listen := by rw [← settle_cl u v peer pressed]; exact listening
    have evacuate := (settle_keeps_table u v peer pressed).2.2.1
    have before : u.cl.phase = .listen := by
      rcases phase with same | ⟨-, run⟩
      · rcases f.phase with cl | ⟨-, rfl⟩
        · rw [← cl, ← same]; exact here
        · rw [here] at same; cases same
      · rw [here] at run; cases run
    have was := settled.listen before
    rw [settle_ru, evacuate]
    generalize phaseFollow u (fireFollow u v) = w at *
    have still : w.running = false := by unfold State.running; rw [here]; rfl
    unfold followedRoute
    rw [if_neg (by rw [still]; exact Bool.false_ne_true)]
    split
    · unfold State.listenRoute
      rw [ru, f.ru, was, nt]
    · rename_i same
      rw [ru, f.ru, was]
      rw [Bool.not_eq_true, bne_eq_false_iff_eq, nt] at same
      rw [same]
  · have run : (settle u v peer pressed).running = true := by unfold State.running; rw [running]; rfl
    have computed := f.computes settled peer pressed run
    generalize settle u v peer pressed = t at computed ⊢
    exact computed.trans (State.computedRoute_again (s := { t with ru := u.ru }) (t := t) rfl computed).symm

/-! ### Every step -/

theorem Door.grant_routeView (d : Door) (now : Nat) : (d.grant now).routeView = d.routeView := by
  cases h : d.state <;> simp [Door.grant, Door.routeView, Door.jammed, h]

/-- A pulse is no change of a door's kind or JAMMED condition. -/
theorem Alone.routeViews {c : Instr} {u v : State} (h : Alone c u v) :
    v.doors.map (·.routeView) = u.doors.map (·.routeView) := by
  cases h with
  | pulse =>
    refine map_set_same (d := Door.idle .unused) (·.routeView) ?_
    obtain ⟨cfg, state⟩ := Door.drive_cfg_state (Door.grant _ u.now) _ u.now
    exact (Door.routeView_congr cfg (by rw [state])).trans (Door.grant_routeView _ _)
  | @grant _ n choice => cases choice <;> rfl
  | stuckEnd => unfold State.stuckEnd; split <;> rfl
  | clearLamps =>
    obtain ⟨_, _, _, e⟩ := u.clearLamps_changes
    rw [e]
  | _ => rfl

theorem Alone.routeInputs {c : Instr} {u v : State} (h : Alone c u v) :
    v.routeInputs = u.routeInputs ∧ v.ru = u.ru ∧ v.cl = u.cl ∧ v.nt = u.nt := by
  have views := h.routeViews
  obtain ⟨_, _, _, _, _, _, _, _, _, rfl⟩ := h.changes
  unfold State.routeInputs
  rw [views]
  exact ⟨rfl, rfl, rfl, rfl⟩

theorem State.RouteSettled.congr {s t : State} (h : s.RouteSettled) (inputs : t.routeInputs = s.routeInputs) (ru : t.ru = s.ru)
    (cl : t.cl = s.cl) (nt : t.nt = s.nt) : t.RouteSettled where
  slots := by rw [nt]; exact h.slots
  costs := by rw [nt]; exact h.costs
  listen listening := by rw [ru, nt]; exact h.listen (cl ▸ listening)
  run running := by
    rw [ru, State.computedRoute_congr inputs (congrArg Route.via ru)]
    exact h.run (cl ▸ running)

/-- R77 to R86 stand at the end of every step. -/
theorem State.routeSettled_kept : Kept State.RouteSettled where
  answered h i := by obtain ⟨_, _, rfl⟩ := h; exact i.congr rfl rfl rfl rfl
  moment h i := by obtain ⟨_, _, _, _, rfl⟩ := h; exact i.congr rfl rfl rfl rfl
  pending _ i := i.congr rfl rfl rfl rfl
  restarts s phase port asleep := by
    refine ⟨rfl, fun k mem => ?_, fun listening => ?_, fun running => ?_⟩
    · rw [List.eq_of_mem_replicate mem]; exact le_refl 1
    · rcases asleep with rfl | rfl <;> cases listening
    · rcases asleep with rfl | rfl <;> cases running
  loads s bytes strap := by
    obtain ⟨_, _, _, e⟩ := s.leaveLoading_changes bytes strap
    have fresh := configOf_fresh bytes strap
    have loaded : (s.loaded bytes strap).RouteSettled := by
      refine ⟨fresh.slots, fun k mem => ?_, fun _ => rfl, nofun⟩
      obtain ⟨_, _, _, rfl, cost⟩ := fresh.slot k mem
      exact cost
    rw [e]
    exact loaded.congr rfl rfl rfl rfl
  follows _ owner i := owner.footprint.routeSettled i _ _
  alone h i := i.congr h.routeInputs.1 h.routeInputs.2.1 h.routeInputs.2.2.1 h.routeInputs.2.2.2

/-- R84's table. -/
theorem evacCause_iff (f e : Nat) (flag : Bool) :
    (evacCause f e flag = some .both ↔ f ≤ e ∧ flag = true) ∧ (evacCause f e flag = some .radius ↔ f ≤ e ∧ flag = false) ∧
      (evacCause f e flag = some .building ↔ ¬f ≤ e ∧ flag = true) ∧ (evacCause f e flag = none ↔ ¬f ≤ e ∧ flag = false) := by
  unfold evacCause
  by_cases near : f ≤ e <;> cases flag <;> simp [near]

/-- Settles O6: `routeSettled_kept`, and R84's and R86's conditions read from the record. -/
theorem stepKeepsRoute : Obligations.StepKeepsRoute := by
  refine ⟨fun s t shaped held h => (State.routeSettled_kept.step (held.settled shaped.slots) h).follows, fun s held => ⟨?_, ?_⟩⟩
  · intro run
    obtain ⟨-, -, -, -, -, evacuating, -⟩ := held.2.2 run
    rw [evacuating]
    exact evacCause_iff _ _ _
  · intro listening
    rw [held.2.1 listening]
    cases s.nt.evacuate <;> simp

end Sys2Proof.Machine
end

/-! ## Distances, via, and the route unit's reports (R77 to R85, R88) -/

section
namespace Sys2Proof.Machine

/-! ### The computation read by place -/

theorem Slot.fireSum_used {k : Slot} (used : k.id ≠ 0) :
    k.fireSum = if k.presence = .absent then 15 else min 15 (k.f + k.cost) := by
  unfold Slot.fireSum Slot.heard Slot.used cap
  cases k.presence <;> simp [used]

/-- R77. -/
theorem State.fireDistance_below {s : State} (len : s.nt.slots.length = 8) (below : s.fl.gallery ≠ .fire) :
    (∀ i < 8, (s.slot i).id ≠ 0 → s.fireDistance ≤ (s.slot i).fireSum) ∧
      (s.fireDistance = 15 ∨ ∃ i < 8, (s.slot i).id ≠ 0 ∧ s.fireDistance = (s.slot i).fireSum) := by
  unfold State.fireDistance
  rw [if_neg below]
  refine ⟨fun i low used => least_le ?_, ?_⟩
  · have mem : s.slot i ∈ s.nt.slots := getD_mem (by omega) _
    exact List.mem_map_of_mem (List.mem_filter.2 ⟨mem, by simpa [Slot.used] using used⟩)
  · refine (least_reached _).imp_right fun reached => ?_
    obtain ⟨k, mem, sum⟩ := List.mem_map.1 reached
    obtain ⟨mem, used⟩ := List.mem_filter.1 mem
    obtain ⟨i, low, here⟩ := mem_getD mem Slot.unused
    refine ⟨i, by omega, ?_⟩
    unfold State.slot
    rw [here]
    exact ⟨by simpa [Slot.used] using used, sum.symm⟩

theorem Door.availableExit_iff (d : Door) : d.availableExit = true ↔ d.cfg.kind = .exit ∧ d.state ≠ .jammed := by
  unfold Door.availableExit Door.jammed
  by_cases kind : d.cfg.kind = .exit <;> simp [kind]

/-- R79: the lowest-indexed available exit. -/
theorem State.exitDoor_some {s : State} (len : s.doors.length = 8) {d : Nat} (low : d < 8)
    (here : (s.door d).availableExit = true) (first : ∀ j < d, (s.door j).availableExit = false) : s.exitDoor = some d := by
  unfold State.exitDoor
  have door {j : Nat} (h : j < s.doors.length) : s.doors[j] = s.door j := (List.getD_eq_getElem _ _ h).symm
  refine List.findIdx?_eq_some_iff_getElem.2 ⟨by omega, ?_, fun j before => ?_⟩
  · rw [door]; exact here
  · rw [door, first j before]; exact Bool.false_ne_true

theorem State.exitDoor_none {s : State} (len : s.doors.length = 8) :
    s.exitDoor = none ↔ ∀ d < 8, (s.door d).availableExit = false := by
  unfold State.exitDoor
  rw [List.findIdx?_eq_none_iff, forall_mem_iff_getD len (Door.idle .unused)]
  rfl

/-- R80, R81. -/
theorem State.usable_iff (s : State) (i : Nat) :
    s.usable (s.slot i) = true ↔ (s.slot i).id ≠ 0 ∧ (s.slot i).presence = .fresh ∧
      ∀ d, (s.slot i).link = some d → (s.door d).cfg.kind = .gallery ∧ (s.door d).state ≠ .jammed := by
  have passable : s.passable (s.slot i) = true ↔
      ∀ d, (s.slot i).link = some d → (s.door d).cfg.kind = .gallery ∧ (s.door d).state ≠ .jammed := by
    unfold State.passable Door.jammed
    cases (s.slot i).link with
    | none => simp
    | some d => by_cases kind : (s.door d).cfg.kind = .gallery <;> simp [kind]
  unfold State.usable Slot.fresh Slot.used
  rw [Bool.and_eq_true_iff, passable, Bool.and_eq_true_iff]
  simp [and_assoc]

theorem State.exitSum_usable {s : State} {i : Nat} (usable : s.usable (s.slot i) = true) :
    s.exitSum (s.slot i) = min 15 ((s.slot i).x + (s.slot i).cost) := if_pos usable

theorem State.exitByNeighbours_le {s : State} (len : s.nt.slots.length = 8) {i : Nat} (low : i < 8) :
    s.exitByNeighbours ≤ s.exitSum (s.slot i) :=
  least_le (List.mem_map_of_mem (getD_mem (by omega) _))

theorem State.achieves_iff {s : State} {x i : Nat} :
    s.achieves x i = true ↔ s.usable (s.slot i) = true ∧ min 15 ((s.slot i).x + (s.slot i).cost) = x := by
  unfold State.achieves
  rw [Bool.and_eq_true_iff, decide_eq_true_iff]
  exact and_congr_right fun usable => by rw [State.exitSum_usable usable]

theorem State.computedRoute_f (s : State) : s.computedRoute.f = s.fireDistance := by
  cases exit_ : s.exitDoor with
  | some d => rw [State.computedRoute_exit exit_]
  | none => rw [State.computedRoute_inner exit_]

theorem State.computedRoute_announced (s : State) :
    s.computedRoute.announcedX = if s.fl.gallery = .fire then 15 else s.computedRoute.xLocal := by
  cases exit_ : s.exitDoor with
  | some d => rw [State.computedRoute_exit exit_]
  | none => rw [State.computedRoute_inner exit_]

theorem State.computedRoute_inner_parts {s : State} (exit_ : s.exitDoor = none) :
    s.computedRoute.xLocal = s.exitByNeighbours ∧ s.computedRoute.exitDoor = none ∧
      s.computedRoute.via = if s.exitByNeighbours = 15 then .none else s.chooseVia s.exitByNeighbours := by
  rw [State.computedRoute_inner exit_]
  exact ⟨rfl, rfl, rfl⟩

/-- R82, where a slot must be chosen. -/
theorem State.chooseVia_fresh_spec {s : State} (len : s.nt.slots.length = 8) {x : Nat} {i : Nat}
    (h : s.freshVia x = .slot i) {j : Nat} (achieved : s.achieves x j = true) :
    (s.slot i).cost < (s.slot j).cost ∨ ((s.slot i).cost = (s.slot j).cost ∧ i ≤ j) :=
  cheapest_least (List.Pairwise.filter _ List.pairwise_lt_range) (State.freshVia_slot h) j
    (State.mem_achievers.2 ⟨State.achieves_lt len achieved, achieved⟩)

/-! ### The reports -/

theorem reportEvacuating_reported {old s : State} (h : old.ru.evacuating.isSome ≠ s.ru.evacuating.isSome) :
    Reported s .evacuating s.ru.f (if s.ru.evacuating.isSome then packSet (evacCode s.ru.evacuating) else packClear none)
      (reportEvacuating old s) := by
  unfold reportEvacuating
  rw [if_neg h]
  exact Reports.reported (.refl _) rfl

/-- The x_local that the unit compares with (R88). -/
def State.exitBefore (s : State) : Nat := if s.running then s.ru.xLocal else 0

theorem reportNoRoute_set {old s : State} (before : old.exitBefore < 15) (now : s.ru.xLocal = 15) :
    Reported s .noRoute old.ru.via.code 0xFF01 (reportNoRoute old s) := by
  have form : reportNoRoute old s = s.report .noRoute old.ru.via.code (packSet none) := by
    unfold reportNoRoute
    exact if_pos (⟨before, now⟩ : old.exitBefore < 15 ∧ s.ru.xLocal = 15)
  have value : packSet none = 0xFF01 := by decide
  rw [form, value]
  exact Reports.reported (.refl _) rfl

theorem reportNoRoute_clear {old s : State} (before : old.exitBefore = 15) (now : s.ru.xLocal < 15) :
    Reported s .noRoute old.ru.via.code (s.ru.via.code * 256) (reportNoRoute old s) := by
  have form : reportNoRoute old s = s.report .noRoute old.ru.via.code (packClear (some s.ru.via.code)) := by
    unfold reportNoRoute
    exact (if_neg (fun h => absurd (h.1 : old.exitBefore < 15) (by omega))).trans (if_pos ⟨before, now⟩)
  have value : packClear (some s.ru.via.code) = s.ru.via.code * 256 := Nat.add_zero _
  rw [form, value]
  exact Reports.reported (.refl _) rfl

/-- R84, R88: what the route unit reports at the event that took the block from `old` to `w`. -/
structure RouteReported (s t : State) : Prop where
  begins : ∀ cause, s.ru.evacuating = none → t.ru.evacuating = some cause →
    Reported s .evacuating t.ru.f (cause.code * 256 + 1) t
  ends : s.ru.evacuating ≠ none → t.ru.evacuating = none → Reported s .evacuating t.ru.f 0xFF00 t
  dead : t.running = true → s.exitBefore < 15 → t.ru.xLocal = 15 → Reported s .noRoute s.ru.via.code 0xFF01 t
  live : t.running = true → s.exitBefore = 15 → t.ru.xLocal < 15 → Reported s .noRoute s.ru.via.code (t.ru.via.code * 256) t

/-- Where the record and the phase stand nothing is reported. -/
theorem RouteReported.of_same {s t : State} (ru : t.ru = s.ru) (run : t.running = true → s.running = true) :
    RouteReported s t where
  begins cause none_ some_ := by rw [ru, none_] at some_; cases some_
  ends some_ none_ := absurd (ru ▸ none_) some_
  dead running before now := by
    unfold State.exitBefore at before
    rw [if_pos (run running), ← ru] at before
    omega
  live running before now := by
    unfold State.exitBefore at before
    rw [if_pos (run running), ← ru] at before
    omega

theorem reportNoRoute_keeps (old s : State) :
    (reportNoRoute old s).ru = s.ru ∧ (reportNoRoute old s).now = s.now ∧ (reportNoRoute old s).cl = s.cl := by
  obtain ⟨_, h⟩ := reportNoRoute_changes old s
  rw [h]; exact ⟨rfl, rfl, rfl⟩

theorem reportEvacuating_keeps (old s : State) :
    (reportEvacuating old s).ru = s.ru ∧ (reportEvacuating old s).now = s.now ∧ (reportEvacuating old s).cl = s.cl := by
  obtain ⟨_, h⟩ := reportEvacuating_changes old s
  rw [h]; exact ⟨rfl, rfl, rfl⟩

theorem reportEvacuating_begins {old s : State} {cause : EvacCause} (before : old.ru.evacuating = none)
    (now : s.ru.evacuating = some cause) : Reported s .evacuating s.ru.f (cause.code * 256 + 1) (reportEvacuating old s) := by
  have reported := reportEvacuating_reported (old := old) (s := s) (by rw [before, now]; exact nofun)
  rw [now] at reported
  exact reported

theorem reportEvacuating_ends {old s : State} (before : old.ru.evacuating ≠ none) (now : s.ru.evacuating = none) :
    Reported s .evacuating s.ru.f 0xFF00 (reportEvacuating old s) := by
  have was : old.ru.evacuating.isSome = true := Option.isSome_iff_ne_none.2 before
  have reported := reportEvacuating_reported (old := old) (s := s) (by rw [was, now]; exact nofun)
  have value : packClear none = 0xFF00 := by decide
  rw [now, if_neg (by exact nofun), value] at reported
  exact reported

/-- At an event, from the owner's state on. -/
theorem routeFollow_reported {old w : State} (ru : w.ru = old.ru) : ∃ r, routeFollow old w = { w with
      ru := followedRoute old w, ap := { w.ap with reports := r } } ∧
    (∀ cause, old.ru.evacuating = none → (followedRoute old w).evacuating = some cause →
      Reported w .evacuating (followedRoute old w).f (cause.code * 256 + 1) (routeFollow old w)) ∧
    (old.ru.evacuating ≠ none → (followedRoute old w).evacuating = none →
      Reported w .evacuating (followedRoute old w).f 0xFF00 (routeFollow old w)) ∧
    (w.running = true → old.exitBefore < 15 → (followedRoute old w).xLocal = 15 →
      Reported w .noRoute old.ru.via.code 0xFF01 (routeFollow old w)) ∧
    (w.running = true → old.exitBefore = 15 → (followedRoute old w).xLocal < 15 →
      Reported w .noRoute old.ru.via.code ((followedRoute old w).via.code * 256) (routeFollow old w)) := by
  obtain ⟨r, h⟩ := routeFollow_changes old w
  refine ⟨r, h, ?_⟩
  clear h
  unfold routeFollow followedRoute
  cases run : w.running
  · rw [if_neg Bool.false_ne_true, if_neg Bool.false_ne_true]
    by_cases changed : (old.nt.evacuate != w.nt.evacuate) = true
    · rw [if_pos changed, if_pos changed]
      exact ⟨fun cause before now => reportEvacuating_begins (s := w.setRu w.listenRoute) before now,
        fun before now => reportEvacuating_ends (s := w.setRu w.listenRoute) before now, nofun, nofun⟩
    · rw [if_neg changed, if_neg changed, ru]
      exact ⟨fun cause before now => (nomatch before.symm.trans now), fun before now => absurd now before, nofun, nofun⟩
  · rw [if_pos rfl, if_pos rfl]
    cases changed : routeInputsChanged old w
    · rw [if_neg Bool.false_ne_true, if_neg Bool.false_ne_true, ru]
      have ran : old.running = true := by
        simp only [routeInputsChanged, Bool.or_eq_false_iff, Bool.and_eq_false_iff, Bool.not_eq_false'] at changed
        rcases changed.2 with b | n
        · exact b
        · rw [run] at n; cases n
      unfold State.exitBefore
      rw [if_pos ran]
      exact ⟨fun cause before now => (nomatch before.symm.trans now), fun before now => absurd now before,
        fun _ before now => by omega, fun _ before now => by omega⟩
    · rw [if_pos rfl, if_pos rfl]
      dsimp only
      generalize new : w.setRu w.computedRoute = x
      have xru : x.ru = w.computedRoute := by rw [← new]; rfl
      have xnow : x.now = w.now := by rw [← new]; rfl
      have xap : x.ap = w.ap := by rw [← new]; rfl
      rw [← xru]
      obtain ⟨eru, enow, -⟩ := reportEvacuating_keeps old x
      obtain ⟨-, nnow, -⟩ := reportNoRoute_keeps old (reportEvacuating old x)
      have start : Extends w.ap.reports x.ap.reports := .of_eq (by rw [xap])
      refine ⟨fun cause before now => ?_, fun before now => ?_, fun _ before now => ?_, fun _ before now => ?_⟩
      · exact (reportEvacuating_begins before now).through start (reportNoRoute_extends old _) nnow
      · exact (reportEvacuating_ends before now).through start (reportNoRoute_extends old _) nnow
      · exact (reportNoRoute_set before (eru ▸ now)).through (start.trans (reportEvacuating_extends old x)) (.refl _) rfl
      · rw [← eru]
        exact (reportNoRoute_clear before (eru ▸ now)).through (start.trans (reportEvacuating_extends old x)) (.refl _) rfl


theorem phaseFollow_running (old s : State) : (phaseFollow old s).ap = s.ap ∧ (phaseFollow old s).now = s.now := by
  unfold phaseFollow
  split <;> exact ⟨rfl, rfl⟩

theorem Footprint.routeReported {c : Instr} {u v : State} (f : Footprint c u v) (peer : Option Nat) (pressed : List Nat) :
    RouteReported u (settle u v peer pressed) := by
  obtain ⟨ru, -, -, -, now, -⟩ := phased_keeps u v
  obtain ⟨r, form, begins, ends, dead, live⟩ := routeFollow_reported (ru.trans f.ru)
  have before : Extends u.ap.reports (phaseFollow u (fireFollow u v)).ap.reports := by
    rw [(phaseFollow_running u _).1]
    exact f.extends.trans (fireFollow_extends u v)
  have after : Extends (routeFollow u (phaseFollow u (fireFollow u v))).ap.reports (settle u v peer pressed).ap.reports := by
    unfold settle
    dsimp only
    refine .trans ?_ (announceFollow_extends u _ pressed)
    refine .trans ?_ (faultFollow_extends u _)
    refine .trans ?_ (stateFollow_extends u _)
    refine .trans ?_ (testFollow_extends u _ peer)
    refine .trans ?_ (signalsFollow_extends u _)
    refine .trans ?_ (callsFollow_extends u _)
    refine .trans ?_ (doorsFollow_extends u _)
    exact (firstStateFollow_extends u _).trans (latchFollow_extends u _)
  have time : (settle u v peer pressed).now = (routeFollow u (phaseFollow u (fireFollow u v))).now := by
    rw [settle_now, form]
    exact now.symm
  have route := settle_ru u v peer pressed
  have run : (settle u v peer pressed).running = (phaseFollow u (fireFollow u v)).running := by
    unfold State.running
    rw [settle_cl]
  constructor
  · intro cause was is_
    rw [route] at is_ ⊢
    exact (begins cause was is_).through before after time
  · intro was is_
    rw [route] at is_ ⊢
    exact (ends was is_).through before after time
  · intro running was is_
    rw [route] at is_
    exact (dead (run ▸ running) was is_).through before after time
  · intro running was is_
    rw [route] at is_ ⊢
    exact (live (run ▸ running) was is_).through before after time

theorem RouteReported.answered {s t t' : State} (h : RouteReported s t) (a : Answered t t') : RouteReported s t' := by
  obtain ⟨_, _, rfl⟩ := a
  exact ⟨h.begins, h.ends, h.dead, h.live⟩

theorem RouteReported.moment {s u t : State} (h : RouteReported u t) (m : AtEvent s u) : RouteReported s t := by
  obtain ⟨_, _, _, _, rfl⟩ := m
  exact ⟨h.begins, h.ends, h.dead, h.live⟩

/-- R84, R88, whatever is commanded. -/
theorem exec_routeReported {c : Instr} {s t : State} (awake : s.awake = true) (awake' : t.awake = true)
    (h : exec c s = .next t) : RouteReported s t := by
  rcases exec_awake awake awake' h with ⟨u, v, peer, pressed, moment, owner, a⟩ | ⟨u, v, moment, owner, a⟩
  · exact ((owner.footprint.routeReported peer pressed).answered a).moment moment
  · obtain ⟨-, ru, cl, -⟩ := owner.routeInputs
    exact ((RouteReported.of_same ru (by unfold State.running; rw [cl]; exact id)).answered a).moment moment

/-- R85: in RUN, whatever was commanded, the record is the one computed from what stands there and the via before. -/
theorem exec_computes {c : Instr} {s t : State} (awake : s.awake = true) (run : t.running = true) (settled : s.RouteSettled)
    (h : exec c s = .next t) : t.ru = State.computedRoute { t with ru := s.ru } := by
  rcases exec_awake awake (State.awake_of_running run) h with ⟨u, v, peer, pressed, moment, owner, a⟩ | ⟨u, v, moment, owner, a⟩
  · have before := State.routeSettled_kept.moment moment settled
    have ru : u.ru = s.ru := by obtain ⟨_, _, _, _, rfl⟩ := moment; rfl
    have run' : (settle u v peer pressed).running = true := a.running ▸ run
    have computed := owner.footprint.computes before peer pressed run'
    generalize settle u v peer pressed = w at computed a
    obtain ⟨_, _, rfl⟩ := a
    rw [← ru]
    exact computed.trans (State.computedRoute_congr (s := { w with ru := u.ru }) rfl rfl).symm
  · have after := State.routeSettled_kept.answered a (State.routeSettled_kept.alone owner (State.routeSettled_kept.moment moment settled))
    have ru : t.ru = s.ru := by
      obtain ⟨_, _, rfl⟩ := a
      obtain ⟨_, _, _, _, rfl⟩ := moment
      exact owner.routeInputs.2.1
    rw [← ru]
    exact after.run (by simpa [State.running] using run)

/-- Settles O34: the computation read by place, `exec_computes` and `exec_routeReported`. -/
theorem routeComputed : Obligations.RouteComputed := by
  refine ⟨fun s shaped costs => ?_, fun c s t awake run shaped held h => exec_computes awake run (held.settled shaped.slots) h,
    fun c s t awake awake' held h => ?_⟩
  · have door (d : Nat) := Door.availableExit_iff (s.door d)
    refine ⟨fun fire => ?_, fun below => ?_, fun d low here first => ?_, fun none_ => ?_, s.computedRoute_announced⟩
    · rw [s.computedRoute_f]; exact if_pos fire
    · rw [s.computedRoute_f]
      obtain ⟨bound, reached⟩ := State.fireDistance_below shaped.slots below
      refine ⟨?_, fun i low used => (bound i low used).trans (Slot.fireSum_used used).le,
        reached.imp_right fun ⟨i, low, used, sum⟩ => ⟨i, low, used, sum.trans (Slot.fireSum_used used)⟩⟩
      unfold State.fireDistance
      rw [if_neg below]
      exact least_le_fifteen _
    · have exit_ := State.exitDoor_some shaped.doors low ((door d).2 here)
        fun j before => Bool.eq_false_iff.2 fun there => first j before ((door j).1 there)
      rw [State.computedRoute_exit exit_]
      exact ⟨rfl, rfl, rfl⟩
    · have exit_ := (State.exitDoor_none shaped.doors).2 fun d low => Bool.eq_false_iff.2 fun there => none_ d low ((door d).1 there)
      obtain ⟨x, exitDoor, via⟩ := State.computedRoute_inner_parts exit_
      have achieves (i : Nat) : s.achieves s.exitByNeighbours i = true ↔ i < 8 ∧
          ((s.slot i).id ≠ 0 ∧ (s.slot i).presence = .fresh ∧
            ∀ d, (s.slot i).link = some d → (s.door d).cfg.kind = .gallery ∧ (s.door d).state ≠ .jammed) ∧
          min 15 ((s.slot i).x + (s.slot i).cost) = s.exitByNeighbours := by
        refine ⟨fun h => ⟨State.achieves_lt shaped.slots h, ?_⟩, fun h => ?_⟩
        · rw [State.achieves_iff, State.usable_iff] at h; exact h
        · rw [State.achieves_iff, State.usable_iff]; exact h.2
      dsimp only
      rw [x, via]
      refine ⟨exitDoor, least_le_fifteen _, fun i low usable => ?_, fun dead => if_pos dead, fun live => ?_⟩
      · exact (State.exitByNeighbours_le shaped.slots low).trans (State.exitSum_usable ((s.usable_iff i).2 usable)).le
      · rw [if_neg (by omega)]
        refine ⟨fun i kept achieved => State.chooseVia_kept kept ((achieves i).2 achieved), fun lost => ?_⟩
        rw [State.chooseVia_fresh fun i kept => Bool.eq_false_iff.2 fun achieved => lost i kept ((achieves i).1 achieved)]
        obtain ⟨i, low, achieved⟩ := State.exitByNeighbours_achieved shaped.slots live
        obtain ⟨j, chosen⟩ := State.freshVia_found low achieved
        exact ⟨j, chosen, (achieves j).1 (State.mem_achievers.1 (cheapest_mem (State.freshVia_slot chosen))).2,
          fun k hk => State.chooseVia_fresh_spec shaped.slots chosen ((achieves k).2 hk)⟩
  · have reported := exec_routeReported awake awake' h
    have via : (if s.running = true then s.ru.via.code else 9) = s.ru.via.code := by
      cases run : s.running
      · have listening : s.cl.phase = .listen := by
          revert awake run
          unfold State.awake State.running
          cases s.cl.phase <;> decide
        rw [held.2.1 listening]
        rfl
      · rfl
    dsimp only
    rw [via]
    exact ⟨reported.begins, reported.ends, reported.dead, reported.live⟩

end Sys2Proof.Machine
end

/-! ## The door drives (R90 to R94, R105) -/

section
namespace Sys2Proof.Machine

/-! ### A door after the changes of other blocks -/

/-- A used door whose free condition was `was` and is `free`: R105, then R94 and R93. -/
def Door.followed (was free : Bool) (magnet : Magnet) (now : Nat) (d : Door) : Door :=
  if d.cfg.kind = .unused then d
  else
    { (if free && !was then d.freeBegins else if was && !free then d.freeEnds now else d).drive free now with magnet := magnet }

theorem State.setDoor_door {s : State} {d : Nat} (low : d < s.doors.length) (v : Door) (i : Nat) :
    (s.setDoor d v).door i = if i = d then v else s.door i := by
  show (s.doors.set d v).getD i (Door.idle .unused) = _
  simp only [List.getD_eq_getElem?_getD, List.getElem?_set]
  by_cases same : i = d
  · simp [same, low]
  · simp [same, Ne.symm same, State.door]

theorem followDoor_door (old s : State) {d : Nat} (low : d < s.doors.length) (i : Nat) :
    (followDoor old s d).door i =
      if i = d then
        (s.door d).followed (old.freeCondition (s.door d)) (s.freeCondition (s.door d)) (s.magnetDrive d (s.door d)) s.now
      else s.door i := by
  unfold followDoor Door.followed
  dsimp only
  split
  · split
    · rename_i same; rw [same]
    · rfl
  · exact State.setDoor_door low _ i

theorem followDoor_changes (old s : State) (d : Nat) :
    ∃ doors, followDoor old s d = { s with doors := doors } ∧ doors.length = s.doors.length := by
  unfold followDoor
  dsimp only
  split
  · exact ⟨s.doors, rfl, rfl⟩
  · exact ⟨_, rfl, List.length_set⟩

theorem forEach_followDoor_changes (old s : State) (n : Nat) :
    ∃ doors, s.forEach n (followDoor old) = { s with doors := doors } ∧ doors.length = s.doors.length := by
  induction n with
  | zero => exact ⟨s.doors, rfl, rfl⟩
  | succ n ih =>
    obtain ⟨doors, h, len⟩ := ih
    obtain ⟨doors', h', len'⟩ := followDoor_changes old (s.forEach n (followDoor old)) n
    rw [State.forEach_succ, h', h]
    exact ⟨doors', rfl, len'.trans (by rw [h]; exact len)⟩

theorem forEach_followDoor_door (old s : State) {n : Nat} (low : n ≤ s.doors.length) (i : Nat) :
    (s.forEach n (followDoor old)).door i =
      if i < n then
        (s.door i).followed (old.freeCondition (s.door i)) (s.freeCondition (s.door i)) (s.magnetDrive i (s.door i)) s.now
      else s.door i := by
  induction n with
  | zero => rfl
  | succ n ih =>
    have before := ih (by omega)
    obtain ⟨doors, h, len⟩ := forEach_followDoor_changes old s n
    rw [State.forEach_succ, followDoor_door old _ (by rw [h]; show n < doors.length; omega), before]
    by_cases last : i = n
    · subst last
      rw [if_neg (by omega)] at before
      rw [if_pos rfl, if_pos (by omega), before, h]
      rfl
    · rw [if_neg last]
      by_cases lt : i < n
      · rw [if_pos lt, if_pos (by omega)]
      · rw [if_neg lt, if_neg (by omega)]

theorem doorsFollow_door (old s : State) (len : s.doors.length = 8) {i : Nat} (low : i < 8) :
    (doorsFollow old s).door i =
      if doorInputsChanged old s then
        (s.door i).followed (old.freeCondition (s.door i)) (s.freeCondition (s.door i)) (s.magnetDrive i (s.door i)) s.now
      else s.door i := by
  unfold doorsFollow
  split
  · rw [forEach_followDoor_door old s (by omega), if_pos low]
  · rfl

theorem doorsFollow_length (old s : State) : (doorsFollow old s).doors.length = s.doors.length := by
  unfold doorsFollow
  split
  · obtain ⟨_, h, len⟩ := forEach_followDoor_changes old s 8
    rw [h]; exact len
  · rfl

/-! ### Drives -/

/-- Door `d` is driven as its inputs ask. An UNUSED door's drives are FREE and DROP by the same tables (R90). -/
structure State.Driven (s : State) (d : Nat) : Prop where
  lock : (s.door d).lock = lockDrive (s.freeCondition (s.door d)) (s.door d)
  magnet : (s.door d).magnet = s.magnetDrive d (s.door d)

theorem lockDrive_unused {d : Door} (unused : d.cfg.kind = .unused) (free : Bool) : lockDrive free d = .free := by
  simp [lockDrive, unused]

theorem State.magnetDrive_unused (s : State) (i : Nat) {d : Door} (unused : d.cfg.kind = .unused) : s.magnetDrive i d = .drop := by
  simp [State.magnetDrive, unused]

theorem State.driveFollows_iff (s : State) (d : Nat) : s.DriveFollows d ↔ s.Driven d := by
  unfold State.DriveFollows
  split
  · rename_i unused
    refine ⟨fun h => ⟨?_, ?_⟩, fun h => ⟨?_, ?_⟩⟩
    · rw [lockDrive_unused unused]; exact h.1
    · rw [s.magnetDrive_unused d unused]; exact h.2
    · rw [h.lock, lockDrive_unused unused]
    · rw [h.magnet, s.magnetDrive_unused d unused]
  · exact ⟨fun h => ⟨h.1, h.2⟩, fun h => ⟨h.lock, h.magnet⟩⟩

/-- The free condition and the magnet drive read a door's configuration alone. -/
theorem State.freeCondition_cfg (s : State) {d e : Door} (cfg : e.cfg = d.cfg) : s.freeCondition e = s.freeCondition d := by
  unfold State.freeCondition; rw [cfg]

theorem State.magnetDrive_cfg (s : State) (i : Nat) {d e : Door} (cfg : e.cfg = d.cfg) : s.magnetDrive i e = s.magnetDrive i d := by
  unfold State.magnetDrive; rw [cfg]

theorem Door.followed_cfg (was free : Bool) (magnet : Magnet) (now : Nat) (d : Door) :
    (d.followed was free magnet now).cfg = d.cfg := by
  unfold Door.followed
  split
  · rfl
  · refine (Door.drive_cfg_state _ free now).1.trans ?_
    split
    · exact d.freeBegins_same.1
    · split
      · exact (d.freeEnds_same now).1
      · rfl

theorem Door.followed_lock {was free : Bool} {magnet : Magnet} {now : Nat} {d : Door} (used : d.cfg.kind ≠ .unused) :
    (d.followed was free magnet now).lock = lockDrive free (d.followed was free magnet now) ∧
      (d.followed was free magnet now).magnet = magnet := by
  unfold Door.followed
  rw [if_neg used]
  exact ⟨Door.drive_lock _ free now, rfl⟩

/-- What a door's drives read of the other blocks (R92, R93). -/
structure SameDriveInputs (s t : State) : Prop where
  free : ∀ d, t.freeCondition d = s.freeCondition d
  magnet : ∀ i d, t.magnetDrive i d = s.magnetDrive i d

theorem linkFire_of_views {s t : State} (configs : t.slotConfigs = s.slotConfigs) (fires : t.slotFires = s.slotFires) (d : Nat) :
    t.linkFire d = s.linkFire d := by
  have read (u : State) : u.linkFire d = (u.nt.slots.map fun k => (k.config,
      ((if k.used then k.presence else .absent : Presence), k.offeredFire))).any fun p =>
        p.1.1 != 0 && p.1.2.1 == some d && p.2.2 = .fire := by
    unfold State.linkFire
    rw [List.any_map]
    rfl
  rw [read, read, map_pair_eq configs fires]

theorem sameDriveInputs_of_unchanged {old s : State} (h : doorInputsChanged old s = false) (configs : s.slotConfigs = old.slotConfigs) :
    SameDriveInputs old s := by
  simp only [doorInputsChanged, Bool.or_eq_false_iff, bne_eq_false_iff_eq] at h
  obtain ⟨⟨⟨mode, evacuating⟩, gallery⟩, fires⟩ := h
  refine ⟨fun d => ?_, fun i d => ?_⟩
  · unfold State.freeCondition
    rw [mode, evacuating]
  · unfold State.magnetDrive
    rw [mode, evacuating, gallery, linkFire_of_views configs fires.symm]

theorem State.OneDoorMoved.length {u v : State} (h : u.OneDoorMoved v) : v.doors.length = u.doors.length := by
  rcases h with same | ⟨d, w, -, set_⟩
  · rw [same]
  · rw [set_, List.length_set]

/-- After a change of its own a door's drives are right for the inputs before it. -/
theorem State.OneDoorMoved.driven {u v : State} (h : u.OneDoorMoved v) {i : Nat} (driven : u.Driven i) :
    (v.door i).cfg = (u.door i).cfg ∧ (v.door i).lock = lockDrive (u.freeCondition (u.door i)) (v.door i) ∧
      (v.door i).magnet = u.magnetDrive i (u.door i) := by
  rcases h with same | ⟨d, w, moved, set_⟩
  · have door : v.door i = u.door i := by unfold State.door; rw [same]
    rw [door]
    exact ⟨rfl, driven.lock, driven.magnet⟩
  · have door : v.door i = (u.setDoor d w).door i := by unfold State.door; rw [set_]; rfl
    rw [door]
    by_cases low : d < u.doors.length
    · rw [State.setDoor_door low]
      split
      · rename_i here
        subst here
        exact ⟨moved.cfg, moved.lock, moved.magnet.trans driven.magnet⟩
      · exact ⟨rfl, driven.lock, driven.magnet⟩
    · have out : (u.setDoor d w).door i = u.door i := by
        show (u.doors.set d w).getD i (Door.idle .unused) = _
        rw [List.set_eq_of_length_le (by omega)]
        rfl
      rw [out]
      exact ⟨rfl, driven.lock, driven.magnet⟩

/-! ### The end of an event -/

theorem doorInputsChanged_ground {w t : State} (g : SameGround w t) (old : State) :
    doorInputsChanged old t = doorInputsChanged old w := by
  unfold doorInputsChanged State.slotFires
  rw [g.mode, g.isEvacuating, g.fl, g.slots]

/-- R93, R94, R105: a door at the end of an event, by the inputs that the event leaves. -/
theorem settle_door (old : State) {s : State} (len : s.doors.length = 8) (peer : Option Nat) (pressed : List Nat) {i : Nat}
    (low : i < 8) :
    (settle old s peer pressed).door i =
      if doorInputsChanged old (settle old s peer pressed) then
        (s.door i).followed (old.freeCondition (s.door i)) ((settle old s peer pressed).freeCondition (s.door i))
          ((settle old s peer pressed).magnetDrive i (s.door i)) (settle old s peer pressed).now
      else s.door i := by
  obtain ⟨w, ⟨ground, -, -⟩, same, doors⟩ := (settle_stages old s peer pressed).doors
  have door : w.door i = s.door i := by unfold State.door; rw [same]
  have final : (settle old s peer pressed).door i = (doorsFollow old w).door i := by unfold State.door; rw [doors]
  rw [final, doorsFollow_door old w (by rw [same]; exact len) low, door, doorInputsChanged_ground ground, ground.freeCondition,
    ground.magnetDrive, ground.now]

theorem settle_doors_length (old s : State) (peer : Option Nat) (pressed : List Nat) :
    (settle old s peer pressed).doors.length = s.doors.length := by
  obtain ⟨w, -, same, doors⟩ := (settle_stages old s peer pressed).doors
  rw [doors, doorsFollow_length, same]

theorem Footprint.driven {c : Instr} {u v : State} (f : Footprint c u v) (len : u.doors.length = 8) (peer : Option Nat)
    (pressed : List Nat) {i : Nat} (low : i < 8) (driven : u.Driven i) : (settle u v peer pressed).Driven i := by
  obtain ⟨cfg, lock, magnet⟩ := f.moved.driven driven
  have door := settle_door u (s := v) (f.moved.length.trans len) peer pressed low
  have configs := settle_slotConfigs f peer pressed
  generalize settle u v peer pressed = t at *
  cases changed : doorInputsChanged u t
  · rw [changed, if_neg Bool.false_ne_true] at door
    have inputs := sameDriveInputs_of_unchanged changed configs
    refine ⟨?_, ?_⟩
    · rw [door, lock, inputs.free, u.freeCondition_cfg cfg]
    · rw [door, magnet, inputs.magnet, u.magnetDrive_cfg i cfg]
  · rw [changed, if_pos rfl] at door
    by_cases used : (v.door i).cfg.kind = .unused
    · rw [Door.followed, if_pos used] at door
      refine ⟨?_, ?_⟩
      · rw [door, lock, lockDrive_unused used, lockDrive_unused used]
      · rw [door, magnet, State.magnetDrive_unused _ _ used, State.magnetDrive_unused _ _ (cfg ▸ used)]
    · have cfg' := Door.followed_cfg (u.freeCondition (v.door i)) (t.freeCondition (v.door i)) (t.magnetDrive i (v.door i)) t.now
        (v.door i)
      rw [← door] at cfg'
      refine ⟨?_, ?_⟩
      · rw [t.freeCondition_cfg cfg', door]
        exact (Door.followed_lock used).1
      · rw [t.magnetDrive_cfg i cfg', door]
        exact (Door.followed_lock used).2

/-! ### Every step -/

/-- Eight doors, driven as their inputs ask after LOADING, and FREE and DROP before. -/
structure State.DoorsSettled (s : State) : Prop where
  doors : s.doors.length = 8
  driven : s.awake = true → ∀ d < 8, s.Driven d
  asleep : s.awake = false → ∀ d < 8, (s.door d).lock = .free ∧ (s.door d).magnet = .drop

theorem State.DoorsSettled.follows {s : State} (h : s.DoorsSettled) : s.DrivesFollow := by
  intro d low
  cases awake : s.awake
  · exact h.asleep awake d low
  · exact (s.driveFollows_iff d).2 (h.driven awake d low)

theorem State.DrivesFollow.settled {s : State} (len : s.doors.length = 8) (h : s.DrivesFollow) : s.DoorsSettled := by
  refine ⟨len, fun awake d low => ?_, fun asleep d low => ?_⟩
  · have driven := h d low
    rw [if_pos awake] at driven
    exact (s.driveFollows_iff d).1 driven
  · have free := h d low
    rwa [if_neg (by rw [asleep]; exact Bool.false_ne_true)] at free

theorem State.DoorsSettled.congr {s t : State} (h : s.DoorsSettled) (doors : t.doors = s.doors) (awake : t.awake = s.awake)
    (inputs : SameDriveInputs s t) : t.DoorsSettled := by
  have door (d : Nat) : t.door d = s.door d := by unfold State.door; rw [doors]
  refine ⟨by rw [doors]; exact h.doors, fun a d low => ?_, fun a d low => ?_⟩
  · obtain ⟨lock, magnet⟩ := h.driven (awake ▸ a) d low
    exact ⟨by rw [door, inputs.free]; exact lock, by rw [door, inputs.magnet]; exact magnet⟩
  · rw [door]; exact h.asleep (awake ▸ a) d low

/-- R109: a door as LOADING ends. -/
theorem doorAtStart_driven (mode : Mode) (draw : Nat) (cfg : DoorConfig) :
    (doorAtStart mode draw cfg).cfg = cfg ∧
      (doorAtStart mode draw cfg).lock = lockDrive (regimeFree cfg.kind mode) (doorAtStart mode draw cfg) ∧
      (doorAtStart mode draw cfg).magnet =
        if cfg.kind = .gallery && cfg.magnet && mode = .day then .hold else .drop := by
  unfold doorAtStart
  split
  · rename_i unused
    refine ⟨rfl, (lockDrive_unused unused _).symm, ?_⟩
    simp [Door.idle, unused]
  · rename_i used
    refine ⟨rfl, ?_, rfl⟩
    cases free : regimeFree cfg.kind mode <;> simp [lockDrive, Door.idle, used]

theorem State.loaded_doors (s : State) (img : List Byte) (strap : Mode) : (s.loaded img strap).DoorsSettled := by
  have fresh := configOf_fresh img strap
  have len : (s.loaded img strap).doors.length = 8 := (List.length_map _).trans fresh.doors
  refine ⟨len, fun _ d low => ?_, nofun⟩
  obtain ⟨cfg, -, start⟩ := List.mem_map.1
    (getD_mem (show d < (s.loaded img strap).doors.length by omega) (Door.idle .unused))
  have door : (s.loaded img strap).door d = doorAtStart (configOf img strap).node.startMode s.freeCount cfg := start.symm
  obtain ⟨same, lock, magnet⟩ := doorAtStart_driven (configOf img strap).node.startMode s.freeCount cfg
  have calm : (s.loaded img strap).linkFire d = false := List.any_eq_false.2 fun k mem => by
    obtain ⟨id, link, cost, rfl, -⟩ := fresh.slot k mem
    simp [Slot.offeredFire, Slot.afterRestart, Slot.heard]
  refine ⟨?_, ?_⟩
  · rw [door, lock]
    unfold State.freeCondition
    rw [same]
    have still : releaseApplies cfg.kind (s.loaded img strap).isEvacuating = false := by
      show releaseApplies cfg.kind false = false
      cases cfg.kind <;> rfl
    rw [still, Bool.or_false]
    rfl
  · rw [door, magnet]
    unfold State.magnetDrive
    rw [calm, same]
    have quiet : ((s.loaded img strap).fl.gallery = .fire) = False := eq_false nofun
    have still : (s.loaded img strap).isEvacuating = false := rfl
    have mode : (s.loaded img strap).nt.mode = (configOf img strap).node.startMode := rfl
    simp only [quiet, still, mode, decide_false, Bool.not_false, Bool.and_true]

/-- An owner's own change moves one door at most, and nothing a drive reads of the other blocks. -/
theorem Alone.doors {c : Instr} {u v : State} (h : Alone c u v) : u.OneDoorMoved v ∧ SameDriveInputs u v ∧ v.awake = u.awake := by
  have moved : u.OneDoorMoved v := by
    cases h with
    | pulse => exact State.moveDoor_moved (Door.grant_same _ _)
    | @grant _ n choice => cases choice <;> exact .inl rfl
    | stuckEnd => obtain ⟨_, h⟩ := u.stuckEnd_changes; rw [h]; exact .inl rfl
    | clearLamps => obtain ⟨_, _, _, h⟩ := u.clearLamps_changes; rw [h]; exact .inl rfl
    | _ => exact .inl rfl
  refine ⟨moved, ?_⟩
  obtain ⟨_, _, _, _, _, _, _, _, _, rfl⟩ := h.changes
  exact ⟨⟨fun _ => rfl, fun _ _ => rfl⟩, rfl⟩

theorem Alone.driven {c : Instr} {u v : State} (h : Alone c u v) {i : Nat} (driven : u.Driven i) : v.Driven i := by
  obtain ⟨moved, inputs, -⟩ := h.doors
  obtain ⟨cfg, lock, magnet⟩ := moved.driven driven
  exact ⟨by rw [lock, inputs.free, u.freeCondition_cfg cfg], by rw [magnet, inputs.magnet, u.magnetDrive_cfg i cfg]⟩

/-- Before LOADING has ended an owner alone changes no door. -/
theorem Alone.doors_asleep {c : Instr} {u v : State} (h : Alone c u v) (asleep : u.awake = false) : v.doors = u.doors := by
  cases h with
  | pulse run => rw [State.awake_of_running run] at asleep; cases asleep
  | @grant _ n choice => cases choice <;> rfl
  | stuckEnd => obtain ⟨_, h⟩ := u.stuckEnd_changes; rw [h]
  | clearLamps => obtain ⟨_, _, _, h⟩ := u.clearLamps_changes; rw [h]
  | _ => rfl

/-- An event that reaches a block leaves the node in LISTEN or RUN. -/
theorem Footprint.awake {c : Instr} {u v : State} (f : Footprint c u v) (awake : u.awake = true) (peer : Option Nat)
    (pressed : List Nat) : (settle u v peer pressed).awake = true := by
  have before : v.awake = true := by
    rcases f.phase with cl | ⟨-, rfl⟩
    · unfold State.awake; rw [cl]; exact awake
    · rfl
  unfold State.awake
  rw [settle_cl]
  rcases (phased_keeps u v).2.2.2.2.2 with same | ⟨-, run⟩
  · rw [same]; exact before
  · rw [run]; decide

/-- R90 to R94 stand at the end of every step. -/
theorem State.doorsSettled_kept : Kept State.DoorsSettled where
  answered h i := by obtain ⟨_, _, rfl⟩ := h; exact i.congr rfl rfl ⟨fun _ => rfl, fun _ _ => rfl⟩
  moment h i := by obtain ⟨_, _, _, _, rfl⟩ := h; exact i.congr rfl rfl ⟨fun _ => rfl, fun _ _ => rfl⟩
  pending _ i := i.congr rfl rfl ⟨fun _ => rfl, fun _ _ => rfl⟩
  restarts s phase port asleep := by
    refine ⟨rfl, fun awake => ?_, fun _ d low => ?_⟩
    · rw [s.restart_asleep asleep port] at awake; cases awake
    · have idle : (s.restart phase port).door d = .idle .unused :=
        List.eq_of_mem_replicate (getD_mem (l := List.replicate 8 (Door.idle .unused)) (by simpa using low) _)
      rw [idle]
      exact ⟨rfl, rfl⟩
  loads s bytes strap := by
    obtain ⟨_, _, _, e⟩ := s.leaveLoading_changes bytes strap
    rw [e]
    exact (s.loaded_doors bytes strap).congr rfl rfl ⟨fun _ => rfl, fun _ _ => rfl⟩
  follows awake owner i := by
    have f := owner.footprint
    refine ⟨(settle_doors_length _ _ _ _).trans (f.moved.length.trans i.doors), fun _ d low => ?_, fun asleep => ?_⟩
    · exact f.driven i.doors _ _ low (i.driven awake d low)
    · rw [f.awake awake] at asleep; cases asleep
  alone {c u v} h i := by
    obtain ⟨moved, -, same⟩ := h.doors
    refine ⟨moved.length.trans i.doors, fun awake d low => h.driven (i.driven (same ▸ awake) d low), fun asleep d low => ?_⟩
    have door : v.door d = u.door d := by unfold State.door; rw [h.doors_asleep (same ▸ asleep)]
    rw [door]
    exact i.asleep (same ▸ asleep) d low

/-! ### The lists of R92 to R94 -/

/-- R92. -/
theorem State.freeCondition_iff (s : State) {d : Door} (used : d.cfg.kind ≠ .unused) :
    s.freeCondition d = true ↔
      (s.nt.mode = .day ∧ (d.cfg.kind = .gallery ∨ d.cfg.kind = .exit)) ∨ (s.ru.evacuating ≠ none ∧ d.cfg.kind ≠ .store) := by
  unfold State.freeCondition regimeFree releaseApplies State.isEvacuating
  cases kind : d.cfg.kind <;> simp_all [Option.isSome_iff_ne_none]

/-- R94. -/
theorem lockDrive_free_iff {free : Bool} {d : Door} (used : d.cfg.kind ≠ .unused) :
    lockDrive free d = .free ↔ free = true ∨ d.state = .access ∨ (d.state = .openTimed ∧ d.accessMark = true) := by
  unfold lockDrive
  by_cases access : d.state = .access <;> by_cases timed : d.state = .openTimed <;> cases free <;> cases d.accessMark <;>
    simp [used, access, timed]

theorem State.linkFire_iff {s : State} (len : s.nt.slots.length = 8) (d : Nat) :
    s.linkFire d = true ↔ ∃ k < 8, (s.slot k).id ≠ 0 ∧ (s.slot k).link = some d ∧
      ((s.slot k).presence = .fresh ∨ (s.slot k).presence = .silent) ∧ (s.slot k).fire = .fire := by
  have one (k : Slot) : (k.used && k.link == some d && decide (k.offeredFire = .fire)) = true ↔
      k.id ≠ 0 ∧ k.link = some d ∧ (k.presence = .fresh ∨ k.presence = .silent) ∧ k.fire = .fire := by
    unfold Slot.offeredFire Slot.heard Slot.used
    cases k.presence <;> by_cases used : k.id = 0 <;> simp [used]
  rw [State.linkFire, List.any_eq_true, exists_mem_iff_getD len Slot.unused]
  simp only [one]
  rfl

/-- R93. -/
theorem State.magnetDrive_hold_iff (s : State) (i : Nat) (d : Door) :
    s.magnetDrive i d = .hold ↔ d.cfg.kind = .gallery ∧ d.cfg.magnet = true ∧ s.fl.gallery ≠ .fire ∧ s.linkFire i = false ∧
      s.ru.evacuating = none ∧ s.nt.mode = .day := by
  unfold State.magnetDrive State.isEvacuating
  cases s.linkFire i <;> simp [and_assoc]

/-- Settles O7: `doorsSettled_kept`, and the lists of R92 to R94. -/
theorem stepKeepsDoorDrives : Obligations.StepKeepsDoorDrives := by
  refine ⟨fun s t shaped held h => (State.doorsSettled_kept.step (held.settled shaped.doors) h).follows,
    fun s d awake shaped held low used => ?_⟩
  obtain ⟨lock, magnet⟩ := (held.settled shaped.doors).driven awake d low
  dsimp only
  have hold := s.magnetDrive_hold_iff d (s.door d)
  rw [← Bool.not_eq_true, s.linkFire_iff shaped.slots, ← magnet] at hold
  have free := lockDrive_free_iff (free := s.freeCondition (s.door d)) used
  rw [← lock, s.freeCondition_iff used] at free
  refine ⟨hold, ?_, free, ?_⟩
  · rw [← hold]
    cases (s.door d).magnet <;> simp
  · have locked : (s.door d).lock = .lock ↔ ¬(s.door d).lock = .free := by cases (s.door d).lock <;> simp
    exact locked.trans ((not_congr free).trans (not_or.trans (and_congr_right fun _ => not_or)))

/-! ### The jam comparison (R106), and a door that other blocks move (R105) -/

theorem Door.jamCase_iff (d : Door) : d.jamCase = true ↔
    d.cfg.feedback = true ∧ d.contact = some .shut ∧ ∃ v, d.feedback = some v ∧ (d.state = .jammed ↔ v = d.lock) := by
  unfold Door.jamCase
  cases d.feedback with
  | none => simp
  | some v =>
    by_cases jammed : d.state = .jammed <;> by_cases same : v = d.lock <;> simp [jammed, same]

/-- What R105's table and R93, R94 make of a used door, whose drives were right before. -/
theorem Door.followed_used {was free : Bool} {magnet : Magnet} {now : Nat} {d : Door} (used : d.cfg.kind ≠ .unused) :
    d.followed was free magnet now =
      { (match was, free, d.state with
        | false, true, .shutLocked => { d with state := .shutFree }
        | false, true, .access => { d with state := .shutFree, accessTimer := none }
        | false, true, .openTimed => { d with state := .openFree, openTimer := none, accessMark := false }
        | false, true, .openLong => { d with state := .openFree }
        | false, true, .forced => { d with state := .openFree }
        | true, false, .shutFree => { d with state := .shutLocked }
        | true, false, .openFree =>
          { d with state := .openTimed, accessMark := false, openTimer := some (now + d.cfg.limitSeconds * Config.second) }
        | _, _, _ => d : Door).drive free now with magnet := magnet } := by
  unfold Door.followed
  rw [if_neg used]
  cases was <;> cases free
  · rfl
  · unfold Door.freeBegins
    cases d.state <;> rfl
  · unfold Door.freeEnds Door.openLimit
    cases d.state <;> rfl
  · rfl


/-- A door that its drives already follow is left by R94. -/
theorem Door.drive_same {d : Door} {free : Bool} (now : Nat) (lock : d.lock = lockDrive free d) : d.drive free now = d :=
  if_pos lock

/-- R105, R93: a door at an event of none of its own commands. -/
theorem Footprint.door_followed {c : Instr} {u v : State} (f : Footprint c u v) (apart : actsOnDoors c = false)
    (len : u.doors.length = 8) (peer : Option Nat) (pressed : List Nat) {i : Nat} (low : i < 8) (driven : u.Driven i)
    (used : (u.door i).cfg.kind ≠ .unused) :
    (settle u v peer pressed).door i =
      (u.door i).followed (u.freeCondition (u.door i)) ((settle u v peer pressed).freeCondition (u.door i))
        ((settle u v peer pressed).magnetDrive i (u.door i)) (settle u v peer pressed).now := by
  have doors : v.doors = u.doors := by
    cases f with
    | doors acts op => rw [apart] at acts; cases acts
    | run running h => rw [h]; rfl
    | confirm running h => obtain ⟨_, _, _, _, e⟩ := u.confirmExpire_changes; rw [h, e]
    | @reset a b clears _ h => obtain ⟨_, _, _, _, _, e⟩ := u.decideReset_changes a b clears; rw [h, e]
    | detector op => obtain ⟨_, _, _, _, _, _, rfl⟩ := op.changes; rfl
    | line op => obtain ⟨_, _, rfl⟩ := op.changes; rfl
    | table op => obtain ⟨_, _, rfl⟩ := op.changes; rfl
    | sent op => obtain ⟨_, _, _, _, rfl⟩ := op.changes; rfl
    | calls op => obtain ⟨_, _, _, rfl⟩ := op.changes; rfl
    | list op => obtain ⟨_, _, rfl⟩ := op.changes; rfl
    | signals op => obtain ⟨_, _, _, _, rfl⟩ := op.changes; rfl
    | test op => obtain ⟨_, _, _, rfl⟩ := op.changes; rfl
  have same : v.door i = u.door i := by unfold State.door; rw [doors]
  have door := settle_door u (s := v) (by rw [doors]; exact len) peer pressed low
  have configs := settle_slotConfigs f peer pressed
  rw [same] at door
  generalize settle u v peer pressed = t at *
  cases changed : doorInputsChanged u t
  · rw [changed, if_neg Bool.false_ne_true] at door
    have inputs := sameDriveInputs_of_unchanged changed configs
    rw [door, inputs.free, inputs.magnet, ← driven.magnet]
    unfold Door.followed
    rw [if_neg used, Bool.and_not_self, if_neg Bool.false_ne_true, if_neg Bool.false_ne_true, Door.drive_same t.now driven.lock]
  · rw [changed, if_pos rfl] at door
    exact door

/-- Settles O36: R106's comparison case by case, and `Footprint.door_followed`. -/
theorem lockDriveAndJamComparison : Obligations.LockDriveAndJamComparison := by
  refine ⟨fun s d now used => ?_, fun c s t d awake shaped held apart h awake' low used => ?_⟩
  · have drive : (if s.freeCondition d = true ∨ d.state = .access ∨ (d.state = .openTimed ∧ d.accessMark = true) then Lock.free
        else .lock) = lockDrive (s.freeCondition d) d := by
      have free := lockDrive_free_iff (free := s.freeCondition d) used
      by_cases opens : s.freeCondition d = true ∨ d.state = .access ∨ (d.state = .openTimed ∧ d.accessMark = true)
      · rw [if_pos opens, free.2 opens]
      · rw [if_neg opens]
        cases lock : lockDrive (s.freeCondition d) d
        · rfl
        · exact absurd (free.1 lock) opens
    have jam := Door.jamCase_iff { d with lock := lockDrive (s.freeCondition d) d }
    dsimp only
    rw [drive]
    refine ⟨s.freeCondition_iff used, fun same => if_pos same, fun differs => if_neg differs, fun runs => ?_, fun stops => ?_⟩
    · unfold Door.driveAfresh Door.remakeJam
      rw [if_pos (jam.2 runs)]
    · unfold Door.driveAfresh Door.remakeJam
      rw [if_neg fun runs => stops (jam.1 runs)]
  · refine Eq.trans (b := (s.door d).followed (s.freeCondition (s.door d)) (t.freeCondition (s.door d))
      (t.magnetDrive d (s.door d)) t.now) ?_ (Door.followed_used used)
    have driven := (held.settled shaped.doors).driven awake d low
    rcases exec_awake awake awake' h with ⟨u, v, peer, pressed, moment, owner, a⟩ | ⟨u, v, moment, owner, a⟩
    · have settled := State.doorsSettled_kept.moment moment (held.settled shaped.doors)
      obtain ⟨_, _, _, _, rfl⟩ := moment
      have followed := owner.footprint.door_followed apart settled.doors peer pressed low (settled.driven awake d low) used
      generalize settle _ v peer pressed = w at a followed
      obtain ⟨_, _, rfl⟩ := a
      exact followed
    · have same : t.door d = s.door d ∧ SameDriveInputs s t := by
        obtain ⟨_, inputs, -⟩ := owner.doors
        have doors : v.doors = u.doors := by
          cases owner with
          | pulse => cases apart
          | @grant _ n choice => cases choice <;> rfl
          | stuckEnd => obtain ⟨_, h⟩ := u.stuckEnd_changes; rw [h]
          | clearLamps => obtain ⟨_, _, _, h⟩ := u.clearLamps_changes; rw [h]
          | _ => rfl
        obtain ⟨_, _, rfl⟩ := a
        obtain ⟨_, _, _, _, rfl⟩ := moment
        exact ⟨by unfold State.door; rw [doors], ⟨inputs.free, inputs.magnet⟩⟩
      obtain ⟨door, inputs⟩ := same
      rw [door, inputs.free, inputs.magnet, ← driven.magnet]
      unfold Door.followed
      rw [if_neg used, Bool.and_not_self, if_neg Bool.false_ne_true, if_neg Bool.false_ne_true, Door.drive_same t.now driven.lock]

end Sys2Proof.Machine
end

/-! ## Building flags and silence latch (R68 to R73) -/

section
namespace Sys2Proof.Machine

open Laws.Shape (brings)

/-! ### What each owner makes of the latch -/

/-- Why an owner clears the latch itself: a fire reset, or an EVACUATE_ON taken (R73). -/
inductive LatchCleared (c : Instr) (u v : State) : Prop
  | reset (row : c = .fireReset ∨ ∃ src target, c = .orderFireReset src target) (h : Reported u .silenceLatch 3 0xFF00 v)
  | evacuate (row : c = .transmissionCompletion ∨ (∃ src target, c = .orderEvacuateOn src target) ∨
      ∃ target door, c = .order 2 target door) (h : Reported u .silenceLatch 2 0xFF00 v)

theorem State.clearLatch_latch (s : State) (why : LatchClear) : (s.clearLatch why).nt.latch = none := by
  unfold State.clearLatch
  split
  · rfl
  · rename_i unset
    exact Option.not_isSome_iff_eq_none.1 unset

theorem State.clearLatch_reported {s : State} {stored : Nat} (set_ : s.nt.latch = some stored) (why : LatchClear) :
    Reported s .silenceLatch why.code 0xFF00 (s.clearLatch why) := by
  have form : s.clearLatch why = (s.setNt { s.nt with latch := none }).report .silenceLatch why.code (packClear none) :=
    if_pos (by rw [set_]; rfl)
  have value : packClear none = 0xFF00 := by decide
  rw [form, value]
  exact (Reports.reported (u := s.setNt { s.nt with latch := none }) (.refl _) rfl).through (.refl _) (.refl _) rfl

theorem State.setMode_latch (s : State) (m : Mode) (n : Nat) (a : Bool) : (s.setMode m n a).nt.latch = s.nt.latch := by
  obtain ⟨_, h⟩ := s.setMode_changes m n a
  rw [h]

theorem State.setEvacuate_latch (s : State) (on : Bool) (n : Nat) (a : Bool) : (s.setEvacuate on n a).nt.latch = s.nt.latch := by
  obtain ⟨_, h⟩ := s.setEvacuate_changes on n a
  rw [h]

/-- R73: of the four flag orders EVACUATE_ON alone clears the latch. -/
theorem State.applyFlag_latch (s : State) (o : FlagOrder) (n : Nat) :
    (s.applyFlag o n).nt.latch = s.nt.latch ∨
      (o = .evacuateOn ∧ (s.applyFlag o n).nt.latch = none ∧
        ∀ stored, s.nt.latch = some stored → Reported s .silenceLatch 2 0xFF00 (s.applyFlag o n)) := by
  cases o with
  | modeDay => exact .inl (s.setMode_latch .day n false)
  | modeNight => exact .inl (s.setMode_latch .night n false)
  | evacuateOff => exact .inl (s.setEvacuate_latch false n false)
  | evacuateOn =>
    refine .inr ⟨rfl, State.clearLatch_latch _ _, fun stored set_ => ?_⟩
    have before := s.setEvacuate_latch true n false
    have cleared := State.clearLatch_reported (s := s.setEvacuate true n false) (before.trans set_) .evacuate
    refine cleared.through (s.setEvacuate_extends true n false) (.refl _) rfl

theorem State.adopt_latch (s : State) (src : Nat) (p : StatePayload) : (s.adopt src p).nt.latch = s.nt.latch := by
  obtain ⟨_, _, _, _, h⟩ := s.adopt_changes src p
  rw [h]

theorem State.takeState_latch (s : State) (src : Nat) (p : StatePayload) : (s.takeState src p).nt.latch = s.nt.latch := by
  obtain ⟨_, _, h⟩ := s.takeState_changes src p
  rw [h]

/-- A code whose order is EVACUATE_ON is 2. -/
theorem flagOrderOf_evacuateOn {code : Nat} (h : flagOrderOf code = some .evacuateOn) : code = 2 := by
  unfold flagOrderOf at h
  split at h <;> first | rfl | cases h

theorem brings_evacuateOn {c : Instr} {src : BitVec 6} {p : OrderPayload} (row : brings c = some (src, .order p))
    (code : flagOrderOf p.code.toNat = some .evacuateOn) : ∃ src target, c = .orderEvacuateOn src target := by
  cases c <;> cases row
  case orderEvacuateOn target => exact ⟨_, _, rfl⟩
  all_goals cases code

theorem State.applyOwnOrder_latch (s : State) (code : Nat) :
    (s.applyOwnOrder code).nt.latch = s.nt.latch ∨
      (code = 2 ∧ (s.applyOwnOrder code).nt.latch = none ∧
        ∀ stored, s.nt.latch = some stored → Reported s .silenceLatch 2 0xFF00 (s.applyOwnOrder code)) := by
  unfold State.applyOwnOrder
  split
  · rename_i o known
    refine (s.applyFlag_latch o s.nodeId).imp_right fun ⟨on, cleared⟩ => ⟨?_, cleared⟩
    exact flagOrderOf_evacuateOn (on ▸ known)
  · exact .inl rfl

/-- What an accepted fire reset does after the latch is cleared (R33). -/
def State.afterLatch (x : State) (source target : Nat) (clears : Bool) : State :=
  let y := if clears then x.clearHeld else x
  (y.setGallery y.derivedState).report .fireReset target source

theorem State.afterLatch_keeps (x : State) (source target : Nat) (clears : Bool) :
    (x.afterLatch source target clears).nt.latch = x.nt.latch ∧ (x.afterLatch source target clears).now = x.now ∧
      Extends x.ap.reports (x.afterLatch source target clears).ap.reports := by
  have tail (y : State) : ((y.setGallery y.derivedState).report .fireReset target source).nt.latch = y.nt.latch ∧
      ((y.setGallery y.derivedState).report .fireReset target source).now = y.now ∧
      Extends y.ap.reports ((y.setGallery y.derivedState).report .fireReset target source).ap.reports := by
    refine ⟨?_, ?_, (y.setGallery_extends _).trans (State.report_extends _ _ _ _)⟩
    · obtain ⟨_, _, h⟩ := y.setGallery_changes y.derivedState
      rw [h]; rfl
    · obtain ⟨_, _, h⟩ := y.setGallery_changes y.derivedState
      rw [h]; rfl
  unfold State.afterLatch
  dsimp only
  cases clears
  · rw [if_neg Bool.false_ne_true]
    exact tail x
  · rw [if_pos rfl]
    obtain ⟨latch, now, ext⟩ := tail x.clearHeld
    obtain ⟨_, h⟩ := x.clearHeld_changes
    have kept : x.clearHeld.nt.latch = x.nt.latch ∧ x.clearHeld.now = x.now := by rw [h]; exact ⟨rfl, rfl⟩
    exact ⟨latch.trans kept.1, now.trans kept.2, x.clearHeld_extends.trans ext⟩

/-- R33, R73: an accepted fire reset clears the latch. -/
theorem State.acceptReset_latch (s : State) (source target : Nat) (clears : Bool) :
    (s.acceptReset source target clears).nt.latch = none ∧
      ∀ stored, s.nt.latch = some stored → Reported s .silenceLatch 3 0xFF00 (s.acceptReset source target clears) := by
  have tail (u : State) : (((u.endWalk .reset).clearLatch .reset).afterLatch source target clears).nt.latch = none ∧
      ∀ stored, u.nt.latch = some stored →
        Reported u .silenceLatch 3 0xFF00 (((u.endWalk .reset).clearLatch .reset).afterLatch source target clears) := by
    have walk := u.endWalk_extends .reset
    have kept : (u.endWalk .reset).nt.latch = u.nt.latch := by
      obtain ⟨_, _, _, _, _, h⟩ := u.endWalk_changes .reset
      rw [h]
    generalize u.endWalk .reset = w at walk kept ⊢
    obtain ⟨latch, now, ext⟩ := (w.clearLatch .reset).afterLatch_keeps source target clears
    exact ⟨latch.trans (State.clearLatch_latch w .reset),
      fun stored set_ => (State.clearLatch_reported (kept.trans set_) .reset).through walk ext now⟩
  obtain ⟨latch, reported⟩ := tail ((s.setDs { s.ds with channels := s.ds.channels.map .fireReset }).setFl
    { s.fl with confirm := none, cause := .clear })
  exact ⟨latch, fun stored set_ => (reported stored set_).through (.refl _) (.refl _) rfl⟩

theorem LatchCleared.from_ {c : Instr} {u v : State} (h : LatchCleared c u v) :
    Reported u .silenceLatch 3 0xFF00 v ∨ Reported u .silenceLatch 2 0xFF00 v := by
  cases h with
  | reset _ h => exact .inl h
  | evacuate _ h => exact .inr h

/-- The latch after the owner's own operation: kept, cleared for a reason of its own, or set by a SILENCE. -/
theorem Footprint.latch {c : Instr} {u v : State} (f : Footprint c u v) :
    v.nt.latch = u.nt.latch ∨ (v.nt.latch = none ∧ ∀ stored, u.nt.latch = some stored → LatchCleared c u v) ∨
      (v.nt.latch = some u.ru.f ∧ ∃ src target, c = .orderSilence src target) := by
  cases f with
  | run running h => rw [h]; exact .inl rfl
  | confirm running h => obtain ⟨_, _, _, _, e⟩ := u.confirmExpire_changes; rw [h, e]; exact .inl rfl
  | @reset a b clears row h =>
    rw [h]
    unfold State.decideReset
    split
    · exact .inl rfl
    · obtain ⟨latch, reported⟩ := u.acceptReset_latch a b clears
      exact .inr (.inl ⟨latch, fun stored set_ => .reset row (reported stored set_)⟩)
  | detector op => obtain ⟨_, _, _, _, _, _, rfl⟩ := op.changes; exact .inl rfl
  | line op => obtain ⟨_, _, rfl⟩ := op.changes; exact .inl rfl
  | table op =>
    cases op with
    | state => exact .inl ((State.adopt_latch _ _ _).trans (State.takeState_latch _ _ _))
    | @flag o src p row code =>
      refine (u.applyFlag_latch o src.toNat).imp_right fun ⟨on, latch, reported⟩ => .inl ⟨latch, fun stored set_ => ?_⟩
      exact .evacuate (.inr (.inl (brings_evacuateOn row (on ▸ code)))) (reported stored set_)
    | silence row => exact .inr (.inr ⟨rfl, _, _, row⟩)
    | loseSlot => exact .inl rfl
  | sent op =>
    cases op with
    | @complete sent row sending =>
      have start : u.completeSending.nt.latch = u.nt.latch := by
        obtain ⟨_, _, h⟩ := u.completeSending_changes
        rw [h]
      have ext := u.completeSending_extends
      have now : u.completeSending.now = u.now := by
        obtain ⟨_, _, h⟩ := u.completeSending_changes
        rw [h]
      generalize u.completeSending = w at start ext now
      unfold State.handCompletion
      split
      · exact .inl start
      · refine .inl ?_
        obtain ⟨_, h⟩ := State.takeCompleted_changes w _ _ _
        rw [h]; exact start
      · rename_i p _
        rcases w.applyOwnOrder_latch p.code.toNat with kept | ⟨-, latch, reported⟩
        · exact .inl (kept.trans start)
        · refine .inr (.inl ⟨latch, fun stored set_ => .evacuate (.inl row) ?_⟩)
          exact (reported stored (start.trans set_)).through ext (.refl _) rfl
      · exact .inl start
      · exact .inl start
      · exact .inl start
    | @order body code target door row =>
      rcases State.applyOwnOrder_latch (u.offer body 0).1 code.toNat with kept | ⟨two, latch, reported⟩
      · exact .inl kept
      · refine .inr (.inl ⟨latch, fun stored set_ => .evacuate (.inr (.inr ⟨target, door, ?_⟩)) ?_⟩)
        · have : code = 2 := BitVec.eq_of_toNat_eq two
          rw [row, this]
        · exact (reported stored set_).through (u.offer_extends body 0) (.refl _) rfl
  | doors _ op => obtain ⟨_, _, _, _, _, _, rfl⟩ := op.changes; exact .inl rfl
  | calls op => obtain ⟨_, _, _, rfl⟩ := op.changes; exact .inl rfl
  | list op => obtain ⟨_, _, rfl⟩ := op.changes; exact .inl rfl
  | signals op => obtain ⟨_, _, _, _, rfl⟩ := op.changes; exact .inl rfl
  | test op => obtain ⟨_, _, _, rfl⟩ := op.changes; exact .inl rfl

/-! ### The latch at the end of an event (R73) -/

/-- The latch after a change of f from `before` to `f`. -/
def latchAfter (before f : Nat) (latch : Option Nat) : Option Nat :=
  if before = f then latch
  else
    match latch with
    | none => none
    | some stored => if f < stored then none else if f = 15 then none else some stored

theorem latchFollow_latch (old w : State) : (latchFollow old w).nt.latch = latchAfter old.ru.f w.ru.f w.nt.latch := by
  unfold latchFollow latchAfter
  split
  · rfl
  · cases set_ : w.nt.latch with
    | none => exact set_
    | some stored =>
      dsimp only
      split
      · exact w.clearLatch_latch _
      · split
        · exact w.clearLatch_latch _
        · exact set_

theorem settle_latch (old s : State) (peer : Option Nat) (pressed : List Nat) :
    (settle old s peer pressed).nt.latch = latchAfter old.ru.f (settle old s peer pressed).ru.f s.nt.latch := by
  obtain ⟨w, stage, same, latch⟩ := (settle_stages old s peer pressed).latch
  rw [latch, latchFollow_latch, same, stage.ground.ru]

/-- R73: a latch that the change of f clears, and the report. -/
theorem settle_latch_cleared {old s : State} {stored : Nat} (set_ : s.nt.latch = some stored) {peer : Option Nat}
    {pressed : List Nat} (cleared : (settle old s peer pressed).nt.latch = none) :
    ((settle old s peer pressed).ru.f < stored → Reported s .silenceLatch 0 0xFF00 (settle old s peer pressed)) ∧
      (stored ≤ (settle old s peer pressed).ru.f →
        (settle old s peer pressed).ru.f = 15 ∧ Reported s .silenceLatch 1 0xFF00 (settle old s peer pressed)) := by
  have now := settle_now old s peer pressed
  obtain ⟨w, stage, same, latch⟩ := (settle_stages old s peer pressed).latch
  generalize settle old s peer pressed = t at *
  rw [latch, latchFollow_latch, same, set_] at cleared
  have differs : ¬old.ru.f = w.ru.f := fun h => by
    unfold latchAfter at cleared
    rw [if_pos h] at cleared
    cases cleared
  have time : t.now = w.now := stage.ground.now
  have form (why : LatchClear) (h : latchFollow old w = w.clearLatch why) : Reported s .silenceLatch why.code 0xFF00 t := by
    have after := stage.after
    rw [h] at after
    refine (State.clearLatch_reported (same.trans set_) why).through stage.before after ?_
    obtain ⟨_, _, e⟩ := w.clearLatch_changes why
    rw [e]; exact time
  rw [stage.ground.ru]
  have follow : latchFollow old w =
      if w.ru.f < stored then w.clearLatch .nearer else if w.ru.f = 15 then w.clearLatch .noFire else w := by
    unfold latchFollow
    rw [if_neg differs, same, set_]
  refine ⟨fun nearer => form .nearer (follow.trans (if_pos nearer)), fun far => ?_⟩
  have none_ : w.ru.f = 15 := by
    unfold latchAfter at cleared
    rw [if_neg differs] at cleared
    dsimp only at cleared
    rw [if_neg (by omega)] at cleared
    by_contra other
    rw [if_neg other] at cleared
    cases cleared
  exact ⟨none_, form .noFire (follow.trans ((if_neg (by omega)).trans (if_pos none_)))⟩

/-- R72, R73: what a latch that is set stands for. -/
theorem State.latchFollows_kept : Kept State.LatchFollows where
  answered h i := by obtain ⟨_, _, rfl⟩ := h; exact i
  moment h i := by obtain ⟨_, _, _, _, rfl⟩ := h; exact i
  pending _ i := i
  restarts s _ _ _ := nofun
  loads s bytes strap := by
    obtain ⟨_, _, _, e⟩ := s.leaveLoading_changes bytes strap
    rw [e]
    exact nofun
  follows {c u v peer pressed} _ owner i := by
    intro stored set_
    have before : ∀ stored, v.nt.latch = some stored → stored ≤ u.ru.f ∧ (u.ru.f = 15 → stored = 15) := fun stored set_ => by
      rcases owner.footprint.latch with kept | ⟨none_, -⟩ | ⟨now, -⟩
      · exact i stored (kept ▸ set_)
      · rw [none_] at set_; cases set_
      · rw [now] at set_; cases set_; exact ⟨le_refl _, id⟩
    rw [settle_latch] at set_
    unfold latchAfter at set_
    split at set_
    · rename_i same
      rw [← same]
      exact before stored set_
    · cases latch : v.nt.latch with
      | none => rw [latch] at set_; cases set_
      | some was =>
        rw [latch] at set_
        dsimp only at set_
        split at set_
        · cases set_
        · split at set_
          · cases set_
          · rename_i far below
            cases set_
            exact ⟨by omega, fun fifteen => absurd fifteen below⟩
  alone h i := by obtain ⟨_, _, _, _, _, _, _, _, _, rfl⟩ := h.changes; exact i

end Sys2Proof.Machine
end

/-! ## ORDERs that set flags and latch (R68 to R73) -/

section
namespace Sys2Proof.Machine

open Laws.Shape (brings)

/-- A fire reset, from the port or the line. -/
def isReset (c : Instr) : Prop := c = .fireReset ∨ ∃ src target, c = .orderFireReset src target

/-- The commands with which an EVACUATE_ON is taken. -/
def evacuates (c : Instr) : Prop :=
  c = .transmissionCompletion ∨ (∃ src target, c = .orderEvacuateOn src target) ∨ ∃ target door, c = .order 2 target door

theorem not_reset_of_evacuates {c : Instr} (h : evacuates c) : ¬isReset c := by
  rintro (rfl | ⟨_, _, rfl⟩) <;> rcases h with h | ⟨_, _, h⟩ | ⟨_, _, h⟩ <;> cases h

/-! ### Where f stands -/

/-- Where nothing the fire logic reads changed f stands. -/
theorem settle_f_kept {u v : State} (run : u.running = true → u.ru.f = u.fireDistance) (view : v.fireView = u.fireView)
    (ru : v.ru = u.ru) (peer : Option Nat) (pressed : List Nat) : (settle u v peer pressed).ru.f = u.ru.f := by
  rw [settle_ru, fireFollow_same view, phaseFollow_same (congrArg FireLogic.gallery (State.fl_of_fireView view))]
  unfold followedRoute
  have running : v.running = u.running := by unfold State.running; rw [State.cl_of_fireView view]
  have distance : v.fireDistance = u.fireDistance := by
    unfold State.fireDistance
    rw [State.fl_of_fireView view, show v.nt.slots = u.nt.slots from congrArg (·.2.2.1) view]
  split
  · rename_i h
    split
    · rw [v.computedRoute_f, distance, run (running ▸ h)]
    · rw [ru]
  · split
    · unfold State.listenRoute
      rw [ru]
    · rw [ru]

theorem SentOp.fireView {c : Instr} {u v : State} (op : SentOp c u v) : v.fireView = u.fireView := by
  have slots := op.slots
  obtain ⟨_, _, _, _, rfl⟩ := op.changes
  unfold State.fireView
  rw [slots]

/-- An EVACUATE_ON and a completed telegram change nothing the fire logic reads. -/
theorem Owns.evacuates_still {c : Instr} {u v : State} {peer : Option Nat} {pressed : List Nat} (o : Owns c u v peer pressed)
    (row : evacuates c) : v.fireView = u.fireView := by
  rcases row with rfl | ⟨_, _, rfl⟩ | ⟨_, _, rfl⟩
  · cases o with
    | complete sending => exact (SentOp.complete rfl sending).fireView
    | duplicate => exact u.noteDuplicate_fireView _
    | clear row => cases row
    | clearAsked row => cases row
    | flag row => cases row
    | feedback _ row => rcases row with row | row <;> cases row
    | press _ row => rcases row with row | row <;> cases row
  · cases o with
    | duplicate => exact u.noteDuplicate_fireView _
    | clear row => cases row
    | clearAsked row => cases row
    | flag => exact u.applyFlag_fireView _ _
    | feedback _ row => rcases row with row | row <;> cases row
    | press _ row => rcases row with row | row <;> cases row
  · cases o with
    | order run kind => exact (SentOp.order (target := 0) (door := 0) rfl run kind).fireView
    | duplicate => exact u.noteDuplicate_fireView _
    | clear row => cases row
    | clearAsked row => cases row
    | flag row => cases row
    | feedback _ row => rcases row with row | row <;> cases row
    | press _ row => rcases row with row | row <;> cases row

/-- A fire reset is refused, or accepted, or the telegram that brings it is one of the node's own id. -/
theorem Owns.reset_cases {c : Instr} {u v : State} {peer : Option Nat} {pressed : List Nat} (o : Owns c u v peer pressed)
    (row : isReset c) : v.fireView = u.fireView ∨ v.nt.latch = none := by
  have decided (a b : Nat) (clears : Bool) : (u.decideReset a b clears).fireView = u.fireView ∨
      (u.decideReset a b clears).nt.latch = none := by
    unfold State.decideReset
    split
    · exact .inl rfl
    · exact .inr (u.acceptReset_latch a b clears).1
  rcases row with rfl | ⟨_, _, rfl⟩
  · cases o with
    | fireReset => exact decided _ _ _
    | duplicate => exact .inl (u.noteDuplicate_fireView _)
    | clear row => cases row
    | clearAsked row => cases row
    | flag row => cases row
    | feedback _ row => rcases row with row | row <;> cases row
    | press _ row => rcases row with row | row <;> cases row
  · cases o with
    | orderReset => exact decided _ _ _
    | duplicate => exact .inl (u.noteDuplicate_fireView _)
    | clear row => cases row
    | clearAsked row => cases row
    | flag => exact .inl (u.applyFlag_fireView _ _)
    | feedback _ row => rcases row with row | row <;> cases row
    | press _ row => rcases row with row | row <;> cases row

/-! ### The latch, whatever is commanded -/

/-- R73: what a command other than a SILENCE makes of a set latch. -/
structure LatchDecided (c : Instr) (stored : Nat) (s t : State) : Prop where
  kept : t.nt.latch = none ∨ t.nt.latch = some stored
  reset : t.nt.latch = none → isReset c → Reported s .silenceLatch 3 0xFF00 t
  evacuated : t.nt.latch = none → evacuates c → Reported s .silenceLatch 2 0xFF00 t
  nearer : t.nt.latch = none → ¬isReset c → ¬evacuates c → t.ru.f < stored → Reported s .silenceLatch 0 0xFF00 t
  noFire : t.nt.latch = none → ¬isReset c → ¬evacuates c → stored ≤ t.ru.f → t.ru.f = 15 ∧ Reported s .silenceLatch 1 0xFF00 t

theorem latchAfter_cases (before f stored : Nat) :
    latchAfter before f (some stored) = none ∨ latchAfter before f (some stored) = some stored := by
  unfold latchAfter
  dsimp only
  split
  · exact .inr rfl
  · split
    · exact .inl rfl
    · split
      · exact .inl rfl
      · exact .inr rfl

theorem Owns.latchDecided {c : Instr} {u v : State} {peer : Option Nat} {pressed : List Nat} (o : Owns c u v peer pressed)
    {stored : Nat} (set_ : u.nt.latch = some stored) (run : u.running = true → u.ru.f = u.fireDistance)
    (other : ∀ src target, c ≠ .orderSilence src target) : LatchDecided c stored u (settle u v peer pressed) := by
  have f := o.footprint
  have latch := settle_latch u v peer pressed
  have now : (settle u v peer pressed).now = v.now := settle_now u v peer pressed
  have after := settle_extends u v peer pressed
  rcases f.latch with kept | ⟨none_, cleared⟩ | ⟨-, src, target, silence⟩
  · rw [set_] at kept
    have still (row : isReset c ∨ evacuates c) : (settle u v peer pressed).nt.latch ≠ none := by
      have view : v.fireView = u.fireView := by
        rcases row with row | row
        · rcases o.reset_cases row with view | none_
          · exact view
          · rw [kept] at none_; cases none_
        · exact o.evacuates_still row
      rw [latch, settle_f_kept run view f.ru, kept]
      unfold latchAfter
      rw [if_pos rfl]
      exact nofun
    refine ⟨by rw [latch, kept]; exact latchAfter_cases _ _ _, fun gone row => absurd gone (still (.inl row)),
      fun gone row => absurd gone (still (.inr row)), fun gone _ _ near => ?_, fun gone _ _ far => ?_⟩
    · exact ((settle_latch_cleared kept gone).1 near).through f.extends (.refl _) rfl
    · obtain ⟨fifteen, reported⟩ := (settle_latch_cleared kept gone).2 far
      exact ⟨fifteen, reported.through f.extends (.refl _) rfl⟩
  · have gone : (settle u v peer pressed).nt.latch = none := by
      rw [latch, none_]
      unfold latchAfter
      split <;> rfl
    cases cleared stored set_ with
    | reset row reported =>
      exact ⟨.inl gone, fun _ _ => reported.through (.refl _) after now, fun _ ev => absurd row (not_reset_of_evacuates ev),
        fun _ no => absurd row no, fun _ no => absurd row no⟩
    | evacuate row reported =>
      exact ⟨.inl gone, fun _ re => absurd re (not_reset_of_evacuates row), fun _ _ => reported.through (.refl _) after now,
        fun _ _ no => absurd row no, fun _ _ no => absurd row no⟩
  · exact absurd silence (other src target)

theorem exec_latchDecided {c : Instr} {s t : State} (awake : s.awake = true) (awake' : t.awake = true) (held : s.RouteFollows)
    {stored : Nat} (set_ : s.nt.latch = some stored) (h : exec c s = .next t) (other : ∀ src target, c ≠ .orderSilence src target) :
    LatchDecided c stored s t := by
  rcases exec_awake awake awake' h with ⟨u, v, peer, pressed, moment, owner, a⟩ | ⟨u, v, moment, owner, a⟩
  · have decided := owner.latchDecided (stored := stored) (by obtain ⟨_, _, _, _, rfl⟩ := moment; exact set_)
      (by
        obtain ⟨_, _, _, _, rfl⟩ := moment
        exact fun run => (held.2.2 (by simpa [State.running] using run)).1) other
    generalize settle u v peer pressed = w at decided a
    obtain ⟨_, _, rfl⟩ := a
    obtain ⟨_, _, _, _, rfl⟩ := moment
    exact ⟨decided.kept, decided.reset, decided.evacuated, decided.nearer, decided.noFire⟩
  · have same : t.nt.latch = some stored := by
      obtain ⟨_, _, rfl⟩ := a
      rw [← set_]
      obtain ⟨_, _, _, _, rfl⟩ := moment
      exact congrArg (·.latch) owner.routeInputs.2.2.2
    have never : t.nt.latch ≠ none := by rw [same]; exact nofun
    exact ⟨.inr same, fun gone => absurd gone never, fun gone => absurd gone never, fun gone => absurd gone never,
      fun gone => absurd gone never⟩

/-! ### The four flag orders and SILENCE, received -/

theorem flagSubject_plain (sender : Nat) : flagSubject sender false = sender := by
  simp [flagSubject, pack, bit]

theorem State.applyFlag_modeDay (s : State) (n : Nat) : s.applyFlag .modeDay n =
    State.reportIf { s with nt := { s.nt with mode := .day, orderHeard := true } } (decide (s.nt.mode = .night)) .buildingMode n 0 := by
  unfold State.applyFlag State.setMode State.hearOrder
  rw [flagSubject_plain]
  cases s.nt.mode <;> rfl

theorem State.applyFlag_modeNight (s : State) (n : Nat) : s.applyFlag .modeNight n =
    State.reportIf { s with nt := { s.nt with mode := .night, orderHeard := true } } (decide (s.nt.mode = .day)) .buildingMode n 1 := by
  unfold State.applyFlag State.setMode State.hearOrder
  rw [flagSubject_plain]
  cases s.nt.mode <;> rfl

theorem State.applyFlag_evacuateOff (s : State) (n : Nat) : s.applyFlag .evacuateOff n =
    State.reportIf { s with nt := { s.nt with evacuate := false, orderHeard := true } } s.nt.evacuate .buildingEvacuate n 0 := by
  unfold State.applyFlag State.setEvacuate State.hearOrder
  rw [flagSubject_plain]
  cases s.nt.evacuate <;> rfl

/-- EVACUATE_ON sets the flag, then clears the latch (R68, R73). -/
theorem State.applyFlag_evacuateOn (s : State) (n : Nat) : ∃ r, s.applyFlag .evacuateOn n =
      { s with nt := { s.nt with evacuate := true, orderHeard := true, latch := none }, ap := { s.ap with reports := r } } ∧
    Extends (State.reportIf { s with nt := { s.nt with evacuate := true, orderHeard := true } } (!s.nt.evacuate)
      .buildingEvacuate n 1).ap.reports r := by
  have first : (s.setEvacuate true n false).ap.reports = (State.reportIf { s with nt := { s.nt with evacuate := true, orderHeard := true } }
      (!s.nt.evacuate) .buildingEvacuate n 1).ap.reports := by
    unfold State.setEvacuate
    rw [flagSubject_plain]
    cases s.nt.evacuate <;> rfl
  have ext := (s.setEvacuate true n false).clearLatch_extends .evacuate
  have none_ := (s.setEvacuate true n false).clearLatch_latch .evacuate
  obtain ⟨_, h⟩ := s.setEvacuate_changes true n false
  obtain ⟨v, r, h'⟩ := (s.setEvacuate true n false).clearLatch_changes .evacuate
  rw [h'] at none_ ext
  refine ⟨r, ?_, first ▸ ext⟩
  show ((s.setEvacuate true n false).clearLatch .evacuate).hearOrder = _
  rw [h', show v = none from none_, h]
  rfl

/-- A directed order that is no flag order, at the node or elsewhere. -/
theorem orderPayload_wf {src : BitVec 6} {code target : Byte} (known : code.toNat ≤ 6) (source : wfSource src = true)
    (low : 1 ≤ target.toNat) (high : target.toNat ≤ 63) :
    (wfSource src && (Payload.order ⟨code, target, 0⟩).wf) = true := by
  rw [source, Bool.true_and]
  exact OrderPayload.wf_of known low high (by decide)

theorem addressed_iff (s : State) (target : Nat) : s.addressed target = true ↔ target = s.nodeId ∨ target = 63 := by
  simp [State.addressed]

/-- An event whose owner leaves `u` with one report, perhaps. -/
theorem settle_reportIf (s u : State) (c : Bool) (k : ReportKind) (a b : Nat) :
    Consequent u (settle s (u.reportIf c k a b) none []) ∧ ReportsIf c u k a b (settle s (u.reportIf c k a b) none []) :=
  ⟨(State.reportIf_callConsequent u c k a b).consequent.trans (settle_consequent s _ none []), settle_extends s _ none []⟩

/-- A flag order received is taken, whatever its target (R68). -/
theorem exec_flagOrder {s : State} {src : BitVec 6} {target : Byte} (a : s.awake = true) (r : s.receives = true)
    (source : wfSource src = true) (other : src.toNat ≠ s.nodeId) (low : 1 ≤ target.toNat) (high : target.toNat ≤ 63) {c : Instr}
    {code : Byte} (row : brings c = some (src, .order ⟨code, target, 0⟩)) (known : code.toNat ≤ 6) {o : FlagOrder}
    (flag : flagOrderOf code.toNat = some o) : exec c s = .next (settle s (s.applyFlag o src.toNat) none []) := by
  rw [exec_of_brings row, State.arrival_dispatched a r (orderPayload_wf known source low high) other]
  show Host.Outcome.next (settle s (s.hearDirected src.toNat ⟨code, target, 0⟩) none []) = _
  unfold State.hearDirected
  dsimp only
  rw [flag]

/-- An EVACUATE_ON received: the flag, and no latch. -/
theorem settle_evacuateOn (old s : State) (n : Nat) :
    let u : State := { s with nt := { s.nt with evacuate := true, orderHeard := true } }
    let t := settle old (s.applyFlag .evacuateOn n) none []
    Consequent u t ∧ t.nt.latch = none ∧ ReportsIf (!s.nt.evacuate) u .buildingEvacuate n 1 t := by
  obtain ⟨reports, form, ext⟩ := s.applyFlag_evacuateOn n
  have latch := settle_latch old (s.applyFlag .evacuateOn n) none []
  have follows := settle_consequent old (s.applyFlag .evacuateOn n) none []
  have after := settle_extends old (s.applyFlag .evacuateOn n) none []
  dsimp only
  generalize settle old (s.applyFlag .evacuateOn n) none [] = t at *
  rw [form] at latch follows after
  refine ⟨Consequent.trans ?_ follows, ?_, ext.trans after⟩
  · have whole := (State.reportIf_extends { s with nt := { s.nt with evacuate := true, orderHeard := true } }
      (!s.nt.evacuate) .buildingEvacuate n 1).trans ext
    obtain ⟨offered, rfl⟩ := whole
    exact ⟨s.cl.phase, s.cl.listen, s.ds.drift, s.ds.rate, s.fl, s.ru, [], s.lc.lastState, s.lc.refresh, none, s.doors,
      s.cc.calls, s.cc.serials, s.sd, s.dt, s.marker, offered, s.freeCount, rfl⟩
  · rw [latch]
    unfold latchAfter
    split <;> rfl

/-- R72: a SILENCE reaches no other block. -/
theorem settle_silence (s : State) (n : Nat) : settle s (s.silence n) none [] = s.silence n :=
  settle_idle ⟨rfl, rfl, rfl, rfl, rfl, rfl, rfl, rfl, rfl⟩ rfl id

/-- A SILENCE received acts at its target alone. -/
theorem exec_orderSilence {s : State} {src : BitVec 6} {target : Byte} (a : s.awake = true) (r : s.receives = true)
    (source : wfSource src = true) (other : src.toNat ≠ s.nodeId) (low : 1 ≤ target.toNat) (high : target.toNat ≤ 63) :
    exec (.orderSilence src target) s = .next (if s.addressed target.toNat then s.silence src.toNat else s) := by
  rw [exec_of_brings (src := src) (body := .order ⟨4, target, 0⟩) rfl,
    State.arrival_dispatched a r (orderPayload_wf (by decide) source low high) other]
  show Host.Outcome.next (settle s (if s.addressed target.toNat then s.silence src.toNat else s) none []) = _
  split
  · rw [settle_silence]
  · rw [settle_self]

/-- Settles O33: the orders by their codes, and `exec_latchDecided`. -/
theorem ordersTaken : Obligations.OrdersTaken := by
  refine ⟨fun s src target a r source other low high => ?_, fun s src target a r source other low high => ?_,
    fun c s t stored awake awake' held set_ h silence => ?_⟩
  · have taken {c : Instr} {code : Byte} (row : brings c = some (src, .order ⟨code, target, 0⟩)) (known : code.toNat ≤ 6)
        {o : FlagOrder} (flag : flagOrderOf code.toNat = some o) := exec_flagOrder a r source other low high row known flag
    refine ⟨⟨_, taken (c := .orderModeDay src target) rfl (by decide) rfl, ?_⟩,
      ⟨_, taken (c := .orderModeNight src target) rfl (by decide) rfl, ?_⟩,
      ⟨_, taken (c := .orderEvacuateOn src target) rfl (by decide) rfl, settle_evacuateOn s s src.toNat⟩,
      ⟨_, taken (c := .orderEvacuateOff src target) rfl (by decide) rfl, ?_⟩⟩
    · rw [s.applyFlag_modeDay]; exact settle_reportIf s _ _ _ _ _
    · rw [s.applyFlag_modeNight]; exact settle_reportIf s _ _ _ _ _
    · rw [s.applyFlag_evacuateOff]; exact settle_reportIf s _ _ _ _ _
  · rw [exec_orderSilence a r source other low high]
    refine ⟨fun here => ?_, fun elsewhere all => ?_⟩
    · rw [if_pos ((addressed_iff s _).2 here)]; rfl
    · rw [if_neg fun there => ((addressed_iff s _).1 there).elim elsewhere all]
  · have decided := exec_latchDecided awake awake' held set_ h silence
    exact ⟨decided.kept, fun gone => ⟨decided.reset gone, decided.evacuated gone, fun no no' =>
      ⟨decided.nearer gone no no', decided.noFire gone no no'⟩⟩⟩

end Sys2Proof.Machine
end

/-! ## The queue, stopped timers, restarts and the bounds of a transaction -/

section
namespace Sys2Proof.Machine

theorem step_cons {c : Instr} {s : State} {rest : List Instr} (h : s.pending = c :: rest) :
    step s = exec c { s with pending := rest } := by
  unfold step
  rw [h]
  rfl

theorem step_nil {s : State} (h : s.pending = []) : step s = .next s.tick := by
  unfold step
  rw [h]

/-- Settles O1: the two branches of `step`. -/
theorem stepTakesFrontCommand : Obligations.StepTakesFrontCommand := by
  refine ⟨fun c s rest h => step_cons h, fun s h => ⟨fun awake => ?_, fun asleep => ?_⟩⟩
  · rw [step_nil h, State.tick, if_pos awake]
    rfl
  · rw [step_nil h, State.tick, asleep]
    rfl

/-- With no call that runs the timer, a call timer's expiry changes nothing. -/
theorem State.callExpiry_stopped {s : State} {source : Nat} {timer : Call → Timer} (f : State → Call → State)
    (h : (s.call source).all (fun c => decide (timer c = none)) = true) :
    s.callExpiry source timer f = .next s := by
  unfold State.callExpiry
  cases place : s.call source with
  | none => rfl
  | some c =>
    rw [place] at h
    exact State.expiry_stopped (by simpa using h) _

theorem State.entryTimer_stopped {s : State} {origin source : Nat} {timer : Entry → Timer} (f : State → Entry → State)
    (h : (s.entry origin source).all (fun e => decide (timer e = none)) = true) :
    s.entryTimer origin source timer f = .next s := by
  unfold State.entryTimer
  cases place : s.entry origin source with
  | none => rfl
  | some e =>
    rw [place] at h
    exact State.expiry_stopped (by simpa using h) _

theorem State.event_asleep {s : State} (h : s.awake = false) (f : State → State) : s.event f = .next s := by
  simp [State.event, h]

theorem State.own_asleep {s : State} (h : s.awake = false) (f : State → State) : s.own f = .next s := by
  simp [State.own, h]

theorem State.callExpiry_asleep {s : State} (h : s.awake = false) (source : Nat) (timer : Call → Timer)
    (f : State → Call → State) : s.callExpiry source timer f = .next s := by
  unfold State.callExpiry
  split
  · rfl
  · exact State.expiry_asleep h _ _

theorem State.entryTimer_asleep {s : State} (h : s.awake = false) (origin source : Nat) (timer : Entry → Timer)
    (f : State → Entry → State) : s.entryTimer origin source timer f = .next s := by
  unfold State.entryTimer
  split
  · rfl
  · exact State.expiry_asleep h _ _

theorem State.pressEvent_asleep {s : State} (h : s.awake = false) (p : Nat) : s.pressEvent p = .next s := by
  simp [State.pressEvent, h]

theorem State.arrival_asleep {s : State} (h : s.awake = false) (src : BitVec 6) (body : Payload) :
    s.arrival src body = .next s := State.reception_asleep h _ _

theorem State.doorEvent_asleep {s : State} (h : s.awake = false) (d : Nat) (f : State → State) :
    s.doorEvent d f = .next s := State.event_asleep h _

/-- R177: no event reaches a block before LOADING has ended. -/
theorem exec_event_asleep {s : State} (h : s.awake = false) {c : Instr} (event : commandGroup c = .event) :
    exec c s = .next s := by
  cases c with
  | sampleArrival c code odd =>
    unfold exec execSampleArrival
    dsimp only
    split
    · rfl
    · exact State.eventAt_asleep h _ _
  | oddSlotGrant => simp [exec, execOddSlotGrant, h]
  | callPointPress p =>
    unfold exec execCallPointPress
    dsimp only
    rw [State.pressEvent_asleep h, ite_self]
  | firePointLevelChange p active =>
    unfold exec execFirePointLevelChange
    dsimp only
    rw [State.pressEvent_asleep h, State.event_asleep h, ite_self, ite_self]
  | powerUp | resetPin | configReadComplete | transactionEnd | unknownRequest | readNode | readChannel | readDoor
  | readCall | readNeighbour | readRoute | readSignals | readTest | listRead | readReport | take | giveup | clear
  | order | fireReset | isolate | restore | walkStart | walkStop | doorPulse | lampClear | lampCheck | testStart
  | testSuspend | testResume | testAbort | restart | resetPinAsserted | transactionBegin =>
    exact absurd event (by simp [commandGroup])
  | stateArrival | callArrival | clearArrival | clearRequestArrival | takeArrival | giveupArrival | orderModeDay
  | orderModeNight | orderEvacuateOn | orderEvacuateOff | orderSilence | orderFireReset | orderDoorPulse =>
    simp only [exec, execStateArrival, execCallArrival, execClearArrival, execClearRequestArrival, execTakeArrival,
      execGiveupArrival, execOrderModeDay, execOrderModeNight, execOrderEvacuateOn, execOrderEvacuateOff,
      execOrderSilence, execOrderFireReset, execOrderDoorPulse, State.arrival_asleep h]
  | checkError | telegramDiscarded | duplicateId =>
    simp only [exec, execCheckError, execTelegramDiscarded, execDuplicateId, State.reception_asleep h]
  | contend | loss | stuckPeriodEnd => simp only [exec, execContend, execLoss, execStuckPeriodEnd, State.own_asleep h]
  | lineCollision | transmissionCompletion | stuckPeriodStart | attendantKeyTurn | batteryLowChange =>
    simp only [exec, execLineCollision, execTransmissionCompletion, execStuckPeriodStart, execAttendantKeyTurn,
      execBatteryLowChange, State.event_asleep h]
  | contactFirstQualified | feedbackFirstQualified | feedbackChange | doorOpening | doorShutting | rexPress =>
    simp only [exec, execContactFirstQualified, execFeedbackFirstQualified, execFeedbackChange, execDoorOpening,
      execDoorShutting, execRexPress, State.doorEvent_asleep h]
  | unansweredTimerExpiry | attendTimerExpiry | reannounceTimerExpiry =>
    simp only [exec, execUnansweredTimerExpiry, execAttendTimerExpiry, execReannounceTimerExpiry,
      State.callExpiry_asleep h]
  | entryExpiry | takeTimeoutExpiry =>
    simp only [exec, execEntryExpiry, execTakeTimeoutExpiry, State.entryTimer_asleep h]
  | listenTimerExpiry | driftTimerExpiry | rateTimerExpiry | holdTimerExpiry | confirmDelayExpiry | walkDurationExpiry
  | stuckClearTimerExpiry | noiseWindowAgeOut | refreshTimerExpiry | freshnessDeadlineExpiry | accessPulseExpiry
  | openTimerExpiry | jamComparisonExpiry | signStepExpiry | stripStepExpiry | cadenceTimerExpiry | minuteTimerExpiry
  | suspendTimerExpiry =>
    simp only [exec, execListenTimerExpiry, execDriftTimerExpiry, execRateTimerExpiry, execHoldTimerExpiry,
      execConfirmDelayExpiry, execWalkDurationExpiry, execStuckClearTimerExpiry, execNoiseWindowAgeOut,
      execRefreshTimerExpiry, execFreshnessDeadlineExpiry, execAccessPulseExpiry, execOpenTimerExpiry,
      execJamComparisonExpiry, execSignStepExpiry, execStripStepExpiry, execCadenceTimerExpiry, execMinuteTimerExpiry,
      execSuspendTimerExpiry, State.expiry_asleep h]

/-- Settles O2: a stopped timer by `expiry_stopped`, an unawake node by `exec_event_asleep`. -/
theorem nothingToActOn : Obligations.NothingToActOn := fun s =>
  ⟨fun h => State.expiry_stopped h _, fun h => State.expiry_stopped h _, fun h => State.expiry_stopped h _,
    fun _ h => State.expiry_stopped h _, fun h => State.expiry_stopped h _, fun h => State.expiry_stopped h _,
    fun h => State.expiry_stopped h _, fun h => State.expiry_stopped (by rw [State.noiseDeadline, h]; rfl) _,
    fun h => State.expiry_stopped h _, fun _ h => State.expiry_stopped h _, fun _ h => State.expiry_stopped h _,
    fun _ h => State.expiry_stopped h _, fun _ h => State.expiry_stopped h _,
    fun _ h => State.callExpiry_stopped _ h, fun _ h => State.callExpiry_stopped _ h,
    fun _ h => State.callExpiry_stopped _ h, fun _ _ h => State.entryTimer_stopped _ h,
    fun _ _ h => State.entryTimer_stopped _ h, fun h _ => State.expiry_stopped h _,
    fun _ _ h => State.expiry_stopped h _, fun h => State.expiry_stopped h _, fun h => State.expiry_stopped h _,
    fun h => State.expiry_stopped h _, fun asleep _ event => exec_event_asleep asleep event⟩

/-- Settles O57: the branches of the restarts and of a transaction's bounds. -/
theorem restartsAndTransactions : Obligations.RestartsAndTransactions := by
  intro s
  refine ⟨fun h => ⟨_, rfl, ?_⟩, fun h => ⟨_, rfl, ?_⟩, ⟨_, rfl, rfl⟩, ⟨_, rfl, rfl⟩, fun h => ?_, fun h => ?_, fun h => ?_,
    fun h => ?_, fun h => ?_⟩
  · rw [if_neg h]
    rfl
  · rw [if_pos h]
    rfl
  · simp only [exec, execRestart, h, if_true]
    rfl
  · exact ⟨_, rfl, by rw [State.selectRise, if_pos h]; rfl⟩
  · simp only [exec, execTransactionEnd, State.selectRise, if_neg h]
    rfl
  · have low : ¬s.ap.port = .high := by rw [h]; decide
    exact ⟨_, rfl, by rw [if_neg low, State.selectRise, if_pos h]; rfl⟩
  · simp only [exec, execTransactionBegin, State.selectRise, if_neg h]
    split <;> rfl

end Sys2Proof.Machine
end

/-! ## The port's refusals and the status reads -/

section
namespace Sys2Proof.Machine

/-- The class under which a command asks the port, as its group has it. -/
def CommandGroup.asks : CommandGroup → Option RequestClass
  | .statusRead => some .statusRead
  | .stationRead => some .listRead
  | .change => some .change
  | .stationChange => some .stationChange
  | .start | .event => none

/-- Every request reaches its block through the port, under the class of its group. -/
theorem exec_request {c : Instr} {k : RequestClass} (h : (commandGroup c).asks = some k) (s : State) :
    ∃ f, exec c s = s.request k f := by
  cases c with
  | readNode | readChannel | readDoor | readCall | readNeighbour | readRoute | readSignals | readTest | readReport
  | listRead | fireReset | isolate | restore | walkStart | walkStop | doorPulse | lampClear | lampCheck | testStart
  | testSuspend | testResume | testAbort | take | giveup | clear | order =>
    obtain rfl : _ = k := Option.some.inj h
    simp only [exec, execReadNode, execReadChannel, execReadDoor, execReadCall, execReadNeighbour, execReadRoute,
      execReadSignals, execReadTest, execReadReport, execListRead, execFireReset, execIsolate, execRestore,
      execWalkStart, execWalkStop, execDoorPulse, execLampClear, execLampCheck, execTestStart, execTestSuspend,
      execTestResume, execTestAbort, execTake, execGiveup, execClear, execOrder, State.read]
    exact ⟨_, rfl⟩
  | _ => exact (Option.some_ne_none k h.symm).elim

theorem asks_of_read {c : Instr} (h : commandGroup c = .statusRead ∨ commandGroup c = .stationRead) :
    ∃ k, (commandGroup c).asks = some k ∧ (k = .statusRead ∨ k = .listRead) := by
  rcases h with h | h <;> rw [h] <;> exact ⟨_, rfl, by simp⟩

theorem asks_of_change {c : Instr} (h : commandGroup c = .change ∨ commandGroup c = .stationChange) :
    ∃ k, (commandGroup c).asks = some k ∧ (k = .change ∨ k = .stationChange) := by
  rcases h with h | h <;> rw [h] <;> exact ⟨_, rfl, by simp⟩

theorem State.portBar_stopped {s : State} (h : s.running = false) {k : RequestClass}
    (changes : k = .change ∨ k = .stationChange) : s.portBar k = some .errPhase := by
  rcases changes with rfl | rfl <;> simp [State.portBar, h]

theorem State.portBar_asleep {s : State} (h : s.awake = false) (k : RequestClass) :
    s.portBar k = some .errPhase := by
  have stopped : s.running = false := Bool.eq_false_iff.2 fun run => by
    rw [State.awake_of_running run] at h
    exact Bool.noConfusion h
  cases k <;> simp [State.portBar, h, stopped]

/-- Settles O58: `portBar` in the order of its tests. -/
theorem portRefusals : Obligations.PortRefusals := by
  refine ⟨⟨fun _ => rfl, rfl, rfl, fun _ => rfl, rfl, rfl, rfl, rfl⟩, fun s response => ⟨fun h => ?_, fun h => ?_⟩,
    fun s c code len => ⟨fun deaf asked => ?_, fun deaf => ⟨?_, ?_⟩, fun hears => ⟨fun h => ?_, ?_, ?_, ?_⟩⟩⟩
  · simp [State.respond, State.setAp, h]
  · simp [State.respond, State.setAp, h]
  · obtain ⟨k, asks⟩ : ∃ k, (commandGroup c).asks = some k :=
      asked.elim (fun h => (asks_of_read h).imp fun _ => And.left) fun h => (asks_of_change h).imp fun _ => And.left
    obtain ⟨f, is⟩ := exec_request asks s
    rw [is, State.request_deaf deaf]
  · simp [exec, execRestart, deaf]
  · simp [exec, execUnknownRequest, deaf]
  · simp [exec, execUnknownRequest, hears, h]
  · intro asleep asked
    obtain ⟨k, asks⟩ : ∃ k, (commandGroup c).asks = some k :=
      asked.elim (fun h => (asks_of_read h).imp fun _ => And.left) fun h => (asks_of_change h).imp fun _ => And.left
    obtain ⟨f, is⟩ := exec_request asks s
    rw [is, State.request_barred hears (State.portBar_asleep asleep k)]
  · intro stopped change
    obtain ⟨k, asks, changes⟩ := asks_of_change change
    obtain ⟨f, is⟩ := exec_request asks s
    rw [is, State.request_barred hears (State.portBar_stopped stopped changes)]
  · intro gallery asked
    rcases asked with ⟨awake, read⟩ | ⟨run, change⟩
    · obtain ⟨f, is⟩ := exec_request (c := c) (k := .listRead) (by rw [read]; rfl) s
      have bar : s.portBar .listRead = some .errRole := by simp [State.portBar, awake, gallery]
      rw [is, State.request_barred hears bar]
    · obtain ⟨f, is⟩ := exec_request (c := c) (k := .stationChange) (by rw [change]; rfl) s
      have bar : s.portBar .stationChange = some .errRole := by simp [State.portBar, run, gallery]
      rw [is, State.request_barred hears bar]

/-! ### Status reads -/

theorem State.read_awake {s : State} (h : s.listens = true) (a : s.awake = true) (f : State → Response) :
    s.read f = .next (s.respond (f s)) := State.request_taken h (State.portBar_read a) _

/-- A read of one record of a table: its response in range, ERR_RANGE out of it. -/
theorem State.read_ranged {s : State} (h : s.listens = true) (a : s.awake = true) {i limit : Nat} {p : Prop} [Decidable p]
    (range : p ↔ i < limit) (r : State → Response) {data : List Byte} (eq : i < limit → r s = .done data) :
    (i < limit → s.read (fun s => if p then r s else .errRange) = .next (s.respond (.done data))) ∧
      (limit ≤ i → s.read (fun s => if p then r s else .errRange) = .next (s.respond .errRange)) := by
  refine ⟨fun below => ?_, fun beyond => ?_⟩
  · rw [State.read_awake h a, if_pos (range.2 below), eq below]
  · rw [State.read_awake h a, if_neg fun h => absurd (range.1 h) (by omega)]

/-! The responses in the fields of the statement, where the model builds them of other parts. -/

theorem bne_decide {α : Type} [DecidableEq α] (a b : α) : (a != b) = decide (a ≠ b) := by
  by_cases h : a = b <;> simp [h]

theorem b1_eq : b1 = fun n => [BitVec.ofNat 8 n] := rfl

theorem State.faultSummary_flags (s : State) : s.faultSummary = bitsToNat
    [ s.ds.channels.any fun ch => decide (ch.state = .fault), s.ds.channels.any (·.driftLimit),
      s.ds.channels.any (·.faultInAlarm), s.lc.lineStuck, s.lc.lineNoisy, s.lc.collision, s.lc.duplicateId,
      s.nt.slots.any fun k => decide (k.id ≠ 0 ∧ k.presence = .silent),
      s.doors.any fun d => decide (d.cfg.kind ≠ .unused ∧ d.state = .jammed), s.sd.signs.any (·.fault),
      s.sd.strips.any (·.latch.isSome), s.dt.batteryFault, decide (s.cl.clampCount ≠ 0), s.cl.invalid.isSome ] := by
  have silent : (fun k : Slot => decide (k.id ≠ 0 ∧ k.presence = .silent)) = Slot.silent := by
    funext k
    simp [Slot.silent, Slot.used, bne_decide]
  have jammed : (fun d : Door => decide (d.cfg.kind ≠ .unused ∧ d.state = .jammed)) = Door.jammed := by
    funext d
    simp [Door.jammed, bne_decide]
  have clamped : decide (s.cl.clampCount ≠ 0) = (s.cl.clampCount != 0) := (bne_decide _ _).symm
  rw [silent, jammed, clamped]
  rfl

theorem State.callResponse_fields (s : State) (i : Nat) : s.callResponse i = .done
    ((match s.call i with
      | some c =>
        bb true ++ b1 i ++ b1 c.kind.code ++ b1 c.base ++ b1 c.escalated ++ b1 c.current ++ b1 c.serial ++
          bb (decide (c.taker ≠ 0)) ++ b1 c.taker ++ bb c.overdue ++ bb c.reminder ++ timeLeft s.now c.unanswered ++
          timeLeft s.now c.attend ++ timeLeft s.now c.reannounce
      | none => bb false ++ absent 16) ++
      b1 (s.serial i) ++ (if i < 8 then (s.point i).fields else []) ++ o1 (s.tableOrder.findIdx? (· = i))) := by
  unfold State.callResponse
  cases s.call i with
  | none => rfl
  | some c =>
    have taken : (c.taker != 0) = decide (c.taker ≠ 0) := bne_decide _ _
    simp only [Call.fields, taken, List.append_assoc]

theorem Slot.response_fields (k : Slot) (now : Nat) : k.response now = .done
    (if k.id = 0 then b1 0 ++ absent 2 ++ b1 0 ++ absent 7
    else
      b1 k.id ++ b1 (k.link.getD 8) ++ b1 k.cost ++ b1 k.presence.code ++
        b1 (if k.presence = .absent then 0 else k.fire.code) ++ b1 (if k.presence = .absent then 15 else k.f) ++
        b1 (if k.presence = .fresh then k.x else 15) ++ o1 k.h ++ bb (decide (k.presence = .fresh) && k.test) ++
        timeLeft now k.deadline) := by
  by_cases used : k.id = 0
  · simp [Slot.response, Slot.used, used, Presence.code]
  · cases presence : k.presence <;>
      simp [Slot.response, Slot.used, used, Slot.offeredFire, Slot.offeredF, Slot.offeredX, Slot.offeredTest,
        Slot.heard, Slot.fresh, presence, bne_decide, FireState.code]

theorem State.listResponse_fields (s : State) {i : Nat} (h : i < 24) : s.listResponse i = .done
    (b1 s.al.length ++
      match s.al[i]? with
      | some e => e.fields s
      | none => absent 19) := if_neg (by omega)

theorem State.routeResponse_fields (s : State) : s.routeResponse = .done
    (b1 s.ru.f ++ b1 s.ru.xLocal ++ b1 s.ru.via.code ++ o1 s.ru.exitDoor ++ b1 s.ru.announcedX ++
      bb s.ru.evacuating.isSome ++ o1 (s.ru.evacuating.map (·.code)) ++ b1 s.cl.node.e ++
      (s.nt.slots.filter fun k => decide (k.id ≠ 0)).flatMap fun k =>
        b1 (if k.presence = .absent then 15 else min 15 (k.f + k.cost)) ++
          b1 (if decide (k.presence = .fresh) && s.passable k then min 15 (k.x + k.cost) else 15)) := by
  have used : (fun k : Slot => decide (k.id ≠ 0)) = Slot.used := by
    funext k
    simp [Slot.used, bne_decide]
  have sums : ∀ k ∈ s.nt.slots.filter (·.used), b1 k.fireSum ++ b1 (s.exitSum k) =
      b1 (if k.presence = .absent then 15 else min 15 (k.f + k.cost)) ++
        b1 (if decide (k.presence = .fresh) && s.passable k then min 15 (k.x + k.cost) else 15) := by
    intro k mem
    have is : k.used = true := (List.mem_filter.1 mem).2
    cases presence : k.presence <;>
      simp [Slot.fireSum, State.exitSum, State.usable, Slot.heard, Slot.fresh, is, presence, cap]
  rw [used, ← List.flatMap_congr sums]
  rfl

theorem State.signalsResponse_fields {s : State} (a : s.awake = true) : s.signalsResponse = .done
    (s.sd.signs.flatMap Sign.fields ++ s.sd.strips.flatMap Strip.fields ++
      b1 s.sd.sounder.code ++ o1 (s.sd.cadence.map bit) ++
      bb (!s.nt.latch.isSome && (decide (s.sd.sounder = .evac) ||
        decide (s.sd.sounder = .alert) && decide (s.sd.cadence = some true))) ++ bb s.nt.latch.isSome) := by
  have tone : s.sounderOn = (!s.nt.latch.isSome && (decide (s.sd.sounder = .evac) ||
      decide (s.sd.sounder = .alert) && decide (s.sd.cadence = some true))) := by
    rw [State.sounderOn, a, Signals.demandedTone]
    have on : (s.sd.cadence == some true) = decide (s.sd.cadence = some true) := by
      rcases s.sd.cadence with _ | _ | _ <;> rfl
    cases s.nt.latch <;> cases s.sd.sounder <;> simp [on]
  rw [State.signalsResponse, tone]

theorem State.testResponse_fields (s : State) : s.testResponse = .done
    (b1 s.dt.state.code ++ o1 s.dt.requested ++ o1 s.dt.completed ++ timeLeft s.now s.dt.minute ++
      o1 (s.dt.cause.map (·.code)) ++ timeLeft s.now s.dt.suspend ++
      (match s.dt.last with
        | .none => b1 0 ++ absent 1
        | .pass => b1 1 ++ absent 1
        | .fail m => b1 2 ++ b1 m
        | .aborted reason => b1 3 ++ b1 reason.code) ++
      bb s.dt.batteryFault ++ o1 (s.dt.battery.map fun low => if low = true then 0 else 1) ++
      b1 (if s.dt.state = .running then 0 else 1) ++ bb s.cl.node.nightOnly ++ bb s.cl.node.autoResume) := by
  have last : b1 s.dt.last.code ++ o1 s.dt.last.detail =
      match s.dt.last with
      | .none => b1 0 ++ absent 1
      | .pass => b1 1 ++ absent 1
      | .fail m => b1 2 ++ b1 m
      | .aborted reason => b1 3 ++ b1 reason.code := by
    cases s.dt.last <;> rfl
  rw [State.testResponse, ← last]
  simp only [State.relayOpen, decide_eq_true_eq, List.append_assoc]

/-- Settles O59, read by read. -/
theorem statusReadsAnswered : Obligations.StatusReadsAnswered := by
  intro s i h a
  refine ⟨State.read_ranged h a .rfl (fun s => (s.channel i.toNat).response) fun _ => rfl,
    State.read_ranged h a .rfl (fun s => (s.door i.toNat).response i.toNat s.now) fun _ => rfl,
    State.read_ranged h a Nat.lt_succ_iff.symm (fun s => s.callResponse i.toNat)
      fun _ => (s.callResponse_fields i.toNat).trans ?_,
    State.read_ranged h a .rfl (fun s => (s.slot i.toNat).response s.now)
      fun _ => ((s.slot i.toNat).response_fields s.now).trans ?_,
    fun station => ?_,
    (State.read_awake h a State.routeResponse).trans ?_, (State.read_awake h a State.signalsResponse).trans ?_,
    (State.read_awake h a State.testResponse).trans ?_, ?_, fun none => ?_, fun r rest some => ?_⟩
  · cases s.call i.toNat <;> rfl
  · rfl
  · have bar : s.portBar .listRead = none := by simp [State.portBar, a, station]
    simp only [exec, execListRead, State.request_taken h bar]
    refine ⟨fun below => ?_, fun beyond => ?_⟩
    · rw [State.listResponse_fields s below]
      cases s.al[i.toNat]? <;> rfl
    · rw [State.listResponse, if_pos (by omega)]
  · rw [State.routeResponse_fields]
    rfl
  · rw [State.signalsResponse_fields a]
    refine congrArg (fun data => Host.Outcome.next (s.respond (.done data)))
      (congrArg (· ++ _) (congrArg (· ++ _) (congrArg (· ++ _) (congrArg (· ++ _) (congrArg₂ (· ++ ·)
        (List.flatMap_congr fun g _ => ?_) (List.flatMap_congr fun p _ => ?_))))))
    · cases used : g.used
      · simp [Sign.fields, used, b1_eq, bb, absent, bit]
      · cases display : g.display <;> cases flash : g.flash <;>
          simp [Sign.fields, Sign.lampLit, used, display, flash, b1_eq, bb, absent, bit, b2, o1, o2, Nat.lt_succ_iff]
    · by_cases used : p.n = 0
      · simp [Strip.fields, Strip.used, used, b1, bb, absent, bit]
      · have is : p.used = true := by simp [Strip.used, used]
        simp only [Strip.fields, is, if_true, ne_eq, not_false_eq_true, used]
        rfl
  · rw [State.testResponse_fields]
    cases s.dt.last <;> rfl
  · simp only [exec, execReadNode, State.request_taken h (State.portBar_read a), State.nodeResponse,
      State.nodeFields, State.faultSummary_flags]
    rfl
  · simp only [exec, execReadReport, State.request_taken h (State.portBar_read a), State.takeReport, none]
    rfl
  · simp only [exec, execReadReport, State.request_taken h (State.portBar_read a), State.takeReport, some]
    rfl

end Sys2Proof.Machine
end

/-! ## The door inputs, access pulses, and the timers of the doors -/

section
namespace Sys2Proof.Machine

/-! ### A move of one door -/

theorem sameInputs_moveDoor {s : State} {d : Nat} {f : Door → Door} (h : (f (s.door d)).jammed = (s.door d).jammed)
    (n : Nat) : SameInputs s ((s.moveDoor d f).setFreeCount n) :=
  ⟨rfl, rfl, rfl, rfl, rfl, rfl, rfl, rfl, jams_setDoor ((Door.drive_jammed _ _ _).trans h) s.now⟩

theorem settle_moveDoor {s : State} {d : Nat} {f : Door → Door} (h : (f (s.door d)).jammed = (s.door d).jammed) :
    settle s (s.moveDoor d f) none [] = s.moveDoor d f :=
  settle_setDoor ((Door.drive_jammed _ _ _).trans h)

theorem settle_moveDoorAfresh {s : State} {d : Nat} {f : Door → Door} (h : (f (s.door d)).jammed = (s.door d).jammed) :
    settle s (s.moveDoorAfresh d f) none [] = s.moveDoorAfresh d f :=
  settle_setDoor ((Door.driveAfresh_jammed _ _ _).trans h)

/-- A move to another state than JAMMED, of a door that is not JAMMED, or one that keeps the state, keeps the JAMMED condition. -/
theorem Door.jammed_congr {d e : Door} (cfg : e.cfg = d.cfg) (state : e.state = .jammed ↔ d.state = .jammed) :
    e.jammed = d.jammed := by
  unfold Door.jammed
  rw [cfg]
  by_cases jam : d.state = .jammed <;> simp [jam, state]

theorem Door.shuts_jammed (d : Door) : d.shuts.jammed = d.jammed := by
  refine Door.jammed_congr d.shuts_same.1 ?_
  unfold Door.shuts
  cases d.state <;> simp

theorem Door.opens_jammed (d : Door) (now : Nat) : (d.opens now).jammed = d.jammed := by
  refine Door.jammed_congr (d.opens_same now).1 ?_
  unfold Door.opens
  cases d.state <;> simp [Door.openFromAccess]

theorem Door.grant_jammed (d : Door) (now : Nat) : (d.grant now).jammed = d.jammed := by
  refine Door.jammed_congr (d.grant_same now).1 ?_
  unfold Door.grant
  cases state : d.state <;> simp [state]

theorem Door.accessExpire_jammed (d : Door) : d.accessExpire.jammed = d.jammed := by
  refine Door.jammed_congr d.accessExpire_same.1 ?_
  unfold Door.accessExpire
  cases d.state <;> simp

theorem Door.openExpire_jammed (d : Door) : d.openExpire.jammed = d.jammed := by
  refine Door.jammed_congr d.openExpire_same.1 ?_
  unfold Door.openExpire
  cases d.state <;> simp

theorem Door.derive_state (d : Door) (free : Bool) (now : Nat) : (d.derive free now).state ≠ .jammed := by
  unfold Door.derive
  split <;> split <;> simp

theorem Door.firstContact_jammed {d : Door} (h : d.state ≠ .jammed) (v : Contact) (free : Bool) (now : Nat) :
    (d.firstContact v free now).jammed = d.jammed := by
  refine Door.jammed_congr (d.firstContact_same v free now).1 (iff_of_false ?_ h)
  unfold Door.firstContact
  dsimp only
  split
  · cases v with
    | opened => simp [Door.openFromAccess]
    | shut => exact h
  · exact Door.derive_state _ _ _

/-! ### Input events of a used door -/

section
variable {s : State} {d : Nat} (a : s.awake = true) (used : (s.door d).cfg.kind ≠ .unused)
include a

theorem State.doorEvent_unused (unused : (s.door d).cfg.kind = .unused) (f : State → State) :
    s.doorEvent d f = .next s := by
  unfold State.doorEvent
  rw [State.event_awake a, if_pos unused, settle_self]

include used

theorem State.doorEvent_used (f : State → State) : s.doorEvent d f = .next (settle s (f s) none []) := by
  unfold State.doorEvent
  rw [State.event_awake a, if_neg used]

end

section
variable {s : State} {d : Fin 8} (a : s.awake = true) (used : (s.door d).cfg.kind ≠ .unused)
include a used

theorem exec_doorShutting (contact : (s.door d).contact ≠ some .shut) :
    exec (.doorShutting d) s = .next (s.moveDoorAfresh d Door.shuts) := by
  have row : exec (.doorShutting d) s = s.doorEvent d fun s =>
      if (s.door d).contact == some .shut then s else s.moveDoorAfresh d Door.shuts := rfl
  rw [row, State.doorEvent_used a used, if_neg (by simpa using contact), settle_moveDoorAfresh (Door.shuts_jammed _)]

theorem exec_contactFirstQualified (contact : (s.door d).contact = none) (state : (s.door d).state ≠ .jammed)
    (value : Contact) :
    exec (.contactFirstQualified d value) s =
      .next (s.moveDoorAfresh d fun door => door.firstContact value (s.freeCondition door) s.now) := by
  have row : exec (.contactFirstQualified d value) s = s.doorEvent d fun s =>
      if (s.door d).contact.isSome then s
      else s.moveDoorAfresh d fun door => door.firstContact value (s.freeCondition door) s.now := rfl
  rw [row, State.doorEvent_used a used, if_neg (by simp [contact]),
    settle_moveDoorAfresh (Door.firstContact_jammed state _ _ _)]

theorem exec_rexPress :
    exec (.rexPress d) s = .next
      ((s.moveDoor d fun door => { door.grant s.now with rex := ⟨some s.now, s.freeCount⟩ }).setFreeCount
        (s.freeCount + 1)) := by
  have row : exec (.rexPress d) s = s.doorEvent d fun s =>
      (s.moveDoor d fun door => { door.grant s.now with rex := ⟨some s.now, s.freeCount⟩ }).setFreeCount
        (s.freeCount + 1) := rfl
  have jammed : ({ (s.door d).grant s.now with rex := ⟨some s.now, s.freeCount⟩ } : Door).jammed = (s.door d).jammed :=
    Door.grant_jammed _ _
  rw [row, State.doorEvent_used a used]
  refine congrArg Host.Outcome.next (settle_idle (sameInputs_moveDoor jammed _) rfl fun fault => ?_)
  exact (hasFault_setDoor ((Door.drive_jammed _ _ _).trans jammed) s.now).symm.trans fault

theorem exec_feedback {value : Lock} :
    ((s.door d).cfg.feedback = false →
      exec (.feedbackFirstQualified d value) s = .next s ∧ exec (.feedbackChange d value) s = .next s) ∧
    ((s.door d).cfg.feedback = true → (s.door d).feedback = none →
      exec (.feedbackFirstQualified d value) s = .next (s.takeFeedback d value)) ∧
    ((s.door d).cfg.feedback = true → (s.door d).feedback ≠ some value →
      exec (.feedbackChange d value) s = .next (s.takeFeedback d value)) := by
  have first : exec (.feedbackFirstQualified d value) s = s.doorEvent d fun s =>
      if !(s.door d).cfg.feedback || (s.door d).feedback.isSome then s else s.takeFeedback d value := rfl
  have change : exec (.feedbackChange d value) s = s.doorEvent d fun s =>
      if !(s.door d).cfg.feedback || (s.door d).feedback == some value then s else s.takeFeedback d value := rfl
  have taken : settle s (s.takeFeedback d value) none [] = s.takeFeedback d value :=
    settle_moveDoorAfresh (Door.jammed_congr rfl Iff.rfl)
  rw [first, change, State.doorEvent_used a used, State.doorEvent_used a used]
  refine ⟨fun without => ⟨?_, ?_⟩, fun with_ none => ?_, fun with_ other => ?_⟩
  · rw [if_pos (by simp [without]), settle_self]
  · rw [if_pos (by simp [without]), settle_self]
  · rw [if_neg (by simp [with_, none]), taken]
  · rw [if_neg (by simpa [with_] using other), taken]

end

/-! ### Shutting, REX and pulses -/

/-- Settles O38: `Door.shuts`, state by state. -/
theorem doorShuts : Obligations.DoorShuts := by
  intro s d a used contact
  rw [exec_doorShutting a used contact]
  have put (v : Door) (h : (s.door d).shuts = v) : Host.Outcome.next (ρ := Refusal) (φ := Fault)
      (s.moveDoorAfresh d Door.shuts) =
        .next { s with doors := s.doors.set d (v.driveAfresh (s.freeCondition (s.door d)) s.now) } := by
    subst h
    rfl
  refine ⟨fun state => put _ ?_, fun state => put _ ?_, fun state => put _ ?_, fun state => put _ ?_⟩
  · simp only [Door.shuts, state]
  · simp only [Door.shuts, state]
  · rcases state with state | state <;> simp only [Door.shuts, state]
  · simp only [List.mem_cons, List.not_mem_nil, or_false] at state
    rcases state with state | state | state | state <;> simp only [Door.shuts, state]

theorem Door.grant_granted {d : Door} (now : Nat) (h : d.state = .shutLocked ∨ d.state = .access) :
    d.grant now = { d with state := .access, accessTimer := d.pulse now } := by
  unfold Door.grant
  rcases h with h | h <;> rw [h]

theorem Door.grant_other {d : Door} (now : Nat)
    (h : d.state ∈ [DoorState.shutFree, .openFree, .openTimed, .openLong, .forced, .jammed]) : d.grant now = d := by
  simp only [List.mem_cons, List.not_mem_nil, or_false] at h
  unfold Door.grant
  rcases h with h | h | h | h | h | h <;> rw [h]

/-- An awake node's doors are driven as their inputs have it (R92 to R94). -/
theorem State.DrivesFollow.lock {s : State} (h : s.DrivesFollow) (a : s.awake = true) {d : Nat} (low : d < 8) :
    (s.door d).lock = lockDrive (s.freeCondition (s.door d)) (s.door d) := by
  have follows := h d low
  rw [if_pos a, State.driveFollows_iff] at follows
  exact follows.lock

/-- Settles O39: an unused door reads nothing; else `Door.grant`, state by state. -/
theorem rexPressGrants : Obligations.RexPressGrants := by
  intro s d a drives
  refine ⟨fun unused => ?_, fun used state => ?_, fun used state => ?_⟩
  · have still (f : State → State) : s.doorEvent d f = .next s := State.doorEvent_unused a unused f
    simp only [exec, execRexPress, execDoorOpening, execDoorShutting, execContactFirstQualified,
      execFeedbackFirstQualified, execFeedbackChange, still, and_self, implies_true]
  · rw [exec_rexPress a used]
    have granted := Door.grant_granted s.now (d := s.door d) state
    simp only [State.moveDoor, granted]
    rfl
  · rw [exec_rexPress a used]
    have other := Door.grant_other s.now (d := s.door d) state
    simp only [State.moveDoor, other]
    rw [Door.drive_same s.now]
    · rfl
    · exact drives.lock a d.isLt

/-! ### Pulses of the host and of a station -/

theorem exec_doorPulse {s : State} {d : Byte} (hears : s.listens = true) (run : s.running = true) (low : d.toNat < 8)
    (used : (s.door d.toNat).cfg.kind ≠ .unused) (state : (s.door d.toNat).state ≠ .jammed) :
    exec (.doorPulse d) s = .next ((s.pulseDoor d.toNat).respond .ok) := by
  simp only [exec, execDoorPulse, State.request_taken hears (State.portBar_change run)]
  rw [if_neg (by omega), if_neg (by simp [used, state])]

theorem exec_doorPulse_refused {s : State} {d : Byte} (hears : s.listens = true) (run : s.running = true) :
    (8 ≤ d.toNat → exec (.doorPulse d) s = .next (s.respond .errRange)) ∧
      (d.toNat < 8 → ¬(s.door d.toNat).cfg.kind ≠ .unused ∨ (s.door d.toNat).state = .jammed →
        exec (.doorPulse d) s = .next (s.respond (.errState .none))) := by
  simp only [exec, execDoorPulse, State.request_taken hears (State.portBar_change run)]
  refine ⟨fun high => ?_, fun low barred => ?_⟩
  · rw [if_pos (by omega)]
  · rw [if_neg (by omega), if_pos (by simpa using barred)]

theorem settle_pulseDoor (s : State) (d : Nat) : settle s (s.pulseDoor d) none [] = s.pulseDoor d :=
  settle_moveDoor (Door.grant_jammed _ _)

theorem settle_report (s : State) (k : ReportKind) (a b : Nat) : settle s (s.report k a b) none [] = s.report k a b :=
  (s.report_callConsequent k a b).settle_eq

/-- R59, R101: an ORDER DOOR_PULSE that is received and meant for this node. -/
theorem exec_orderDoorPulse {s : State} {src : BitVec 6} {target d : Byte} (a : s.awake = true) (r : s.receives = true)
    (source : wfSource src = true) (other : src.toNat ≠ s.nodeId) (low : 1 ≤ target.toNat) (high : target.toNat ≤ 63)
    (door : d.toNat < 8) (meant : s.addressed target.toNat = true) :
    exec (.orderDoorPulse src target d) s = .next (s.orderPulse src.toNat d.toNat) := by
  have wf : (wfSource src && (Payload.order ⟨6, target, d⟩).wf) = true := by
    rw [source, Bool.true_and]
    exact OrderPayload.wf_of (by decide) low high (by omega)
  have row : exec (.orderDoorPulse src target d) s = s.arrival src (.order ⟨6, target, d⟩) := rfl
  have dispatched : s.dispatch src.toNat (.order ⟨6, target, d⟩) = s.orderPulse src.toNat d.toNat := if_pos meant
  rw [row, State.arrival_dispatched a r wf other, dispatched]
  refine congrArg Host.Outcome.next ?_
  show settle s (s.orderPulse src.toNat d.toNat) none [] = _
  unfold State.orderPulse
  split
  · exact settle_report _ _ _ _
  · exact settle_pulseDoor _ _

theorem State.orderPulse_denied {s : State} {src d : Nat} {r : PulseDenial} (h : (s.door d).pulseDenial = some r) :
    s.orderPulse src d = s.report .pulseDenied d (src * 256 + r.code) := by
  unfold State.orderPulse
  rw [h]
  rfl

theorem State.orderPulse_taken {s : State} {src d : Nat} (h : (s.door d).pulseDenial = none) :
    s.orderPulse src d = s.pulseDoor d := by
  unfold State.orderPulse
  rw [h]

/-- Settles O40: both pulses are `Door.grant`. -/
theorem accessPulses : Obligations.AccessPulses := by
  intro s d src target a shaped drives
  have granted (state : (s.door d.toNat).state ∈ [DoorState.shutLocked, .access]) : s.pulseDoor d.toNat =
      { s with
        doors := s.doors.set d.toNat
          (Door.drive
            { s.door d.toNat with
              state := .access, accessTimer := some (s.now + (s.door d.toNat).cfg.pulseSeconds * Config.second) }
            (s.freeCondition (s.door d.toNat)) s.now) } := by
    have grant := Door.grant_granted s.now (by simpa using state)
    simp only [State.pulseDoor, State.moveDoor, grant]
    rfl
  have still (low : d.toNat < 8)
      (state : (s.door d.toNat).state ∈ [DoorState.shutFree, .openFree, .openTimed, .openLong, .forced]) :
      s.pulseDoor d.toNat = s := by
    have other : (s.door d.toNat).grant s.now = s.door d.toNat := by
      refine Door.grant_other s.now ?_
      simp only [List.mem_cons, List.not_mem_nil, or_false] at state ⊢
      tauto
    have stands : s.doors.set d.toNat (s.door d.toNat) = s.doors := by
      have here : d.toNat < s.doors.length := by rw [shaped.doors]; exact low
      unfold State.door
      rw [List.getD_eq_getElem _ _ here, List.set_getElem_self]
    simp only [State.pulseDoor, State.moveDoor, other, Door.drive_same s.now (drives.lock a low), State.setDoor, stands]
    rfl
  have unjammed {states : List DoorState} (state : (s.door d.toNat).state ∈ states) (apart : DoorState.jammed ∉ states) :
      (s.door d.toNat).state ≠ .jammed := fun jam => apart (jam ▸ state)
  refine ⟨fun hears run => ⟨(exec_doorPulse_refused hears run).1, (exec_doorPulse_refused hears run).2,
    fun low used state => ?_, fun low used state => ?_⟩, fun ⟨r, source, other, meant, low, high, door⟩ => ?_,
    fun deaf other away here => ?_, fun e deadline same used state timer => ?_⟩
  · rw [exec_doorPulse hears run low used (unjammed state (by decide)), granted state]
  · rw [exec_doorPulse hears run low used (unjammed state (by decide)), still low state]
  · have order := exec_orderDoorPulse (d := d) a r source other low high door ((addressed_iff s target.toNat).2 meant)
    refine ⟨fun barred => ?_, fun used remote state => ?_, fun used remote state => ?_, fun used remote state => ?_⟩
    · have denied : (s.door d.toNat).pulseDenial = some .notPermitted := by
        rw [Door.pulseDenial, if_pos (by simpa using barred)]
      rw [order, State.orderPulse_denied denied]
      rfl
    · have denied : (s.door d.toNat).pulseDenial = some .jammed := by
        rw [Door.pulseDenial, if_neg (by simp [used, remote]), if_pos state]
      rw [order, State.orderPulse_denied denied]
      rfl
    · have open_ : (s.door d.toNat).pulseDenial = none := by
        rw [Door.pulseDenial, if_neg (by simp [used, remote]), if_neg (unjammed state (by decide))]
      rw [order, State.orderPulse_taken open_, granted state]
    · have open_ : (s.door d.toNat).pulseDenial = none := by
        rw [Door.pulseDenial, if_neg (by simp [used, remote]), if_neg (unjammed state (by decide))]
      rw [order, State.orderPulse_taken open_, still door state]
  · have elsewhere : s.addressed target.toNat = false := Bool.eq_false_iff.2 fun h =>
      ((addressed_iff s target.toNat).1 h).elim away here
    have row : exec (.orderDoorPulse src target d) s = s.arrival src (.order ⟨6, target, d⟩) := rfl
    rw [row]
    refine State.reception_nothing deaf ?_
    split
    · rfl
    · have dispatched : s.dispatch src.toNat (.order ⟨6, target, d⟩) = s := if_neg (by simp [elsewhere])
      rw [dispatched]
      exact settle_self s
  · have row : exec (.accessPulseExpiry e) s = s.expiry (s.door e).accessTimer fun s => s.moveDoor e Door.accessExpire :=
      rfl
    have expire : (s.door d.toNat).accessExpire =
        { s.door d.toNat with state := .shutLocked, accessTimer := none } := if_pos state
    have same' : ((s.reach deadline).door e) = s.door d.toNat := by rw [same]; rfl
    rw [row, State.expiry_running a (by rw [same]; exact timer), settle_moveDoor (Door.accessExpire_jammed _)]
    simp only [State.moveDoor, same', expire]
    rfl

end Sys2Proof.Machine
end

/-! ## Openings, alarms and jams -/

section
namespace Sys2Proof.Machine

theorem SameInputs.trans {s t u : State} (h : SameInputs s t) (k : SameInputs t u) : SameInputs s u :=
  ⟨k.cl.trans h.cl, k.channels.trans h.channels, k.fl.trans h.fl, k.slots.trans h.slots, k.mode.trans h.mode,
    k.evacuate.trans h.evacuate, k.points.trans h.points, k.ru.trans h.ru, k.jams.trans h.jams⟩

/-! ### The call of a door alarm (R117) -/

/-- What a door alarm makes of the call of its source: raised, replaced by the more urgent, or announced again. -/
def State.alarmed (u : State) (source : Nat) (kind : CallKind) (priority : Nat) : State :=
  match u.call source with
  | none =>
    (State.announced { u with cc := { u.cc with serials := u.cc.serials.set source ((u.serial source + 1) % 16) } } source
      { kind := kind
        base := priority
        escalated := priority
        current := priority
        serial := u.serial source
        taker := 0
        overdue := false
        reminder := false
        unanswered := some (u.now + u.cl.node.tesc * Config.second)
        attend := none
        reannounce := none }).report .callRaised source (kind.code * 256 + priority)
  | some c =>
    let reminds := decide (c.taker ≠ 0) && !c.reminder
    let reminded := c.reminder || decide (c.taker ≠ 0)
    if priority < c.base then
      ((u.announced source { c with
          kind := kind
          base := priority
          escalated := min c.escalated priority
          current := min c.escalated priority
          reminder := reminded }).reportIf reminds .callReminder source c.taker).report .callReplaced source kind.code
    else (u.announced source { c with reminder := reminded }).reportIf reminds .callReminder source c.taker

theorem currentPriority_other {kind : CallKind} (h : kind ≠ .help) (escalated : Nat) (evacuating : Bool) :
    currentPriority kind escalated evacuating = escalated := by
  simp [currentPriority, h]

theorem State.raise_announce {s : State} {src : Nat} (h : src < s.cc.calls.length) {kind : CallKind} (alarm : kind ≠ .help)
    (base : Nat) :
    (s.raise src kind base).announce src =
      (State.announced { s with cc := { s.cc with serials := s.cc.serials.set src ((s.serial src + 1) % 16) } } src
        { kind := kind
          base := base
          escalated := base
          current := base
          serial := s.serial src
          taker := 0
          overdue := false
          reminder := false
          unanswered := some (s.now + s.cl.node.tesc * Config.second)
          attend := none
          reannounce := none }).report .callRaised src (kind.code * 256 + base) := by
  have present := State.setCall_call h (some
    { kind := kind
      base := base
      escalated := base
      current := currentPriority kind base s.isEvacuating
      serial := s.serial src
      taker := 0
      overdue := false
      reminder := false
      unanswered := s.after (s.cl.node.tesc * Config.second)
      attend := none
      reannounce := none })
  rw [State.announce_present (s := s.raise src kind base) present, currentPriority_other alarm]
  unfold State.announced State.raise
  dsimp only [State.report, setAp, setCc]
  rw [List.set_set]
  rfl

/-- R117: a door alarm, whose kind is not HELP, at a source of the table. -/
theorem State.doorAlarm_alarmed {s : State} {src : Nat} (h : src < s.cc.calls.length) {kind : CallKind}
    (alarm : kind ≠ .help) (priority : Nat) : s.doorAlarm src kind priority = s.alarmed src kind priority := by
  unfold State.doorAlarm State.alarmed
  cases s.call src with
  | none => exact State.raise_announce h alarm priority
  | some c =>
    have reminds : (c.taker != 0 && !c.reminder) = (decide (c.taker ≠ 0) && !c.reminder) := by rw [bne_decide]
    have reminded : (c.reminder || (decide (c.taker ≠ 0) && !c.reminder)) = (c.reminder || decide (c.taker ≠ 0)) := by
      cases c.reminder <;> simp
    dsimp only
    rw [reminds, reminded, currentPriority_other alarm, State.announce_setCall h, State.announce_setCall h]

/-- A door alarm beside a move of its door is settled as it stands: it changes no input of another block. -/
theorem settle_alarm {s t : State} (same : SameInputs s t) (test : t.dt.state = s.dt.state)
    (fault : t.hasFault = s.hasFault) (k : ReportKind) (a b src : Nat) (kind : CallKind) (priority : Nat) :
    settle s ((t.report k a b).doorAlarm src kind priority) none [] = (t.report k a b).doorAlarm src kind priority := by
  have follows := (t.report_callConsequent k a b).trans ((t.report k a b).doorAlarm_callConsequent src kind priority)
  refine settle_idle (same.trans follows.sameInputs) ?_ fun h => ?_
  · obtain ⟨_, _, _, _, _, eq⟩ := follows
    rw [eq]
    exact test
  · rw [← fault, ← follows.hasFault]
    exact h

/-! ### Openings and the open timer -/

theorem exec_doorOpening {s : State} {d : Fin 8} (a : s.awake = true) (used : (s.door d).cfg.kind ≠ .unused)
    (contact : (s.door d).contact ≠ some .opened) :
    exec (.doorOpening d) s = .next (s.openDoor d) := by
  have row : exec (.doorOpening d) s = s.doorEvent d fun s =>
      if (s.door d).contact == some .opened then s else s.openDoor d := rfl
  have moved : SameInputs s (s.moveDoorAfresh d fun door => door.opens s.now) :=
    ⟨rfl, rfl, rfl, rfl, rfl, rfl, rfl, rfl,
      jams_setDoor ((Door.driveAfresh_jammed _ _ _).trans (Door.opens_jammed _ _)) s.now⟩
  rw [row, State.doorEvent_used a used, if_neg (by simpa using contact)]
  refine congrArg Host.Outcome.next ?_
  unfold State.openDoor
  dsimp only
  split
  · exact settle_alarm moved rfl 
      (hasFault_setDoor ((Door.driveAfresh_jammed _ _ _).trans (Door.opens_jammed _ _)) s.now) _ _ _ _ _ _
  · exact settle_moveDoorAfresh (Door.opens_jammed _ _)

theorem exec_openTimerExpiry {s : State} {d : Fin 8} {deadline : Nat} (a : s.awake = true)
    (timer : (s.door d).openTimer = some deadline) (state : (s.door d).state = .openTimed) :
    exec (.openTimerExpiry d) s = .next ((s.reach deadline).holdDoor d) := by
  have row : exec (.openTimerExpiry d) s = s.expiry (s.door d).openTimer fun s => s.holdDoor d := rfl
  have moved : SameInputs (s.reach deadline) ((s.reach deadline).moveDoor d Door.openExpire) :=
    ⟨rfl, rfl, rfl, rfl, rfl, rfl, rfl, rfl,
      jams_setDoor ((Door.drive_jammed _ _ _).trans (Door.openExpire_jammed _)) (s.reach deadline).now⟩
  have held : ((s.reach deadline).door d).state = .openTimed := state
  rw [row, State.expiry_running a timer]
  refine congrArg Host.Outcome.next ?_
  unfold State.holdDoor
  dsimp only
  rw [if_pos held]
  exact settle_alarm moved rfl
    (hasFault_setDoor ((Door.drive_jammed _ _ _).trans (Door.openExpire_jammed _)) (s.reach deadline).now) _ _ _ _ _ _

/-- Settles O37: the contact's first value by `Door.firstContact`, an opening by `Door.opens`, alarms by `doorAlarm_alarmed`. -/
theorem doorOpensAndIsHeld : Obligations.DoorOpensAndIsHeld := by
  refine ⟨fun s d value a shaped used => ⟨fun contact state unjammed => ?_, fun contact state => ?_, fun contact => ?_⟩,
    fun s d deadline a shaped state timer => ?_⟩
  · rw [exec_contactFirstQualified a used contact unjammed]
    unfold State.moveDoorAfresh Door.firstContact
    dsimp only
    rw [if_neg state]
    cases value <;> cases free : s.freeCondition (s.door d) <;> simp only [Door.derive] <;> rfl
  · rw [exec_contactFirstQualified a used contact (by rw [state]; decide)]
    unfold State.moveDoorAfresh Door.firstContact
    dsimp only
    rw [if_pos state]
    cases value <;> rfl
  · have source : 8 + d.val < s.cc.calls.length := by rw [shaped.calls]; omega
    rw [exec_doorOpening a used contact]
    unfold State.openDoor State.moveDoorAfresh
    refine ⟨fun state => ?_, fun state => ?_, fun state => ?_, fun state => ?_⟩
    · have opens : (s.door d).opens s.now = { s.door d with contact := some .opened, state := .forced } := by
        simp only [Door.opens, state]
      rw [if_pos state]
      simp only [opens]
      unfold State.raiseForced
      refine congrArg Host.Outcome.next (State.doorAlarm_alarmed ?_ (by decide) _)
      exact source
    · rw [if_neg (by rw [state]; decide)]
      simp only [Door.opens, state]
      rfl
    · rw [if_neg (by rw [state]; decide)]
      simp only [Door.opens, state]
      rfl
    · rw [if_neg (by rw [state]; decide)]
      simp only [Door.opens, state]
      rfl
  · have source : 8 + d.val < s.cc.calls.length := by rw [shaped.calls]; omega
    have held : ((s.reach deadline).door d).state = .openTimed := state
    have expires : ((s.reach deadline).door d).openExpire =
        { s.door d with state := .openLong, accessMark := false, openTimer := none } := if_pos state
    rw [exec_openTimerExpiry a timer state]
    unfold State.holdDoor State.moveDoor
    rw [if_pos held, expires]
    refine congrArg Host.Outcome.next (State.doorAlarm_alarmed ?_ (by decide) _)
    exact source

end Sys2Proof.Machine
end

/-! ## The jam comparison -/

section
namespace Sys2Proof.Machine

/-! ### What an event leaves of evacuating and of the doors -/

theorem State.computedRoute_evacuating (s : State) :
    s.computedRoute.evacuating = evacCause s.fireDistance s.cl.node.e s.nt.evacuate := by
  cases exit_ : s.exitDoor with
  | some d => rw [State.computedRoute_exit exit_]
  | none => rw [State.computedRoute_inner exit_]

/-- With an input of neither the fire logic nor of R84 changed, evacuating stays as R84 and R86 had it. -/
theorem settle_evacuating_kept {u v : State} (view : v.fireView = u.fireView) (ru : v.ru = u.ru)
    (flag : v.nt.evacuate = u.nt.evacuate)
    (run : u.running = true → u.ru.f = u.fireDistance ∧ u.ru.evacuating = evacCause u.ru.f u.cl.node.e u.nt.evacuate)
    (peer : Option Nat) (pressed : List Nat) : (settle u v peer pressed).ru.evacuating = u.ru.evacuating := by
  rw [settle_ru, fireFollow_same view, phaseFollow_same (congrArg FireLogic.gallery (State.fl_of_fireView view))]
  have running : v.running = u.running := by unfold State.running; rw [State.cl_of_fireView view]
  have distance : v.fireDistance = u.fireDistance := by
    unfold State.fireDistance
    rw [State.fl_of_fireView view, show v.nt.slots = u.nt.slots from congrArg (·.2.2.1) view]
  unfold followedRoute
  rw [flag, bne_self_eq_false]
  split
  · rename_i h
    obtain ⟨f, cause⟩ := run (running ▸ h)
    split
    · rw [v.computedRoute_evacuating, distance, State.cl_of_fireView view, flag, cause, f]
    · rw [ru]
  · rw [if_neg (by decide), ru]

theorem settle_doors_same {old s : State} {peer : Option Nat} {pressed : List Nat}
    (same : doorInputsChanged old (settle old s peer pressed) = false) : (settle old s peer pressed).doors = s.doors := by
  obtain ⟨w, ⟨ground, -, -⟩, doors, final⟩ := (settle_stages old s peer pressed).doors
  rw [doorInputsChanged_ground ground] at same
  rw [final, doorsFollow, if_neg (by simp [same]), doors]

/-- At an event of neither the fire logic, the building nor the neighbours the doors stay as their own controller left them. -/
theorem settle_doors_kept {u v : State} (view : v.fireView = u.fireView) (ru : v.ru = u.ru) (mode : v.nt.mode = u.nt.mode)
    (flag : v.nt.evacuate = u.nt.evacuate)
    (run : u.running = true → u.ru.f = u.fireDistance ∧ u.ru.evacuating = evacCause u.ru.f u.cl.node.e u.nt.evacuate)
    (peer : Option Nat) (pressed : List Nat) : (settle u v peer pressed).doors = v.doors := by
  refine settle_doors_same ?_
  have evacuating := settle_evacuating_kept view ru flag run peer pressed
  have gallery := congrArg FireLogic.gallery (State.fl_of_fireView (settle_keeps_fireView view peer pressed))
  have fl := congrArg FireLogic.gallery (State.fl_of_fireView view)
  have slots : v.nt.slots = u.nt.slots := congrArg (·.2.2.1) view
  obtain ⟨slots', mode', -⟩ := settle_keeps_table u v peer pressed
  unfold doorInputsChanged State.isEvacuating State.slotFires
  rw [evacuating, gallery, fl, slots', slots, mode', mode]
  simp

theorem State.RouteFollows.evacuation {s : State} (h : s.RouteFollows) (run : s.running = true) :
    s.ru.f = s.fireDistance ∧ s.ru.evacuating = evacCause s.ru.f s.cl.node.e s.nt.evacuate := by
  obtain ⟨f, -, -, -, -, cause, -⟩ := h.2.2 (by simpa [State.running] using run)
  exact ⟨f, cause⟩

theorem State.hasFault_of_jam {s : State} {d : Door} (m : d ∈ s.doors) (jam : d.jammed = true) : s.hasFault = true := by
  have member : s.doors.any (·.jammed) = true := List.any_eq_true.2 ⟨d, m, jam⟩
  simp [State.hasFault, State.faultMembers, member]

/-! ### The comparison's expiry -/

theorem exec_jamComparisonExpiry {s : State} {d : Fin 8} {deadline : Nat} (a : s.awake = true)
    (timer : (s.door d).jamTimer = some deadline) :
    exec (.jamComparisonExpiry d) s = .next (settle (s.reach deadline)
      (if (s.door d).state = .jammed then (s.reach deadline).unjamDoor d else (s.reach deadline).jamDoor d) none []) :=
  State.expiry_running a timer _

/-- What the two entries of R107 have in common: the door's record moved, its report, and what follows. -/
theorem settle_jam {s u : State} (routes : s.RouteFollows) (view : u.fireView = s.fireView) (ru : u.ru = s.ru)
    (nt : u.nt = s.nt) (k : ReportKind) (a b : Nat) :
    Consequent u (settle s (u.report k a b) none []) ∧ (settle s (u.report k a b) none []).doors = u.doors ∧
      Reports u k a b (settle s (u.report k a b) none []) := by
  refine ⟨(u.report_callConsequent k a b).consequent.trans (settle_consequent _ _ _ _), ?_, settle_extends _ _ _ _⟩
  exact settle_doors_kept (v := u.report k a b) view ru (congrArg _ nt) (congrArg _ nt) routes.evacuation none []

/-- Settles O41: the feedback by `exec_feedback`, the comparison by R107's two branches. -/
theorem jamsDeclaredAndCleared : Obligations.JamsDeclaredAndCleared := by
  intro s d value a shaped routes used
  have feedback := exec_feedback a used (value := value)
  refine ⟨feedback.1, fun with_ none => (feedback.2.1 with_ none).trans rfl,
    fun with_ other => (feedback.2.2 with_ other).trans rfl, fun deadline timer => ⟨fun unjammed => ?_, fun jam shut => ?_⟩⟩
  · have moves : (s.reach deadline).jamDoor d = ((s.reach deadline).moveDoorAfresh d Door.enterJam).report .doorJammed d
        (pack (s.door d).lock.code (s.door d).feedbackCode) := rfl
    rw [Completes, exec_jamComparisonExpiry a timer, if_neg unjammed, moves]
    obtain ⟨consequent, doors, reports⟩ := settle_jam (s := s.reach deadline)
      (u := (s.reach deadline).moveDoorAfresh d Door.enterJam) routes rfl rfl rfl .doorJammed d
      (pack (s.door d).lock.code (s.door d).feedbackCode)
    generalize settle _ _ _ _ = t at consequent doors reports ⊢
    refine ⟨t, rfl, consequent, doors, ?_, fun v is => ?_⟩
    · have here : d.val < s.doors.length := by rw [shaped.doors]; exact d.isLt
      refine State.hasFault_of_jam
        (d := (s.door d).enterJam.driveAfresh (s.freeCondition (s.door d)) (s.reach deadline).now) ?_
        (by simp [Door.jammed, Door.driveAfresh, Door.remakeJam, Door.enterJam, used])
      rw [doors]
      exact List.mem_set here _
    · have code : (s.door d).feedbackCode = v.code := by rw [Door.feedbackCode, is]; rfl
      rw [code] at reports
      exact reports
  · have here : d.val < s.doors.length := by rw [shaped.doors]; exact d.isLt
    have derived : Door.derive (s.door d) (s.freeCondition (s.door d)) (s.reach deadline).now =
        { s.door d with
          state := if s.freeCondition (s.door d) = true then .shutFree else .shutLocked
          accessMark := false
          openTimer := none } := by
      simp only [Door.derive, shut]
    have state : (((s.reach deadline).moveDoorAfresh d fun door =>
        door.derive (s.freeCondition door) (s.reach deadline).now).door d).state =
          if s.freeCondition (s.door d) = true then .shutFree else .shutLocked := by
      rw [State.moveDoorAfresh, State.setDoor_door (s := s.reach deadline) here, if_pos rfl]
      exact congrArg Door.state derived
    have moves : (s.reach deadline).unjamDoor d = ((s.reach deadline).moveDoorAfresh d fun door =>
        door.derive (s.freeCondition door) (s.reach deadline).now).report .doorJamCleared d
          (if s.freeCondition (s.door d) = true then DoorState.shutFree else .shutLocked).code := by
      rw [← state]
      rfl
    rw [Completes, exec_jamComparisonExpiry a timer, if_pos jam, moves]
    obtain ⟨consequent, doors, reports⟩ := settle_jam (s := s.reach deadline)
      (u := (s.reach deadline).moveDoorAfresh d fun door => door.derive (s.freeCondition door) (s.reach deadline).now)
      routes rfl rfl rfl .doorJamCleared d
      (if s.freeCondition (s.door d) = true then DoorState.shutFree else .shutLocked).code
    generalize settle _ _ _ _ = t at consequent doors reports ⊢
    unfold State.moveDoorAfresh at consequent doors reports
    simp only [show (s.reach deadline).door d = s.door d from rfl, derived] at consequent doors reports
    exact ⟨t, rfl, consequent, doors, reports⟩

end Sys2Proof.Machine
end

/-! ## Thresholds; the codec of telegrams -/

section
namespace Sys2Proof.Machine

theorem Channel.rise_iff (ch : Channel) (k : Nat) : ch.rise k = true ↔
    0 < ch.cfg.rr ∧ ch.ring.length = 8 ∧ ch.ring.headD 0 + k * ch.cfg.rr ≤ ch.m4 / 4 := by
  unfold Channel.rise Channel.m
  cases ch.ring with
  | nil => simp
  | cons oldest rest => simp [and_assoc]

/-- Settles O9: R12's reduction by arithmetic, R11, R13 and R15 by the branches of `Channel.band`. -/
theorem thresholdConditions : Obligations.ThresholdConditions := by
  intro ch mode fireHeld
  refine ⟨fun smoke => ?_, fun heat => ?_⟩
  · intro p a pEff aEff low below
    have pair : ch.cfg.pair mode = (p, a) := by cases mode <;> rfl
    have effP : effectiveP p fireHeld = pEff := rfl
    have effA : effectiveA p a fireHeld = aEff := rfl
    have order : 1 ≤ pEff ∧ pEff < aEff := by
      simp only [pEff, aEff]
      cases fireHeld
      · exact ⟨low, below⟩
      · simp only [if_true]
        omega
    have band : ch.band mode fireHeld =
        if aEff ≤ ch.m4 / 4 - ch.b then .alarm else if pEff ≤ ch.m4 / 4 - ch.b then .prealarm else .clear := by
      unfold Channel.band
      rw [smoke]
      dsimp only
      rw [pair, effP, effA]
      rfl
    refine ⟨order.1, order.2, ?_, ?_⟩
    · rw [band]
      split
      · simp [*]
      · split <;> simp [*]
    · rw [band]
      split
      · simp only [reduceCtorEq, false_iff]
        omega
      · split
        · simp only [true_iff]
          omega
        · simp only [reduceCtorEq, false_iff]
          omega
  · intro m rate
    have band : ch.band mode fireHeld =
        if 256 + 8 * ch.cfg.th ≤ m ∨ rate 8 then .alarm
        else if 256 + 8 * ch.cfg.th - 80 ≤ m ∨ rate 4 then .prealarm else .clear := by
      unfold Channel.band
      rw [heat]
      simp only [Bool.or_eq_true, decide_eq_true_eq, Channel.rise_iff]
      rfl
    rw [band]
    by_cases alarm : 256 + 8 * ch.cfg.th ≤ m ∨ rate 8
    · rw [if_pos alarm]
      exact ⟨iff_of_true rfl alarm, iff_of_true nofun (.inl rfl)⟩
    · by_cases near : 256 + 8 * ch.cfg.th - 80 ≤ m ∨ rate 4
      · rw [if_neg alarm, if_pos near]
        exact ⟨iff_of_false nofun alarm, iff_of_true nofun (.inr near)⟩
      · rw [if_neg alarm, if_neg near]
        exact ⟨iff_of_false nofun alarm, iff_of_false (fun h => h rfl) (not_or.2 ⟨nofun, near⟩)⟩

end Sys2Proof.Machine

namespace Sys2Proof

open Machine (bit)

/-! ### Stuffing (R42) -/

theorem decoded_mk (b : Bool) (bits : List Bool) (intact : Bool) : decoded b (bits, intact) = (b :: bits, intact) := rfl

theorem stuffFrom_cons (b last : Bool) (run : Nat) (rest : List Bool) :
    ∃ tail, stuffFrom last run (b :: rest) = b :: tail := by
  rw [stuffFrom]
  by_cases due : (if b = last then run + 1 else 1) = 8
  · exact ⟨_, if_pos due⟩
  · exact ⟨_, if_neg due⟩

/-- A receiver that has counted as many equal bits as the sender decodes what the sender stuffed. -/
theorem unstuff_stuff (bits : List Bool) : ∀ (last : Bool) (run : Nat), run < 8 →
    unstuffFrom last run (stuffFrom last run bits) = (bits, true) := by
  induction bits with
  | nil => exact fun _ _ _ => rfl
  | cons b rest ih =>
    intro last run few
    have most : (if b = last then run + 1 else 1) ≤ 8 := by split <;> omega
    rw [stuffFrom]
    by_cases due : (if b = last then run + 1 else 1) = 8
    · rw [if_pos due, unstuffFrom]
      rw [if_pos due, if_pos rfl, ih (!b) 1 (by decide)]
      rfl
    · have next := ih b _ (Nat.lt_of_le_of_ne most due)
      rw [if_neg due]
      cases rest with
      | nil => simp [stuffFrom, unstuffFrom, due]
      | cons c rest =>
        obtain ⟨tail, is⟩ := stuffFrom_cons c b (if b = last then run + 1 else 1) rest
        rw [is] at next ⊢
        rw [unstuffFrom]
        rw [if_neg due, next]
        rfl

/-! ### Fields (R43) -/

theorem msbBits_length (n v : Nat) : (msbBits n v).length = n := by
  induction n with
  | zero => rfl
  | succ n ih => simp [msbBits, ih]

theorem bit_of_mod_two (n : Nat) : bit (n % 2 == 1) = n % 2 := by
  rcases Nat.mod_two_eq_zero_or_one n with h | h <;> rw [h] <;> rfl

theorem foldl_msbBits (n v : Nat) : ∀ acc, (msbBits n v).foldl (fun a b => 2 * a + bit b) acc = acc * 2 ^ n + v % 2 ^ n := by
  induction n with
  | zero => intro acc; simp [msbBits, Nat.mod_one]
  | succ n ih =>
    intro acc
    rw [msbBits, List.foldl_cons, ih, bit_of_mod_two, Nat.mod_pow_succ, Nat.pow_succ]
    ring

theorem ofMsb_msbBits (n v : Nat) : ofMsb (msbBits n v) = v % 2 ^ n := by
  rw [ofMsb, foldl_msbBits, Nat.zero_mul, Nat.zero_add]

theorem flatMap_msbBits_length (bytes : List Nat) : (bytes.flatMap (msbBits 8)).length = 8 * bytes.length := by
  induction bytes with
  | nil => rfl
  | cons b rest ih => rw [List.flatMap_cons, List.length_append, ih, msbBits_length, List.length_cons]; ring

theorem bytesOf_flatMap {bytes : List Nat} (h : ∀ b ∈ bytes, b < 256) :
    bytesOf bytes.length (bytes.flatMap (msbBits 8)) = bytes := by
  induction bytes with
  | nil => rfl
  | cons b rest ih =>
    have here : b % 2 ^ 8 = b := Nat.mod_eq_of_lt (h b List.mem_cons_self)
    rw [List.flatMap_cons, List.length_cons, bytesOf, List.take_left' (msbBits_length 8 b),
      List.drop_left' (msbBits_length 8 b), ofMsb_msbBits, here, ih fun b m => h b (List.mem_cons_of_mem _ m)]

theorem crc_lt (bits : List Bool) : crc bits < 65536 := by
  have step (r : Nat) (b : Bool) : crcStep r b < 65536 := by
    unfold crcStep
    have low : 2 * r % 65536 < 2 ^ 16 := Nat.mod_lt _ (by decide)
    split
    · exact Nat.xor_lt_two_pow low (by decide)
    · exact low
  have all : ∀ (bits : List Bool) (r : Nat), r < 65536 → bits.foldl crcStep r < 65536 := by
    intro bits
    induction bits with
    | nil => exact fun _ h => h
    | cons b rest ih => exact fun r _ => ih _ (step r b)
  exact all bits _ (by decide)

/-! ### Payloads (Table 3-1) -/

theorem bit_lt (b : Bool) : bit b < 2 := by cases b <;> decide

theorem bit_beq (b : Bool) : (bit b == 1) = b := by cases b <;> rfl

theorem fireStateOf_code (f : FireState) : fireStateOf f.code = f := by cases f <;> rfl

theorem Payload.bytes_lt (body : Payload) : ∀ b ∈ body.bytes, b < 256 := by
  cases body with
  | state p =>
    have fire : p.fire.code < 4 := by cases p.fire <;> decide
    have role : p.role.code < 2 := by cases p.role <;> decide
    have mode : p.mode.code < 2 := by cases p.mode <;> decide
    have test := bit_lt p.testRunning
    have evacuate := bit_lt p.evacuate
    have f := p.f.isLt
    have x := p.x.isLt
    have h := p.h.isLt
    simp only [Payload.bytes, List.forall_mem_cons, List.not_mem_nil, false_implies, implies_true, and_true]
    omega
  | call p =>
    have source := p.source.isLt
    have kind := p.kind.isLt
    have serial := p.serial.isLt
    have priority := p.priority.isLt
    have taker := p.taker.isLt
    have taken := bit_lt p.taken
    have overdue := bit_lt p.overdue
    have reminder := bit_lt p.reminder
    simp only [Payload.bytes, List.forall_mem_cons, List.not_mem_nil, false_implies, implies_true, and_true]
    omega
  | take p | giveup p =>
    simpa [Payload.bytes] using ⟨p.origin.isLt, p.source.isLt, p.serial.isLt⟩
  | clear p => simpa [Payload.bytes] using ⟨p.origin.isLt, p.source.isLt, p.serial.isLt, p.clearedBy.isLt⟩
  | order p => simpa [Payload.bytes] using ⟨p.code.isLt, p.target.isLt, p.door.isLt⟩

/-- A field of a byte, read back. -/
theorem field_read {w n : Nat} {v : BitVec w} (h : n % 2 ^ w = v.toNat) : BitVec.ofNat w n = v :=
  BitVec.eq_of_toNat_eq (by rw [BitVec.toNat_ofNat, h])

theorem state_payloadOf (p : StatePayload) : payloadOf 1 (Payload.state p).bytes = some (.state p) := by
  obtain ⟨f, x, state, role, test, h, mode, evacuate⟩ := p
  have fire_lt : state.code < 4 := by cases state <;> decide
  have role_lt : role.code < 2 := by cases role <;> decide
  have mode_lt : mode.code < 2 := by cases mode <;> decide
  have test_lt := bit_lt test
  have evacuate_lt := bit_lt evacuate
  have x_lt := x.isLt
  have h_lt := h.isLt
  have f_lt := f.isLt
  have read_f : BitVec.ofNat 4 ((f.toNat * 16 + x.toNat) / 16) = f := field_read (by omega)
  have read_x : BitVec.ofNat 4 (f.toNat * 16 + x.toNat) = x := field_read (by omega)
  have read_fire : (state.code * 64 + role.code * 32 + bit test * 16 + h.toNat) / 64 % 4 = state.code := by omega
  have read_role : (state.code * 64 + role.code * 32 + bit test * 16 + h.toNat) / 32 % 2 = role.code := by omega
  have read_test : (state.code * 64 + role.code * 32 + bit test * 16 + h.toNat) / 16 % 2 = bit test := by omega
  have read_h : BitVec.ofNat 4 (state.code * 64 + role.code * 32 + bit test * 16 + h.toNat) = h := field_read (by omega)
  have read_mode : (mode.code * 128 + bit evacuate * 64) / 128 % 2 = mode.code := by omega
  have read_evacuate : (mode.code * 128 + bit evacuate * 64) / 64 % 2 = bit evacuate := by omega
  simp only [Payload.bytes, payloadOf, read_f, read_x, read_fire, read_role, read_test, read_h, read_mode, read_evacuate,
    fireStateOf_code, bit_beq]
  cases role <;> cases mode <;> rfl

theorem call_payloadOf (p : CallPayload) : payloadOf 2 (Payload.call p).bytes = some (.call p) := by
  obtain ⟨source, kind, serial, priority, taken, overdue, reminder, taker⟩ := p
  have source_lt := source.isLt
  have kind_lt := kind.isLt
  have serial_lt := serial.isLt
  have priority_lt := priority.isLt
  have taker_lt := taker.isLt
  have taken_lt := bit_lt taken
  have overdue_lt := bit_lt overdue
  have reminder_lt := bit_lt reminder
  have read_source : BitVec.ofNat 5 ((source.toNat * 8 + kind.toNat) / 8) = source := field_read (by omega)
  have read_kind : BitVec.ofNat 3 (source.toNat * 8 + kind.toNat) = kind := field_read (by omega)
  have read_serial : BitVec.ofNat 4
      ((serial.toNat * 16 + priority.toNat * 4 + bit taken * 2 + bit overdue) / 16) = serial := field_read (by omega)
  have read_priority : BitVec.ofNat 2
      ((serial.toNat * 16 + priority.toNat * 4 + bit taken * 2 + bit overdue) / 4) = priority := field_read (by omega)
  have read_taken : (serial.toNat * 16 + priority.toNat * 4 + bit taken * 2 + bit overdue) / 2 % 2 = bit taken := by omega
  have read_overdue : (serial.toNat * 16 + priority.toNat * 4 + bit taken * 2 + bit overdue) % 2 = bit overdue := by omega
  have read_reminder : (bit reminder * 128 + taker.toNat) / 128 % 2 = bit reminder := by omega
  have read_taker : BitVec.ofNat 6 (bit reminder * 128 + taker.toNat) = taker := field_read (by omega)
  simp only [Payload.bytes, payloadOf, read_source, read_kind, read_serial, read_priority, read_taken, read_overdue,
    read_reminder, read_taker, bit_beq]

theorem payloadOf_bytes (body : Payload) : payloadOf body.kindCode body.bytes = some body := by
  cases body with
  | state p => exact state_payloadOf p
  | call p => exact call_payloadOf p
  | take p | giveup p | clear p | order p =>
    simp only [Payload.bytes, Payload.kindCode, payloadOf, BitVec.ofNat_toNat, BitVec.setWidth_eq]

/-! ### Reception (R46) -/

theorem Payload.kindCode_known (body : Payload) : 1 ≤ body.kindCode ∧ body.kindCode ≤ 6 := by
  cases body <;> simp [Payload.kindCode]

theorem Payload.bytes_few (body : Payload) : body.bytes.length ≤ 12 := by cases body <;> simp [Payload.bytes]

/-- The fields of a telegram after its start bit, in the order they are sent. -/
def Telegram.fields (t : Telegram) : List Bool :=
  msbBits 2 t.cls.toNat ++ (msbBits 6 t.src.toNat ++ (msbBits 4 t.body.kindCode ++ (msbBits 4 t.body.bytes.length ++
    (t.body.bytes.flatMap (msbBits 8) ++ msbBits 16 (crc t.bodyBits)))))

theorem Telegram.fields_eq (t : Telegram) : t.bodyBits ++ msbBits 16 (crc t.bodyBits) = t.fields := by
  simp only [Telegram.fields, Telegram.bodyBits, List.append_assoc]

theorem Telegram.bodyBits_length (t : Telegram) : t.bodyBits.length = 16 + 8 * t.body.bytes.length := by
  simp only [Telegram.bodyBits, List.length_append, msbBits_length, flatMap_msbBits_length]

theorem Telegram.lengthField_fields (t : Telegram) : lengthField t.fields = t.body.bytes.length := by
  have few := t.body.bytes_few
  have field : (t.fields.drop 12).take 4 = msbBits 4 t.body.bytes.length := rfl
  rw [lengthField, field, ofMsb_msbBits]
  omega

/-- A telegram's bits, unstuffed, are classed as that telegram. -/
theorem Telegram.classify_fields {t : Telegram} (wf : t.wf = true) : classify t.fields = .good t := by
  have few := t.body.bytes_few
  obtain ⟨low, high⟩ := t.body.kindCode_known
  have length : t.fields.length = 16 + 8 * t.body.bytes.length + 16 := by
    rw [← t.fields_eq, List.length_append, t.bodyBits_length, msbBits_length]
  have covered : t.fields.take (16 + 8 * t.body.bytes.length) = t.bodyBits := by
    rw [← t.fields_eq, List.take_left' t.bodyBits_length]
  have check : t.fields.drop (16 + 8 * t.body.bytes.length) = msbBits 16 (crc t.bodyBits) := by
    rw [← t.fields_eq, List.drop_left' t.bodyBits_length]
  have cls : t.fields.take 2 = msbBits 2 t.cls.toNat := rfl
  have src : (t.fields.drop 2).take 6 = msbBits 6 t.src.toNat := rfl
  have kind : (t.fields.drop 8).take 4 = msbBits 4 t.body.kindCode := rfl
  have payload : t.bodyBits.drop 16 = t.body.bytes.flatMap (msbBits 8) := rfl
  have crc16 : crc t.bodyBits % 2 ^ 16 = crc t.bodyBits := Nat.mod_eq_of_lt (crc_lt _)
  have code : t.body.kindCode % 2 ^ 4 = t.body.kindCode := Nat.mod_eq_of_lt (by omega)
  have read_cls : BitVec.ofNat 2 (t.cls.toNat % 2 ^ 2) = t.cls := field_read (by have := t.cls.isLt; omega)
  have read_src : BitVec.ofNat 6 (t.src.toNat % 2 ^ 6) = t.src := field_read (by have := t.src.isLt; omega)
  unfold classify
  dsimp only
  rw [t.lengthField_fields, if_neg (by omega), if_neg (by simp [lengthBad, t.lengthField_fields, few]),
    if_neg (by omega), check, covered, ofMsb_msbBits, crc16, if_neg (by simp), kind, ofMsb_msbBits, code,
    if_neg (by omega), payload, bytesOf_flatMap t.body.bytes_lt, payloadOf_bytes, cls, src, ofMsb_msbBits, ofMsb_msbBits,
    read_cls, read_src]
  exact if_pos wf

/-- Settles O23: `unstuff_stuff`, then the fields one by one. -/
theorem telegramReceivedAsSent : Obligations.TelegramReceivedAsSent := by
  intro t wf
  unfold receive Telegram.frame
  rw [unstuff_stuff _ _ _ (by decide), t.fields_eq]
  exact (if_pos rfl).trans (Telegram.classify_fields wf)

end Sys2Proof
end

/-! ## Offers to the transmit queue (R54 to R56) -/

section
namespace Sys2Proof.Machine

theorem collapsesInto_iff (body : Payload) (e : TxEntry) : collapsesInto body e = true ↔
    (∃ p q, body = .state p ∧ e.body = .state q) ∨
      ∃ p q, body = .call p ∧ e.body = .call q ∧ p.source = q.source := by
  unfold collapsesInto
  cases body <;> cases e.body <;> simp

/-- Two entries into which one body collapses would collapse into each other. -/
theorem collapsesInto_both {body : Payload} {a b : TxEntry} (ha : collapsesInto body a = true)
    (hb : collapsesInto body b = true) : collapsesInto a.body b = true := by
  rw [collapsesInto_iff] at ha hb ⊢
  rcases ha with ⟨p, q, rfl, isA⟩ | ⟨p, q, rfl, isA, same⟩
  · rcases hb with ⟨_, q', _, isB⟩ | ⟨_, _, is, _⟩
    · exact .inl ⟨q, q', isA, isB⟩
    · exact absurd is (by simp)
  · rcases hb with ⟨_, _, is, _⟩ | ⟨p', q', is, isB, same'⟩
    · exact absurd is (by simp)
    · obtain rfl := Payload.call.inj is
      exact .inr ⟨q, q', isA, isB, same.symm.trans same'⟩

theorem collapsesInto_symm {a b : TxEntry} (h : collapsesInto a.body b = true) : collapsesInto b.body a = true := by
  rw [collapsesInto_iff] at h ⊢
  rcases h with ⟨p, q, isA, isB⟩ | ⟨p, q, isA, isB, same⟩
  · exact .inl ⟨q, p, isB, isA⟩
  · exact .inr ⟨q, p, isB, isA, same.symm⟩

/-- In an ordered queue at most one entry takes a given body (R55). -/
theorem State.QueueOrdered.collapses_unique {s : State} (h : s.QueueOrdered) {body : Payload} {a b : TxEntry}
    (ma : a ∈ s.lc.queue) (mb : b ∈ s.lc.queue) (ha : collapsesInto body a = true) (hb : collapsesInto body b = true) :
    a = b := by
  by_contra apart
  have symmetric : Std.Symm fun a b : TxEntry => a.age ≠ b.age ∧ collapsesInto a.body b = false :=
    ⟨fun x y ⟨age, collapse⟩ => ⟨age.symm, Bool.eq_false_iff.2 fun back => by
      rw [collapsesInto_symm back] at collapse
      exact Bool.noConfusion collapse⟩⟩
  have both := h.2.1.forall ma mb apart
  rw [collapsesInto_both ha hb] at both
  exact Bool.noConfusion both.2

theorem eraseP_perm_erase {α : Type} [DecidableEq α] {p : α → Bool} {l : List α} {x : α} (m : x ∈ l) (px : p x = true)
    (only : ∀ y ∈ l, p y = true → y = x) : (l.eraseP p).Perm (l.erase x) := by
  obtain ⟨y, before, after, -, py, is, erased⟩ := List.exists_of_eraseP m px
  have same : y = x := only y (by rw [is]; simp) py
  subst same
  have middle : (before ++ y :: after).Perm (y :: (before ++ after)) := List.perm_middle
  have erasing := middle.erase y
  rw [List.erase_cons_head] at erasing
  rw [erased, is]
  exact erasing.symm

/-! ### The entry given up (R56) -/

theorem TxEntry.before_iff (a b : TxEntry) :
    a.before b = true ↔ a.cls < b.cls ∨ (a.cls = b.cls ∧ a.age < b.age) := by
  simp [TxEntry.before]

theorem TxEntry.before_trans {a b c : TxEntry} (h : a.before b = true) (k : b.before c = true) : a.before c = true := by
  rw [TxEntry.before_iff] at *
  omega

theorem TxEntry.before_irrefl (a : TxEntry) : a.before a = false := by
  simp [TxEntry.before]

theorem victim_none {q : List TxEntry} (h : victim q = none) : ∀ e ∈ q, e.onLine = true := by
  induction q with
  | nil => simp
  | cons x rest ih =>
    unfold victim at h
    cases chosen : victim rest with
    | some v =>
      rw [chosen] at h
      dsimp only at h
      split at h <;> exact absurd h (by simp)
    | none =>
      rw [chosen] at h
      dsimp only at h
      intro e m
      rcases List.mem_cons.1 m with rfl | m
      · by_contra off
        rw [if_neg off] at h
        exact absurd h (by simp)
      · exact ih chosen e m

/-- No entry off the line comes after the one given up. -/
theorem victim_last {q : List TxEntry} {w : TxEntry} (h : victim q = some w) :
    w.onLine = false ∧ ∀ e ∈ q, e.onLine = false → w.before e = false := by
  induction q generalizing w with
  | nil => exact absurd h (by simp [victim])
  | cons x rest ih =>
    unfold victim at h
    cases chosen : victim rest with
    | none =>
      have online := victim_none chosen
      rw [chosen] at h
      dsimp only at h
      split at h
      · exact absurd h (by simp)
      · rename_i off
        obtain rfl := Option.some.inj h
        refine ⟨by simpa using off, fun e m offE => ?_⟩
        rcases List.mem_cons.1 m with rfl | m
        · exact TxEntry.before_irrefl _
        · rw [online e m] at offE
          exact Bool.noConfusion offE
    | some v =>
      obtain ⟨offV, last⟩ := ih chosen
      rw [chosen] at h
      dsimp only at h
      split at h
      · rename_i later
        rw [Bool.and_eq_true] at later
        obtain rfl := Option.some.inj h
        refine ⟨by simpa using later.1, fun e m offE => ?_⟩
        rcases List.mem_cons.1 m with rfl | m
        · exact TxEntry.before_irrefl _
        · refine Bool.eq_false_iff.2 fun before => ?_
          have := TxEntry.before_trans later.2 before
          rw [last e m offE] at this
          exact Bool.noConfusion this
      · rename_i earlier
        obtain rfl := Option.some.inj h
        refine ⟨offV, fun e m offE => ?_⟩
        rcases List.mem_cons.1 m with rfl | m
        · refine Bool.eq_false_iff.2 fun before => earlier ?_
          rw [offE, before]
          rfl
        · exact last e m offE

/-- The entry given up is the youngest of the least urgent class that is off the line. -/
theorem victim_eq {q : List TxEntry} {v : TxEntry} (m : v ∈ q) (off : v.onLine = false)
    (last : ∀ e ∈ q, e.onLine = true ∨ e = v ∨ e.cls < v.cls ∨ (e.cls = v.cls ∧ e.age < v.age)) : victim q = some v := by
  cases chosen : victim q with
  | none =>
    rw [victim_none chosen v m] at off
    exact Bool.noConfusion off
  | some w =>
    obtain ⟨offW, lastW⟩ := victim_last chosen
    rcases last w (victim_mem chosen) with on | rfl | before
    · rw [on] at offW
      exact Bool.noConfusion offW
    · rfl
    · have := lastW v m off
      rw [(w.before_iff v).2 before] at this
      exact Bool.noConfusion this

/-! ### The decision -/

theorem LineController.offer_collapsed {lc : LineController} {body : Payload} {cls : Nat} {e : TxEntry}
    (m : e ∈ lc.queue) (collapses : collapsesInto body e = true)
    (only : ∀ x ∈ lc.queue, collapsesInto body x = true → x = e) :
    lc.offer true body cls = ({ lc with queue := insertEntry (e.collapse body cls) (lc.queue.eraseP (collapsesInto body)) },
      .collapsed) := by
  have found : lc.queue.find? (collapsesInto body) = some e := by
    cases is : lc.queue.find? (collapsesInto body) with
    | none => exact absurd collapses (List.find?_eq_none.1 is e m)
    | some x => rw [only x (List.mem_of_find?_eq_some is) (List.find?_some is)]
  unfold LineController.offer
  rw [found]
  rfl

theorem LineController.offer_apart_of {lc : LineController} {body : Payload}
    (apart : ∀ e ∈ lc.queue, collapsesInto body e = false) (cls : Nat) :
    lc.offer true body cls =
      let joining : TxEntry := ⟨body, cls, lc.nextAge, 0, false, false⟩
      if lc.queue.length < 8 then
        ({ lc with queue := insertEntry joining lc.queue, nextAge := lc.nextAge + 1 }, .entered)
      else
        match victim lc.queue with
        | some v =>
          if cls < v.cls then
            ({ lc with
                queue := insertEntry joining (lc.queue.eraseP (· = v))
                nextAge := lc.nextAge + 1
                queueDiscard := true }, .entered)
          else ({ lc with queueDiscard := true }, .discarded)
        | none => ({ lc with queueDiscard := true }, .discarded) := by
  have none_ : lc.queue.find? (collapsesInto body) = none := List.find?_eq_none.2 fun e m => by simp [apart e m]
  unfold LineController.offer
  rw [none_]
  rfl

/-- Settles O24: the branches of `LineController.offer`. -/
theorem offerDecided : Obligations.OfferDecided := by
  refine ⟨collapsesInto_iff, fun s body cls bounded ordered => ⟨fun shut => ?_, fun run named => ⟨?_, ?_, ?_⟩⟩⟩
  · have closed : s.offersOpen = false := by
      unfold State.offersOpen
      rcases shut with stopped | unnamed
      · rw [stopped]; rfl
      · rw [unnamed]; simp
    rw [closed]
    rfl
  all_goals
    have opens : s.offersOpen = true := by simp [State.offersOpen, run, named]
    rw [opens]
  · intro e m collapses
    have only (x : TxEntry) (mx : x ∈ s.lc.queue) (hx : collapsesInto body x = true) : x = e :=
      ordered.collapses_unique mx m hx collapses
    rw [LineController.offer_collapsed m collapses only]
    exact ⟨rfl, rfl, (insertEntry_perm _ _).trans ((eraseP_perm_erase m collapses only).cons _)⟩
  · intro apart few
    rw [LineController.offer_apart_of apart]
    dsimp only
    rw [if_pos few]
    exact ⟨rfl, rfl, insertEntry_perm _ _⟩
  · intro apart full v m off last
    rw [LineController.offer_apart_of apart]
    dsimp only
    rw [if_neg (by omega), victim_eq m off last]
    dsimp only
    split
    · rename_i urgent
      exact ⟨rfl, fun _ => ⟨rfl, (insertEntry_perm _ _).trans
        ((eraseP_perm_erase m (by simp) fun x _ h => by simpa using h).cons _)⟩, fun h => absurd urgent (by omega)⟩
    · rename_i urgent
      exact ⟨rfl, fun h => absurd h urgent, fun _ => ⟨rfl, rfl⟩⟩

end Sys2Proof.Machine
end

/-! ## Isolation, restore and the start of a walk test, as the host asks for them -/

section
namespace Sys2Proof.Machine

theorem State.respond_reportIf_report (s : State) (r : Response) (c : Bool) (j k : ReportKind) (a b d e : Nat) :
    (((s.respond r).reportIf c j a b).report k d e).ap.reports = ((s.reportIf c j a b).report k d e).ap.reports := by
  cases c <;> rfl

theorem exec_isolate {s : State} {c : Byte} (hears : s.listens = true) (run : s.running = true) :
    exec (.isolate c) s = .next
      (if 15 < c.toNat then s.respond .errRange
      else if (s.channel c.toNat).cfg.kind = .unused ∨ (s.channel c.toNat).state = .alarm then s.respond (.errState .none)
      else if (s.channel c.toNat).state = .isolated then s.respond .ok
      else (settle s (s.isolateChannel c.toNat) none []).respond .ok) := by
  simp only [exec, execIsolate, State.request_taken hears (State.portBar_change run), Bool.or_eq_true, decide_eq_true_eq]
  split
  · rfl
  · split
    · rfl
    · split <;> rfl

theorem exec_restore {s : State} {c : Byte} (hears : s.listens = true) (run : s.running = true) :
    exec (.restore c) s = .next
      (if 15 < c.toNat then s.respond .errRange
      else if (s.channel c.toNat).cfg.kind = .unused ∨ (s.channel c.toNat).state ≠ .isolated then
        s.respond (.errState .none)
      else (settle s (s.restoreChannel c.toNat) none []).respond .ok) := by
  simp only [exec, execRestore, State.request_taken hears (State.portBar_change run), Bool.or_eq_true, decide_eq_true_eq,
    bne_iff_ne]
  split
  · rfl
  · split <;> rfl

/-- Settles O17: the branches of the two requests, and what follows a channel's record by `settle_consequent`. -/
theorem isolateAndRestore : Obligations.IsolateAndRestore := by
  intro s c run hears
  rw [exec_isolate hears run, exec_restore hears run]
  refine ⟨fun high => ?_, fun low barred => ?_, fun low used isolated => ?_, fun low used calm active => ?_,
    fun low barred => ?_, fun low used isolated => ⟨(s.channel c.toNat).refill, rfl, ?_⟩⟩
  · rw [if_pos (by omega), if_pos (by omega)]
    exact ⟨rfl, rfl⟩
  · rw [if_neg (by omega), if_pos barred]
  · rw [if_neg (by omega), if_neg (by simp [used, isolated]), if_pos isolated]
  · rw [Completes, exec_isolate hears run, if_neg (by omega), if_neg (by simp [used, calm]), if_neg active]
    have owner : Consequent (s.setChannel c.toNat (s.channel c.toNat).isolate) (s.isolateChannel c.toNat) :=
      ((State.reportIf_callConsequent _ _ _ _ _).trans (State.report_callConsequent _ _ _ _)).consequent
    have follows := settle_consequent s (s.isolateChannel c.toNat) none []
    have reports := settle_extends s (s.isolateChannel c.toNat) none []
    generalize settle s (s.isolateChannel c.toNat) none [] = t at follows reports
    refine ⟨_, rfl, (owner.trans follows).respond .ok, ?_⟩
    rw [State.respond_reportIf_report]
    exact reports
  · rw [if_neg (by omega), if_pos barred]
  · rw [Completes, exec_restore hears run, if_neg (by omega), if_neg (by simp [used, isolated])]
    have owner : Consequent (s.setChannel c.toNat ((s.channel c.toNat).restore s.now)) (s.restoreChannel c.toNat) :=
      (State.report_callConsequent _ _ _ _).consequent
    have follows := settle_consequent s (s.restoreChannel c.toNat) none []
    have reports := settle_extends s (s.restoreChannel c.toNat) none []
    generalize settle s (s.restoreChannel c.toNat) none [] = t at follows reports
    exact ⟨_, rfl, (owner.trans follows).respond .ok, reports⟩

/-! ### The start of a walk test (R35) -/

theorem exec_walkStart {s : State} {min : Byte} (hears : s.listens = true) (run : s.running = true) :
    exec (.walkStart min) s = .next
      (if min.toNat = 0 ∨ 60 < min.toNat then s.respond .errRange
      else if s.ru.f ≠ 15 then s.respond (.errState .none)
      else if s.fl.walkActive = true then (s.extendWalk min.toNat).respond .ok
      else if s.fl.gallery ≠ .quiet then s.respond (.errState .none)
      else (settle s (s.beginWalk min.toNat) none []).respond .ok) := by
  simp only [exec, execWalkStart, State.request_taken hears (State.portBar_change run), bne_iff_ne]
  split
  · rfl
  · split
    · rfl
    · split
      · rfl
      · split <;> rfl

/-- Settles O20, row by row of R35's table. -/
theorem walkStartDecided : Obligations.WalkStartDecided := by
  intro s min hears
  refine ⟨fun stopped => ?_, fun run range => ?_, fun run low high =>
    ⟨fun idle quiet far => ?_, fun idle barred => ?_, fun active far => ?_, fun active near => ?_⟩⟩
  · simp only [exec, execWalkStart, State.request_barred hears (State.portBar_before_run stopped)]
  · rw [exec_walkStart hears run, if_pos (by omega)]
  · rw [Completes, exec_walkStart hears run, if_neg (by omega), if_neg (by simp [far]), if_neg (by simp [idle]),
      if_neg (by simp [quiet])]
    have owner : Consequent s (s.beginWalk min.toNat) := .of_fire s _ (State.report_extends _ _ _ _)
    have follows := settle_consequent s (s.beginWalk min.toNat) none []
    have reports := settle_extends s (s.beginWalk min.toNat) none []
    have kept := settle_keeps_walk (old := s) (s := s.beginWalk min.toNat) rfl rfl none []
    generalize settle s (s.beginWalk min.toNat) none [] = t at follows reports kept
    obtain ⟨active, timer, tested, recorded⟩ := kept
    exact ⟨_, rfl, (owner.trans follows).respond .ok, active, timer, tested, recorded, reports⟩
  · rw [exec_walkStart hears run, if_neg (by omega)]
    by_cases far : s.ru.f = 15
    · rw [if_neg (by simp [far]), if_neg (by simp [idle]), if_pos (barred.resolve_right (by omega))]
    · rw [if_pos far]
  · rw [exec_walkStart hears run, if_neg (by omega), if_neg (by simp [far]), if_pos active]
    rfl
  · rw [exec_walkStart hears run, if_neg (by omega), if_pos (by omega)]

end Sys2Proof.Machine
end

/-! ## The fire reset (R32 to R34, R67) -/

section
namespace Sys2Proof.Machine

/-! ### What a reset does to channels and slots -/

theorem Channel.fireReset_eq (ch : Channel) : ch.fireReset =
    if ch.state ∈ [ChannelState.prealarm, .verify, .alarm, .refill] then
      { ch with
        faultInAlarm := false
        state := if ch.settled = true then .refill else .settle
        sampleCount := 0
        ring := []
        hold := none
        verify := 0 }
    else { ch with faultInAlarm := false } := by
  cases state : ch.state <;> simp only [Channel.fireReset, state] <;> rfl

theorem Channel.fireReset_far (ch : Channel) : ch.fireReset.nearAlarm = false := by
  unfold Channel.fireReset Channel.refill Channel.nearAlarm
  cases ch.state <;> cases ch.settled <;> simp

/-- R67: a slot whose held values are cleared. -/
def Slot.cleared (k : Slot) : Slot :=
  if k.id ≠ 0 ∧ k.presence = .silent then { k with fire := .quiet, f := 15 } else k

/-- R67: one slot of `clearHeld`. -/
def State.clearHeldAt (s : State) (k : Nat) : State :=
  if (s.slot k).silent && !((s.slot k).fire = .quiet && (s.slot k).f = 15) then
    (s.setSlot k { s.slot k with fire := .quiet, f := 15 }).report .neighbourCleared k (s.slot k).fire.code
  else s

theorem State.clearHeld_eq (s : State) : s.clearHeld = s.forEach 8 State.clearHeldAt := rfl

theorem Slot.cleared_silent {k : Slot} (silent : k.silent = true) : k.cleared = { k with fire := .quiet, f := 15 } := by
  refine if_pos ?_
  simpa [Slot.silent, Slot.used] using silent

theorem Slot.cleared_same {k : Slot} (h : (k.silent && !(k.fire = .quiet && k.f = 15)) = false) : k.cleared = k := by
  by_cases silent : k.silent = true
  · rw [Slot.cleared_silent silent]
    have values : k.fire = .quiet ∧ k.f = 15 := by simpa [silent] using h
    obtain ⟨fire, f⟩ := values
    cases k
    simp_all
  · refine if_neg fun is => silent ?_
    simpa [Slot.silent, Slot.used] using is

theorem State.clearHeldAt_slots (s : State) (k : Nat) : (s.clearHeldAt k).nt.slots = s.nt.slots.set k (s.slot k).cleared := by
  unfold State.clearHeldAt
  split
  · rename_i h
    rw [Slot.cleared_silent (Bool.and_eq_true_iff.1 h).1]
    rfl
  · rename_i h
    rw [Slot.cleared_same (Bool.eq_false_iff.2 h)]
    unfold State.slot
    by_cases low : k < s.nt.slots.length
    · rw [List.getD_eq_getElem _ _ low, List.set_getElem_self]
    · rw [List.set_eq_of_length_le (by omega)]

theorem State.slot_of_set {s t : State} {k : Nat} {v : Slot} (slots : t.nt.slots = s.nt.slots.set k v)
    (low : k < s.nt.slots.length) (i : Nat) : t.slot i = if i = k then v else s.slot i := by
  unfold State.slot
  rw [slots, List.getD_eq_getElem?_getD, List.getElem?_set]
  by_cases same : i = k
  · simp [same, low]
  · simp [same, Ne.symm same]

theorem forEach_clearHeldAt (s : State) {n : Nat} (low : n ≤ s.nt.slots.length) :
    (s.forEach n State.clearHeldAt).nt.slots.length = s.nt.slots.length ∧
      ∀ i, (s.forEach n State.clearHeldAt).slot i = if i < n then (s.slot i).cleared else s.slot i := by
  induction n with
  | zero => exact ⟨rfl, fun i => by simp [State.forEach]⟩
  | succ n ih =>
    obtain ⟨length, slots⟩ := ih (by omega)
    rw [State.forEach_succ]
    refine ⟨by rw [State.clearHeldAt_slots, List.length_set, length], fun i => ?_⟩
    rw [State.slot_of_set (State.clearHeldAt_slots _ n) (by omega), slots, slots]
    by_cases same : i = n
    · simp [same]
    · have step : i < n + 1 ↔ i < n := by omega
      simp [same, step]

theorem State.clearHeld_slots {s : State} (len : s.nt.slots.length = 8) :
    s.clearHeld.nt.slots = s.nt.slots.map Slot.cleared := by
  obtain ⟨length, slots⟩ := forEach_clearHeldAt s (n := 8) (by omega)
  rw [← State.clearHeld_eq] at length slots
  refine List.ext_getElem (by rw [length, List.length_map]) fun i low low' => ?_
  have here : i < s.nt.slots.length := by omega
  have slot := slots i
  rw [if_pos (by omega)] at slot
  unfold State.slot at slot
  rw [List.getD_eq_getElem _ _ low, List.getD_eq_getElem _ _ here] at slot
  rw [slot, List.getElem_map]

/-- R67: each slot that a clearing changes is reported. -/
theorem forEach_clearHeldAt_reported (s : State) {n : Nat} (low : n ≤ s.nt.slots.length) {k : Nat} (here : k < n)
    (silent : (s.slot k).silent = true) (holds : (s.slot k).fire ≠ .quiet ∨ (s.slot k).f ≠ 15) :
    Reported s .neighbourCleared k (s.slot k).fire.code (s.forEach n State.clearHeldAt) := by
  have one (u : State) (i : Nat) : Extends u.ap.reports (u.clearHeldAt i).ap.reports ∧ (u.clearHeldAt i).now = u.now := by
    unfold State.clearHeldAt
    split
    · exact ⟨State.report_extends (u.setSlot _ _) _ _ _, rfl⟩
    · exact ⟨.refl _, rfl⟩
  induction n with
  | zero => omega
  | succ n ih =>
    rw [State.forEach_succ]
    by_cases last : k = n
    · subst last
      have slot := (forEach_clearHeldAt s (n := k) (by omega)).2 k
      rw [if_neg (by omega)] at slot
      have before := State.forEach_extends (f := State.clearHeldAt) (fun u i => (one u i).1) k s
      generalize s.forEach k State.clearHeldAt = u at slot before ⊢
      have taken : ((u.slot k).silent && !((u.slot k).fire = .quiet && (u.slot k).f = 15)) = true := by
        rw [slot, silent]
        rcases holds with h | h <;> simp [h]
      have form : u.clearHeldAt k = (u.setSlot k { u.slot k with fire := .quiet, f := 15 }).report .neighbourCleared k
          (u.slot k).fire.code := if_pos taken
      rw [form, slot]
      exact ⟨u.ap.reports, before, .refl _⟩
    · exact (ih (by omega) (by omega)).through (.refl _) (one _ n).1 (one _ n).2

theorem State.clearHeld_reported {s : State} (len : s.nt.slots.length = 8) {k : Nat} (low : k < 8)
    (silent : (s.slot k).silent = true) (holds : (s.slot k).fire ≠ .quiet ∨ (s.slot k).f ≠ 15) :
    Reported s .neighbourCleared k (s.slot k).fire.code s.clearHeld :=
  forEach_clearHeldAt_reported s (by omega) low silent holds

/-! ### An accepted reset -/

/-- With no channel in or near alarm the gallery is what the slots alone give (R29). -/
theorem State.derivedState_far {s : State} (calm : ∀ ch ∈ s.ds.channels, ch.inAlarm = false)
    (far : ∀ ch ∈ s.ds.channels, ch.nearAlarm = false) :
    s.derivedState = if s.nt.slots.any (fun k => decide (k.offeredFire = .fire)) then .caution else .quiet := by
  have zero : s.smokeAlarms = 0 := List.countP_eq_zero.2 fun ch mem => by rw [calm ch mem]; exact nofun
  have noAlarm : s.ds.channels.any (·.inAlarm) = false := List.any_eq_false.2 fun ch mem => by simp [calm ch mem]
  have noNear : s.ds.channels.any (·.nearAlarm) = false := List.any_eq_false.2 fun ch mem => by simp [far ch mem]
  unfold State.derivedState
  rw [zero, if_neg (by decide), noAlarm, noNear]
  rfl

/-- What an accepted fire reset leaves, `slots` being those it leaves and `u` the state it finds (R33). -/
structure ResetTaken (u v : State) (slots : List Slot) (source target : Nat) : Prop where
  record : ∃ fl r, v = { u with
    fl := fl
    ds := { u.ds with channels := u.ds.channels.map .fireReset }
    nt := { u.nt with slots := slots, latch := none }
    ap := { u.ap with reports := r } }
  queue : Extends u.ap.reports v.ap.reports
  reported : Reported u .fireReset target source v
  gallery : v.fl.gallery = if slots.any (fun k => decide (k.offeredFire = .fire)) then .caution else .quiet
  cause : v.fl.cause = ⟨.none, none, none, none⟩
  confirm : v.fl.confirm = none
  walk : v.fl.walkActive = false
  ended : u.fl.walkActive = true → Reports u .walkEnd 4 (bitsToNat u.fl.tested) v ∧ v.fl.walkTimer = none ∧
    v.fl.tested = List.replicate 16 false ∧ v.fl.lastRecorded = List.replicate 16 none
  stays : u.fl.walkActive = false →
    v.fl.walkTimer = u.fl.walkTimer ∧ v.fl.tested = u.fl.tested ∧ v.fl.lastRecorded = u.fl.lastRecorded

/-- R33's list up to the clearing of the silence latch. -/
def State.resetStart (u : State) : State :=
  let s1 := u.setDs { u.ds with channels := u.ds.channels.map .fireReset }
  ((s1.setFl { s1.fl with confirm := none, cause := .clear }).endWalk .reset).clearLatch .reset

/-- The end of R33's list: the gallery fire state, and the report. -/
def State.resetEnd (w : State) (source target : Nat) : State :=
  (w.setGallery w.derivedState).report .fireReset target source

theorem State.acceptReset_eq (u : State) (source target : Nat) (clears : Bool) :
    u.acceptReset source target clears =
      State.resetEnd (if clears then u.resetStart.clearHeld else u.resetStart) source target := rfl

/-- What R33's list does up to the silence latch: the walk test, if active, ends first. -/
structure ResetStarted (u w : State) : Prop where
  record : ∃ fl r, w = { u with
    fl := fl
    ds := { u.ds with channels := u.ds.channels.map .fireReset }
    nt := { u.nt with latch := none }
    ap := { u.ap with reports := r } }
  queue : Extends u.ap.reports w.ap.reports
  cause : w.fl.cause = ⟨.none, none, none, none⟩
  confirm : w.fl.confirm = none
  walk : w.fl.walkActive = false
  ended : u.fl.walkActive = true → Reports u .walkEnd 4 (bitsToNat u.fl.tested) w ∧ w.fl.walkTimer = none ∧
    w.fl.tested = List.replicate 16 false ∧ w.fl.lastRecorded = List.replicate 16 none
  stays : u.fl.walkActive = false →
    w.fl.walkTimer = u.fl.walkTimer ∧ w.fl.tested = u.fl.tested ∧ w.fl.lastRecorded = u.fl.lastRecorded

theorem State.resetStart_started (u : State) : ResetStarted u u.resetStart := by
  unfold State.resetStart
  dsimp only
  generalize form : (u.setDs { u.ds with channels := u.ds.channels.map .fireReset }).setFl
    { (u.setDs { u.ds with channels := u.ds.channels.map .fireReset }).fl with confirm := none, cause := .clear } = x
  have same : x.fl.walkActive = u.fl.walkActive := by rw [← form]; rfl
  have reports : x.ap.reports = u.ap.reports := by rw [← form]; rfl
  have queue := x.endWalk_extends .reset
  have first (active : x.fl.walkActive = true) := State.endWalk_reports active .reset
  have ended (active : x.fl.walkActive = true) := State.endWalk_active active .reset
  have stays (inactive : x.fl.walkActive = false) := State.endWalk_inactive inactive .reset
  obtain ⟨_, _, _, _, _, walked⟩ := x.endWalk_changes .reset
  generalize x.endWalk .reset = y at queue first ended stays walked ⊢
  have latchQueue := y.clearLatch_extends .reset
  have latch := State.clearLatch_latch y .reset
  obtain ⟨_, _, unlatched⟩ := y.clearLatch_changes .reset
  generalize y.clearLatch .reset = w at latchQueue latch unlatched ⊢
  have fl : w.fl = y.fl := by rw [unlatched]
  refine ⟨?_, reports ▸ queue.trans latchQueue, ?_, ?_, ?_, fun active => ?_, fun inactive => ?_⟩
  · rw [unlatched, walked, ← form] at latch ⊢
    obtain rfl : _ = none := latch
    exact ⟨_, _, rfl⟩
  · rw [fl, walked, ← form]
    rfl
  · rw [fl, walked, ← form]
    rfl
  · rw [fl]
    cases active : x.fl.walkActive with
    | true => exact (ended active).1
    | false => rw [stays active, active]
  · have active' := same.trans active
    obtain ⟨-, timer, tested, recorded⟩ := ended active'
    refine ⟨?_, by rw [fl, timer], by rw [fl, tested], by rw [fl, recorded]⟩
    have walkEnd : Reports x .walkEnd 4 (bitsToNat x.fl.tested) w := (first active').trans latchQueue
    rw [← form] at walkEnd
    exact walkEnd
  · have inactive' := same.trans inactive
    rw [fl, stays inactive', ← form]
    exact ⟨rfl, rfl, rfl⟩

/-- With the channels calmed and the latch cleared, the last entries of R33's list. -/
theorem ResetStarted.taken {u x w : State} (h : ResetStarted u x) {slots : List Slot}
    (record : ∃ r, w = { x with nt := { x.nt with slots := slots }, ap := { x.ap with reports := r } })
    (queue : Extends x.ap.reports w.ap.reports) (source target : Nat) :
    ResetTaken u (w.resetEnd source target) slots source target := by
  obtain ⟨fl, r, started⟩ := h.record
  obtain ⟨r', held⟩ := record
  have channels : w.ds.channels = u.ds.channels.map .fireReset := by rw [held, started]
  have gallery := State.derivedState_far (s := w)
    (fun ch mem => by
      rw [channels] at mem
      obtain ⟨before, -, rfl⟩ := List.mem_map.1 mem
      exact before.fireReset_calm)
    (fun ch mem => by
      rw [channels] at mem
      obtain ⟨before, -, rfl⟩ := List.mem_map.1 mem
      exact before.fireReset_far)
  have wslots : w.nt.slots = slots := by rw [held]
  rw [wslots] at gallery
  have wfl : w.fl = x.fl := by rw [held]
  have now : w.now = u.now := by rw [held, started]
  have unsuspected : w.derivedState ≠ .suspect := by rw [gallery]; split <;> decide
  have stopped : (w.setGallery w.derivedState).fl.confirm = none := by
    rw [State.setGallery_confirm, if_neg unsuspected, wfl, h.confirm, ite_self]
  have galleryQueue := w.setGallery_extends w.derivedState
  obtain ⟨c, r'', changed⟩ := w.setGallery_changes w.derivedState
  unfold State.resetEnd
  generalize w.setGallery w.derivedState = y at stopped galleryQueue changed ⊢
  have lastQueue := y.report_extends .fireReset target source
  have fromStart : Extends x.ap.reports (y.report .fireReset target source).ap.reports :=
    queue.trans (galleryQueue.trans lastQueue)
  have yfl : y.fl = { x.fl with gallery := w.derivedState, confirm := c } := by rw [changed, wfl]
  refine ⟨?_, h.queue.trans fromStart, ⟨y.ap.reports, h.queue.trans (queue.trans galleryQueue), ?_⟩, ?_, ?_, stopped, ?_,
    fun active => ?_, fun inactive => ?_⟩
  · rw [changed, held, started]
    exact ⟨_, _, rfl⟩
  · have time : y.now = u.now := by rw [changed]; exact now
    refine .of_eq ?_
    show queueReport _ ⟨_, _, _, y.now / Config.second, _⟩ = queueReport _ ⟨_, _, _, y.now / Config.second, _⟩
    rfl
  · show y.fl.gallery = _
    rw [yfl]
    exact gallery
  · show y.fl.cause = _
    rw [yfl]
    exact h.cause
  · show y.fl.walkActive = _
    rw [yfl]
    exact h.walk
  · obtain ⟨first, timer, tested, recorded⟩ := h.ended active
    refine ⟨first.trans fromStart, ?_, ?_, ?_⟩
    · show y.fl.walkTimer = _
      rw [yfl]
      exact timer
    · show y.fl.tested = _
      rw [yfl]
      exact tested
    · show y.fl.lastRecorded = _
      rw [yfl]
      exact recorded
  · obtain ⟨timer, tested, recorded⟩ := h.stays inactive
    show y.fl.walkTimer = _ ∧ y.fl.tested = _ ∧ y.fl.lastRecorded = _
    rw [yfl]
    exact ⟨timer, tested, recorded⟩

theorem State.acceptReset_taken (u : State) (source target : Nat) :
    ResetTaken u (u.acceptReset source target false) u.nt.slots source target := by
  have started := u.resetStart_started
  obtain ⟨_, _, form⟩ := started.record
  refine started.taken (w := u.resetStart) ⟨u.resetStart.ap.reports, ?_⟩ (.refl _) source target
  have slots : u.resetStart.nt.slots = u.nt.slots := by rw [form]
  rw [← slots]

theorem State.acceptReset_cleared {u : State} (len : u.nt.slots.length = 8) (source target : Nat) :
    ResetTaken u (u.acceptReset source target true) (u.nt.slots.map Slot.cleared) source target ∧
      ∀ k < 8, (u.slot k).silent = true → (u.slot k).fire ≠ .quiet ∨ (u.slot k).f ≠ 15 →
        Reported u .neighbourCleared k (u.slot k).fire.code (u.acceptReset source target true) := by
  have started := u.resetStart_started
  obtain ⟨_, _, form⟩ := started.record
  have slots : u.resetStart.nt.slots = u.nt.slots := by rw [form]
  have now : u.resetStart.now = u.now := by rw [form]
  have slot (k : Nat) : u.resetStart.slot k = u.slot k := by unfold State.slot; rw [slots]
  have cleared := State.clearHeld_slots (s := u.resetStart) (by rw [slots]; exact len)
  have reported (k : Nat) (low : k < 8) := State.clearHeld_reported (s := u.resetStart) (by rw [slots]; exact len) low
  have held := u.resetStart.clearHeld_extends
  obtain ⟨v, changed⟩ := u.resetStart.clearHeld_changes
  rw [State.acceptReset_eq, if_pos rfl]
  rw [slots] at cleared
  generalize u.resetStart.clearHeld = w at cleared reported held changed ⊢
  have heldNow : w.now = u.now := by rw [changed]; exact now
  refine ⟨started.taken ⟨v.2, ?_⟩ held source target, fun k low silent holds => ?_⟩
  · rw [← cleared, changed]
  · rw [← slot k] at silent holds ⊢
    have kept : Extends w.ap.reports (w.resetEnd source target).ap.reports ∧ (w.resetEnd source target).now = w.now := by
      unfold State.resetEnd
      have galleryQueue := w.setGallery_extends w.derivedState
      obtain ⟨_, _, h⟩ := w.setGallery_changes w.derivedState
      generalize w.setGallery w.derivedState = y at galleryQueue h ⊢
      exact ⟨galleryQueue.trans (State.report_extends _ _ _ _), by rw [h]; rfl⟩
    exact (reported k low silent holds).through started.queue kept.1 kept.2

/-- A reset, settled: what R33 leaves stays, for nothing that the fire logic reads calls for anything else. -/
structure ResetSettled (u t : State) (slots : List Slot) (source target : Nat) : Prop where
  reported : Reported u .fireReset target source t
  follows : Consequent { u with
    ds := { u.ds with channels := u.ds.channels.map .fireReset }
    nt := { u.nt with slots := slots } } t
  gallery : t.fl.gallery = if slots.any (fun k => decide (k.offeredFire = .fire)) then .caution else .quiet
  cause : t.fl.cause = ⟨.none, none, none, none⟩
  confirm : t.fl.confirm = none
  latch : t.nt.latch = none
  walk : t.fl.walkActive = false
  ended : u.fl.walkActive = true → Reports u .walkEnd 4 (bitsToNat u.fl.tested) t ∧ t.fl.walkTimer = none ∧
    t.fl.tested = List.replicate 16 false ∧ t.fl.lastRecorded = List.replicate 16 none
  stays : u.fl.walkActive = false →
    t.fl.walkTimer = u.fl.walkTimer ∧ t.fl.tested = u.fl.tested ∧ t.fl.lastRecorded = u.fl.lastRecorded

theorem fireFollow_of_idle {old s : State} (settled : s.FireSettled) (idle : s.fl.walkActive = false) :
    fireFollow old s = s := by
  have walk : walkFollow old s = s := by
    unfold walkFollow
    rw [State.endWalk_inactive idle, State.endWalk_inactive idle, ite_self, ite_self]
  unfold fireFollow
  dsimp only
  rw [walk, State.evaluate_same settled.derived, ite_self]

theorem ResetTaken.settled {u v : State} {slots : List Slot} {source target : Nat} (h : ResetTaken u v slots source target)
    (settled : v.FireSettled) : ResetSettled u (settle u v none []) slots source target := by
  have fl : (settle u v none []).fl = v.fl := by rw [settle_fl, fireFollow_of_idle settled h.walk]
  have latch := settle_latch u v none []
  have follows := settle_consequent u v none []
  have queue := settle_extends u v none []
  have now := settle_now u v none []
  obtain ⟨vfl, r, record⟩ := h.record
  have unlatched : v.nt.latch = none := by rw [record]
  rw [unlatched] at latch
  generalize settle u v none [] = t at fl latch follows queue now ⊢
  have owner : Consequent { u with
      ds := { u.ds with channels := u.ds.channels.map .fireReset }
      nt := { u.nt with slots := slots } } v := by
    have offered := h.queue
    rw [record] at offered ⊢
    obtain ⟨offered, rfl⟩ := offered
    exact ⟨u.cl.phase, u.cl.listen, u.ds.drift, u.ds.rate, vfl, u.ru, [], u.lc.lastState, u.lc.refresh, none, u.doors,
      u.cc.calls, u.cc.serials, u.sd, u.dt, u.marker, offered, u.freeCount, rfl⟩
  refine ⟨h.reported.through (.refl _) queue now, owner.trans follows, by rw [fl, h.gallery], by rw [fl, h.cause],
    by rw [fl, h.confirm], latch.trans (ite_self _), by rw [fl, h.walk], fun active => ?_, fun inactive => ?_⟩
  · obtain ⟨first, timer, tested, recorded⟩ := h.ended active
    exact ⟨first.trans queue, by rw [fl, timer], by rw [fl, tested], by rw [fl, recorded]⟩
  · rw [fl]
    exact h.stays inactive

theorem State.decideReset_accepted {s : State} (points : s.activeFirePoint = none) (source target : Nat) (clears : Bool) :
    s.decideReset source target clears = s.acceptReset source target clears := by
  unfold State.decideReset
  rw [points]

theorem State.decideReset_refused {s : State} {p : Nat} (active : s.activeFirePoint = some p) (source target : Nat)
    (clears : Bool) : s.decideReset source target clears = s.report .resetRefused p source := by
  unfold State.decideReset
  rw [active]

/-- R32: the ORDER of a station, received at a node it may be meant for. -/
theorem exec_orderFireReset {s : State} {src : BitVec 6} {target : Byte} (a : s.awake = true) (r : s.receives = true)
    (source : wfSource src = true) (other : src.toNat ≠ s.nodeId) (low : 1 ≤ target.toNat) (high : target.toNat ≤ 63) :
    exec (.orderFireReset src target) s = .next (settle s
      (if s.addressed target.toNat then s.decideReset src.toNat target.toNat (decide (target.toNat = 63)) else s) none []) := by
  have row : exec (.orderFireReset src target) s = s.arrival src (.order ⟨5, target, 0⟩) := rfl
  rw [row, State.arrival_dispatched a r (orderPayload_wf (by decide) source low high) other]
  rfl

/-- R32: the host's reset. -/
theorem exec_fireReset {s : State} (hears : s.listens = true) (run : s.running = true) :
    exec .fireReset s = .next
      (if s.activeFirePoint.isSome then (settle s (s.decideReset 0 s.nodeId false) none []).respond .errActive
      else (settle s (s.decideReset 0 s.nodeId false) none []).respond .ok) := by
  simp only [exec, execFireReset, State.request_taken hears (State.portBar_change run)]
  split <;> rfl

theorem ResetSettled.respond {u t : State} {slots : List Slot} {source target : Nat}
    (h : ResetSettled u t slots source target) (r : Response) :
    ResetSettled (u.respond r) (t.respond r) slots source target :=
  ⟨h.reported, h.follows.respond r, h.gallery, h.cause, h.confirm, h.latch, h.walk, h.ended, h.stays⟩

/-- Settles O22: `ResetSettled` says what a settled reset leaves, for the host's request and for a station's ORDER. -/
theorem fireResetDecided : Obligations.FireResetDecided := by
  intro s src target shaped
  have channels : Channel.fireReset = _ := funext Channel.fireReset_eq
  dsimp only
  rw [← channels]
  refine ⟨fun hears run => ⟨fun p active => ?_, fun points => ?_⟩, fun awake receives source other low high =>
    ⟨fun own every => ?_, fun p active meant => ?_, fun points own every => ?_, fun points every => ?_⟩⟩
  · rw [exec_fireReset hears run, if_pos (by rw [active]; rfl), State.decideReset_refused active, settle_report]
  · rw [Completes, exec_fireReset hears run, if_neg (by rw [points]; exact Bool.false_ne_true),
      State.decideReset_accepted points]
    have done := ((s.acceptReset_taken 0 s.nodeId).settled (State.acceptReset_settled points 0 s.nodeId false).1).respond .ok
    generalize (settle s _ none []).respond .ok = t at done ⊢
    exact ⟨t, rfl, done.reported, done.follows, done.gallery, done.cause, done.confirm, done.latch, done.walk, done.ended,
      done.stays⟩
  · rw [exec_orderFireReset awake receives source other low high, if_neg (by rw [addressed_iff]; omega), settle_self]
  · rw [exec_orderFireReset awake receives source other low high, if_pos ((addressed_iff _ _).2 meant),
      State.decideReset_refused active, settle_report]
  · rw [Completes, exec_orderFireReset awake receives source other low high, if_pos ((addressed_iff _ _).2 (.inl own)),
      State.decideReset_accepted points, own, decide_eq_false (own ▸ every)]
    have done := (s.acceptReset_taken src.toNat s.nodeId).settled
      (State.acceptReset_settled points src.toNat s.nodeId false).1
    generalize settle s _ none [] = t at done ⊢
    exact ⟨t, rfl, done.reported, done.follows, done.gallery, done.cause, done.confirm, done.latch, done.walk, done.ended,
      done.stays⟩
  · rw [Completes, exec_orderFireReset awake receives source other low high, if_pos ((addressed_iff _ _).2 (.inr every)),
      State.decideReset_accepted points, every, decide_eq_true rfl]
    obtain ⟨taken, reported⟩ := State.acceptReset_cleared (u := s) shaped.slots src.toNat 63
    have done := taken.settled (State.acceptReset_settled points src.toNat 63 true).1
    have queue := settle_extends s (s.acceptReset src.toNat 63 true) none []
    have now := settle_now s (s.acceptReset src.toNat 63 true) none []
    generalize settle s _ none [] = t at done queue now ⊢
    refine ⟨t, rfl, ⟨done.reported, done.follows, done.gallery, done.cause, done.confirm, done.latch, done.walk, done.ended,
      done.stays⟩, fun k here used silent holds => ?_⟩
    exact (reported k here (by simp [Slot.silent, Slot.used, used, silent]) holds).through (.refl _) queue now

end Sys2Proof.Machine
end

/-! ## A STATE arrives (R64, R69, R71) -/

section
namespace Sys2Proof.Machine

/-! ### Adoption of a station's flags -/

theorem flagSubject_adopted (sender : Nat) : flagSubject sender true = 256 + sender := by
  unfold flagSubject pack bit
  simp

/-- The state with a station's flags adopted, where none have been heard. -/
def State.flagsAdopted (u : State) (p : StatePayload) : State :=
  { u with
    nt := { u.nt with
      mode := if u.nt.orderHeard = false ∧ p.role = .station then p.mode else u.nt.mode
      evacuate := if u.nt.orderHeard = false ∧ p.role = .station then p.evacuate else u.nt.evacuate
      orderHeard := if u.nt.orderHeard = false ∧ p.role = .station then true else u.nt.orderHeard } }

theorem State.adopt_ignored {u : State} {p : StatePayload} (h : ¬(u.nt.orderHeard = false ∧ p.role = .station)) (src : Nat) :
    u.adopt src p = u := by
  unfold State.adopt
  rw [if_neg (by simpa using h)]

theorem State.adopt_taken {u : State} {p : StatePayload} (h : u.nt.orderHeard = false ∧ p.role = .station) (src : Nat) :
    u.adopt src p = { u with
      nt := { u.nt with mode := p.mode, evacuate := p.evacuate, orderHeard := true }
      ap := { u.ap with
        reports := ((u.reportIf (u.nt.mode != p.mode) .buildingMode (256 + src) p.mode.code).reportIf
          (u.nt.evacuate != p.evacuate) .buildingEvacuate (256 + src) (bit p.evacuate)).ap.reports } } := by
  unfold State.adopt State.setEvacuate State.setMode State.hearOrder
  rw [if_pos (by simpa using h), flagSubject_adopted]
  cases u.nt.mode != p.mode <;> cases other : u.nt.evacuate != p.evacuate <;>
    simp only [setNt, State.reportIf, State.report, State.seconds, setAp, other, if_true, if_false, Bool.false_eq_true]

theorem State.adopt_flags (u : State) (src : Nat) (p : StatePayload) :
    CallConsequent (u.flagsAdopted p) (u.adopt src p) := by
  have queue := u.adopt_extends src p
  unfold State.flagsAdopted
  by_cases h : u.nt.orderHeard = false ∧ p.role = .station
  · simp only [if_pos h]
    rw [State.adopt_taken h] at queue ⊢
    exact .of_reports { u with nt := { u.nt with mode := p.mode, evacuate := p.evacuate, orderHeard := true } } queue
  · simp only [if_neg h]
    rw [State.adopt_ignored h]
    exact .refl _

/-- R71: the reports of an adoption. -/
theorem State.adopt_reported {u : State} {p : StatePayload} (h : u.nt.orderHeard = false ∧ p.role = .station) (src : Nat) :
    (p.mode ≠ u.nt.mode → Reported u .buildingMode (256 + src) p.mode.code (u.adopt src p)) ∧
      (p.evacuate ≠ u.nt.evacuate → Reported u .buildingEvacuate (256 + src) (bit p.evacuate) (u.adopt src p)) := by
  rw [State.adopt_taken h]
  refine ⟨fun changed => ?_, fun changed => ?_⟩
  · have is : (u.nt.mode != p.mode) = true := bne_iff_ne.2 (Ne.symm changed)
    rw [is]
    exact ⟨u.ap.reports, .refl _, State.reportIf_extends (u.reportIf true _ _ _) _ _ _ _⟩
  · have is : (u.nt.evacuate != p.evacuate) = true := bne_iff_ne.2 (Ne.symm changed)
    rw [is]
    obtain ⟨r, form⟩ := u.reportIf_changes (u.nt.mode != p.mode) .buildingMode (256 + src) p.mode.code
    have queue := u.reportIf_extends (u.nt.mode != p.mode) .buildingMode (256 + src) p.mode.code
    rw [form] at queue ⊢
    exact ⟨r, queue, .refl _⟩

/-! ### The slot of a source -/

theorem State.slotOf_none {s : State} {src : Nat} (len : s.nt.slots.length = 8) (other : ∀ k : Fin 8, (s.slot k).id ≠ src) :
    s.slotOf src = none := by
  refine List.findIdx?_eq_none_iff.2 fun k mem => ?_
  obtain ⟨i, low, rfl⟩ := List.getElem_of_mem mem
  have id := other ⟨i, by omega⟩
  unfold State.slot at id
  rw [List.getD_eq_getElem _ _ low] at id
  simp [id]

theorem State.slotOf_some {s : State} {src : Nat} (len : s.nt.slots.length = 8) (real : src ≠ 0) {k : Fin 8}
    (here : (s.slot k).id = src) (first : ∀ j : Fin 8, j < k → (s.slot j).id ≠ src) : s.slotOf src = some k.1 := by
  have low : k.1 < s.nt.slots.length := by omega
  refine List.findIdx?_eq_some_iff_getElem.2 ⟨low, ?_, fun j before => ?_⟩
  · unfold State.slot at here
    rw [List.getD_eq_getElem _ _ low] at here
    simp [Slot.used, here, real]
  · have id := first ⟨j, by omega⟩ before
    unfold State.slot at id
    rw [List.getD_eq_getElem _ _ (by omega)] at id
    simp [id]

/-! ### The arrival -/

theorem exec_stateArrival {s : State} {src : BitVec 6} {p : StatePayload} (a : s.awake = true) (r : s.receives = true)
    (source : wfSource src = true) (wf : p.wf = true) (other : src.toNat ≠ s.nodeId) :
    exec (.stateArrival src p) s = .next (settle s ((s.takeState src.toNat p).adopt src.toNat p)
      (s.testingPeer src.toNat (.state p)) []) := by
  have row : exec (.stateArrival src p) s = s.arrival src (.state p) := rfl
  rw [row, State.arrival_dispatched a r (by rw [source]; exact wf) other]
  rfl

/-- What a STATE taken into `w` leaves, with the adoption of its flags and what follows. -/
theorem settle_adopt (s w : State) (src : Nat) (p : StatePayload) (peer : Option Nat) :
    Consequent (w.flagsAdopted p) (settle s (w.adopt src p) peer []) ∧
      Extends w.ap.reports (settle s (w.adopt src p) peer []).ap.reports ∧
      (w.nt.orderHeard = false ∧ p.role = .station →
        (p.mode ≠ w.nt.mode → Reported w .buildingMode (256 + src) p.mode.code (settle s (w.adopt src p) peer [])) ∧
          (p.evacuate ≠ w.nt.evacuate →
            Reported w .buildingEvacuate (256 + src) (bit p.evacuate) (settle s (w.adopt src p) peer []))) := by
  have owner := w.adopt_flags src p
  have queue := w.adopt_extends src p
  have reported (h : w.nt.orderHeard = false ∧ p.role = .station) := State.adopt_reported h src
  generalize w.adopt src p = v at owner queue reported ⊢
  have follows := settle_consequent s v peer []
  have later := settle_extends s v peer []
  have now := settle_now s v peer []
  generalize settle s v peer [] = t at follows later now ⊢
  refine ⟨owner.consequent.trans follows, queue.trans later, fun h => ?_⟩
  obtain ⟨mode, evacuate⟩ := reported h
  exact ⟨fun changed => (mode changed).through (.refl _) later now,
    fun changed => (evacuate changed).through (.refl _) later now⟩

/-- Settles O31: the slot's report, then those of the flags, then what follows the arrival. -/
theorem stateArrives : Obligations.StateArrives := by
  intro s src p awake receives shaped source wf other
  have real : src.toNat ≠ 0 := fun zero => by
    have none_ : src = 0 := BitVec.eq_of_toNat_eq zero
    rw [none_] at source
    exact absurd source (by decide)
  have bits : (if p.evacuate = true then 1 else 0) = bit p.evacuate := by cases p.evacuate <;> rfl
  dsimp only
  rw [bits]
  refine ⟨fun none_ => ?_, fun k here first => ?_⟩
  · have taken : s.takeState src.toNat p = s := by
      unfold State.takeState
      rw [State.slotOf_none shaped.slots none_]
    rw [Completes, exec_stateArrival awake receives source wf other, taken]
    obtain ⟨follows, -, reported⟩ := settle_adopt s s src.toNat p (s.testingPeer src.toNat (.state p))
    generalize settle s _ _ [] = t at follows reported ⊢
    exact ⟨t, rfl, follows, reported⟩
  · have taken : s.takeState src.toNat p =
        (s.setSlot k ((s.slot k).take p s.now)).reportHeard k (s.slot k).presence p.fire := by
      unfold State.takeState
      rw [State.slotOf_some shaped.slots real here first]
    rw [Completes, exec_stateArrival awake receives source wf other, taken]
    have queue := (s.setSlot k ((s.slot k).take p s.now)).reportHeard_extends k (s.slot k).presence p.fire
    obtain ⟨r, form⟩ := (s.setSlot k ((s.slot k).take p s.now)).reportHeard_changes k (s.slot k).presence p.fire
    have heard (before : Presence) (is : (s.slot k).presence = before) :
        (s.setSlot k ((s.slot k).take p s.now)).reportHeard k (s.slot k).presence p.fire =
          (s.setSlot k ((s.slot k).take p s.now)).reportHeard k before p.fire := by rw [is]
    generalize (s.setSlot k ((s.slot k).take p s.now)).reportHeard k (s.slot k).presence p.fire = w at queue form heard ⊢
    obtain ⟨follows, later, reported⟩ := settle_adopt s w src.toNat p (s.testingPeer src.toNat (.state p))
    generalize settle s _ _ [] = t at follows later reported ⊢
    have nt : w.nt = (s.setSlot k ((s.slot k).take p s.now)).nt := by rw [form]
    have base : CallConsequent ((s.setSlot k ((s.slot k).take p s.now)).flagsAdopted p) (w.flagsAdopted p) := by
      rw [form]
      rw [form] at queue
      exact .of_reports ((s.setSlot k ((s.slot k).take p s.now)).flagsAdopted p) queue
    refine ⟨t, rfl, base.consequent.trans follows, fun adopts => ?_, fun absent => ?_, fun silent => ?_⟩
    · rw [nt] at reported
      obtain ⟨mode, evacuate⟩ := reported adopts
      exact ⟨fun changed => (mode changed).through queue (.refl _) rfl,
        fun changed => (evacuate changed).through queue (.refl _) rfl⟩
    · rw [heard .absent absent] at later
      exact later
    · rw [heard .silent silent] at later
      exact later

end Sys2Proof.Machine
end

/-! ## A transmission completes (R52, R58, R70, R139) -/

section
namespace Sys2Proof.Machine

/-- R52: the entry on the line leaves the queue, or stays off the line with its new contents. -/
theorem completeEntries_append {before after : List TxEntry} {e : TxEntry} (on : e.onLine = true)
    (off : ∀ x ∈ before, x.onLine = false) :
    completeEntries (before ++ e :: after) =
      before ++ (if e.replaced = true then [{ e with onLine := false, replaced := false, collisions := 0 }] else []) ++ after := by
  induction before with
  | nil =>
    show completeEntries (e :: after) = _
    unfold completeEntries
    rw [if_pos on]
    cases e.replaced <;> rfl
  | cons x before ih =>
    have here : x.onLine = false := off x List.mem_cons_self
    show completeEntries (x :: (before ++ e :: after)) = _
    unfold completeEntries
    rw [if_neg (by simp [here]), ih fun y mem => off y (List.mem_cons_of_mem _ mem)]
    rfl

/-- The line controller with the entry sent out of its queue, and what it reports, is what a completion leaves of itself. -/
def State.freed (s : State) (queue : List TxEntry) : State :=
  State.reportIf { s with lc := { s.lc with queue := queue, sending := none, collision := false } }
    s.lc.collision .collision 0xFFFF 0xFF00

theorem State.freed_changes (s : State) (queue : List TxEntry) : ∃ r, s.freed queue =
    { s with lc := { s.lc with queue := queue, sending := none, collision := false }, ap := { s.ap with reports := r } } :=
  State.reportIf_changes _ _ _ _ _

theorem exec_transmissionCompletion {s : State} {sent : Telegram} {before after : List TxEntry} {e : TxEntry}
    (a : s.awake = true) (sending : s.lc.sending = some sent) (queue : s.lc.queue = before ++ e :: after)
    (on : e.onLine = true) (off : ∀ x ∈ before, x.onLine = false) :
    exec .transmissionCompletion s = .next (settle s ((s.freed (before ++ (if e.replaced = true then
      [{ e with onLine := false, replaced := false, collisions := 0 }] else []) ++ after)).handCompletion sent.body) none []) := by
  have row : exec .transmissionCompletion s = s.event fun s =>
    match s.lc.sending with
    | some t => s.completeSending.handCompletion t.body
    | none => s := rfl
  rw [row, State.event_awake a, sending]
  refine congrArg (fun v : State => Host.Outcome.next (settle s (v.handCompletion sent.body) none [])) ?_
  unfold State.completeSending
  rw [queue, completeEntries_append on off]
  rfl

/-- Where only the line controller, the list and reports differ and no line condition is newly set, no other block acts. -/
theorem settle_freed {s w : State} {queue : List TxEntry}
    (h : ∃ refresh al, w = { s.freed queue with lc := { (s.freed queue).lc with refresh := refresh }, al := al }) :
    settle s w none [] = w := by
  obtain ⟨refresh, al, rfl⟩ := h
  obtain ⟨r, form⟩ := s.freed_changes queue
  rw [form]
  refine settle_idle ⟨rfl, rfl, rfl, rfl, rfl, rfl, rfl, rfl, rfl⟩ rfl fun fault => ?_
  simp only [State.hasFault, State.faultMembers, List.any_cons, List.any_nil, Bool.or_eq_true] at fault ⊢
  exact fault.imp id (.imp id (.imp id (.imp id (.imp id (.imp nofun id)))))

/-- R70: the node's own flag order, applied again at the completion. -/
theorem State.applyOwnOrder_flag {s : State} {code : Nat} {o : FlagOrder} (flag : flagOrderOf code = some o) :
    s.applyOwnOrder code = s.applyFlag o s.nodeId := by
  unfold State.applyOwnOrder
  rw [flag]

theorem flagOrderOf_none {code : Nat} (high : 4 ≤ code) : flagOrderOf code = none := by
  unfold flagOrderOf
  split <;> first | rfl | omega

/-- What a flag order applied to `u` leaves, of the flags and of their reports. -/
structure FlagApplied (u t : State) (mode : Mode) (evacuate : Bool) (sender : Nat) : Prop where
  follows : Consequent { u with nt := { u.nt with mode := mode, evacuate := evacuate, orderHeard := true } } t
  modeReport : ReportsIf (decide (mode ≠ u.nt.mode))
    { u with nt := { u.nt with mode := mode, evacuate := evacuate, orderHeard := true } } .buildingMode sender mode.code t
  evacuateReport : ReportsIf (decide (evacuate ≠ u.nt.evacuate))
    { u with nt := { u.nt with mode := mode, evacuate := evacuate, orderHeard := true } } .buildingEvacuate sender
    (if evacuate = true then 1 else 0) t

theorem ReportsIf.extends {c : Bool} {u t : State} {k : ReportKind} {a b : Nat} (h : ReportsIf c u k a b t) :
    Extends u.ap.reports t.ap.reports := (u.reportIf_extends c k a b).trans h

theorem Extends.reportsIf {u t : State} (h : Extends u.ap.reports t.ap.reports) {c : Prop} [Decidable c] (no : ¬c)
    (k : ReportKind) (a b : Nat) : ReportsIf (decide c) u k a b t := by
  rw [decide_eq_false no]
  exact h

theorem settle_modeDay (old u : State) (n : Nat) :
    FlagApplied u (settle old (u.applyFlag .modeDay n) none []) .day u.nt.evacuate n := by
  have same : decide (Mode.day ≠ u.nt.mode) = decide (u.nt.mode = .night) := by cases u.nt.mode <;> rfl
  have done := settle_reportIf old { u with nt := { u.nt with mode := .day, orderHeard := true } }
    (decide (u.nt.mode = .night)) .buildingMode n 0
  rw [u.applyFlag_modeDay]
  generalize settle old _ none [] = t at done ⊢
  obtain ⟨follows, report⟩ := done
  exact ⟨follows, by rw [same]; exact report, report.extends.reportsIf (by simp) _ _ _⟩

theorem settle_modeNight (old u : State) (n : Nat) :
    FlagApplied u (settle old (u.applyFlag .modeNight n) none []) .night u.nt.evacuate n := by
  have same : decide (Mode.night ≠ u.nt.mode) = decide (u.nt.mode = .day) := by cases u.nt.mode <;> rfl
  have done := settle_reportIf old { u with nt := { u.nt with mode := .night, orderHeard := true } }
    (decide (u.nt.mode = .day)) .buildingMode n 1
  rw [u.applyFlag_modeNight]
  generalize settle old _ none [] = t at done ⊢
  obtain ⟨follows, report⟩ := done
  exact ⟨follows, by rw [same]; exact report, report.extends.reportsIf (by simp) _ _ _⟩

theorem settle_evacuateOff (old u : State) (n : Nat) :
    FlagApplied u (settle old (u.applyFlag .evacuateOff n) none []) u.nt.mode false n := by
  have same : decide (false ≠ u.nt.evacuate) = u.nt.evacuate := by cases u.nt.evacuate <;> rfl
  have done := settle_reportIf old { u with nt := { u.nt with evacuate := false, orderHeard := true } }
    u.nt.evacuate .buildingEvacuate n 0
  rw [u.applyFlag_evacuateOff]
  generalize settle old _ none [] = t at done ⊢
  obtain ⟨follows, report⟩ := done
  exact ⟨follows, report.extends.reportsIf (by simp) _ _ _, by rw [same]; exact report⟩

theorem settle_evacuateOn_applied (old u : State) (n : Nat) :
    FlagApplied u (settle old (u.applyFlag .evacuateOn n) none []) u.nt.mode true n ∧
      (settle old (u.applyFlag .evacuateOn n) none []).nt.latch = none := by
  have same : decide (true ≠ u.nt.evacuate) = !u.nt.evacuate := by cases u.nt.evacuate <;> rfl
  have done := settle_evacuateOn old u n
  generalize settle old _ none [] = t at done ⊢
  obtain ⟨follows, latch, report⟩ := done
  exact ⟨⟨follows, report.extends.reportsIf (by simp) _ _ _, by rw [same]; exact report⟩, latch⟩

/-- Settles O26: the completion by kind, `State.freed` being what the line controller leaves of itself. -/
theorem transmissionCompletes : Obligations.TransmissionCompletes := by
  intro s before after e sent run id sending queue on off
  have run_ := exec_transmissionCompletion (State.awake_of_running run) sending queue on off
  dsimp only
  change
    (_ → exec .transmissionCompletion s = .next (s.freed _)) ∧ _
  generalize before ++ (if e.replaced = true then
      [{ e with onLine := false, replaced := false, collisions := 0 }] else []) ++ after = left at run_ ⊢
  have alone : settle s (s.freed left) none [] = s.freed left := settle_freed ⟨_, _, rfl⟩
  obtain ⟨r, form⟩ := s.freed_changes left
  refine ⟨fun plain => ?_, fun ⟨p, body⟩ => ?_, fun p x body listed taking serial => ?_, fun p body other => ?_,
    fun p body high => ?_, fun p body low => ?_⟩
  · have same : (s.freed left).handCompletion sent.body = s.freed left := by
      obtain ⟨p, body⟩ | ⟨p, body⟩ | ⟨p, body⟩ := plain <;> rw [body] <;> rfl
    rw [run_, same, alone]
  · have same : (s.freed left).handCompletion sent.body =
        { s.freed left with lc := { (s.freed left).lc with refresh := some (s.now + s.cl.node.h * Config.second) } } := by
      rw [body]
      show (s.freed left).startRefresh = _
      unfold State.startRefresh
      rw [if_neg (by rw [form]; exact id), form]
      rfl
    rw [run_, same, settle_freed ⟨_, _, rfl⟩]
    rfl
  · have same : (s.freed left).handCompletion sent.body =
        (s.freed left).relist { x with takeTimeout := some (s.now + 5 * Config.second) } := by
      rw [body]
      show (s.freed left).takeCompleted _ _ _ = _
      have here : (s.freed left).entry p.origin.toNat p.source.toNat = some x := by rw [form]; exact listed
      unfold State.takeCompleted
      rw [here]
      dsimp only
      rw [if_pos (by simp [taking, serial]), form]
      rfl
    rw [run_, same]
    exact congrArg Host.Outcome.next (settle_freed (queue := left) ⟨(s.freed left).lc.refresh, _, rfl⟩)
  · have same : (s.freed left).handCompletion sent.body = s.freed left := by
      rw [body]
      show (s.freed left).takeCompleted _ _ _ = _
      have there : (s.freed left).entry p.origin.toNat p.source.toNat = s.entry p.origin.toNat p.source.toNat := by
        rw [form]; rfl
      unfold State.takeCompleted
      rw [there]
      cases listed : s.entry p.origin.toNat p.source.toNat with
      | none => rfl
      | some x =>
        have no := other x listed
        dsimp only
        rw [if_neg (by simpa using fun is : x.state = .taking => no.resolve_left (· is))]
    rw [run_, same, alone]
    rfl
  · have same : (s.freed left).handCompletion sent.body = s.freed left := by
      rw [body]
      show (s.freed left).applyOwnOrder _ = _
      unfold State.applyOwnOrder
      rw [flagOrderOf_none high]
    rw [run_, same, alone]
    rfl
  · have hand {o : FlagOrder} (flag : flagOrderOf p.code.toNat = some o) :
        (s.freed left).handCompletion sent.body = (s.freed left).applyFlag o s.nodeId := by
      rw [body]
      show (s.freed left).applyOwnOrder _ = _
      rw [State.applyOwnOrder_flag flag, form]
      rfl
    have code (n : Nat) (small : n < 256) (is : p.code.toNat = n) : p.code = BitVec.ofNat 8 n := by
      rw [← is, BitVec.ofNat_toNat, BitVec.setWidth_eq]
    have nt : (s.freed left).nt = s.nt := by rw [form]
    have cases_ : p.code.toNat = 0 ∨ p.code.toNat = 1 ∨ p.code.toNat = 2 ∨ p.code.toNat = 3 := by omega
    rw [Completes, run_]
    obtain is | is | is | is := cases_
    · rw [hand (o := .modeDay) (by rw [is]; rfl), code 0 (by decide) is]
      obtain ⟨follows, mode, evacuate⟩ := settle_modeDay s (s.freed left) s.nodeId
      rw [nt] at follows mode evacuate
      generalize settle s _ none [] = t at follows mode evacuate ⊢
      exact ⟨t, rfl, follows, nofun, mode, evacuate⟩
    · rw [hand (o := .modeNight) (by rw [is]; rfl), code 1 (by decide) is]
      obtain ⟨follows, mode, evacuate⟩ := settle_modeNight s (s.freed left) s.nodeId
      rw [nt] at follows mode evacuate
      generalize settle s _ none [] = t at follows mode evacuate ⊢
      exact ⟨t, rfl, follows, nofun, mode, evacuate⟩
    · rw [hand (o := .evacuateOn) (by rw [is]; rfl), code 2 (by decide) is]
      obtain ⟨⟨follows, mode, evacuate⟩, latch⟩ := settle_evacuateOn_applied s (s.freed left) s.nodeId
      rw [nt] at follows mode evacuate
      generalize settle s _ none [] = t at follows mode evacuate latch ⊢
      exact ⟨t, rfl, follows, fun _ => latch, mode, evacuate⟩
    · rw [hand (o := .evacuateOff) (by rw [is]; rfl), code 3 (by decide) is]
      obtain ⟨follows, mode, evacuate⟩ := settle_evacuateOff s (s.freed left) s.nodeId
      rw [nt] at follows mode evacuate
      generalize settle s _ none [] = t at follows mode evacuate ⊢
      exact ⟨t, rfl, follows, nofun, mode, evacuate⟩

end Sys2Proof.Machine
end

/-! ## The attention list (R129 to R136, R139) -/

section
namespace Sys2Proof.Machine

/-! ### The list and its entries -/

theorem Entry.has_eq (origin source : Nat) :
    Entry.has origin source = fun x : Entry => decide (x.origin = origin ∧ x.source = source) := by
  funext x
  simp [Entry.has]

/-- No other block reads the attention list. -/
theorem settle_list {s t : State} (h : ∃ al r, t = { s with al := al, ap := { s.ap with reports := r } }) :
    settle s t none [] = t := by
  obtain ⟨al, r, rfl⟩ := h
  exact settle_idle ⟨rfl, rfl, rfl, rfl, rfl, rfl, rfl, rfl, rfl⟩ rfl id

/-- R129: what an insertion leaves in the list. -/
theorem listInsert_perm (e : Entry) (list : List Entry) : (listInsert e list).Perm (e :: list) := by
  induction list with
  | nil => exact .refl _
  | cons x xs ih =>
    unfold listInsert
    split
    · exact .refl _
    · exact (ih.cons x).trans (.swap e x xs)

theorem find?_reverse_last {α : Type} {p : α → Bool} {before after : List α} {e : α} (here : p e = true)
    (later : ∀ x ∈ after, p x = false) : (before ++ e :: after).reverse.find? p = some e := by
  have none_ : after.reverse.find? p = none :=
    List.find?_eq_none.2 fun x mem => by rw [later x (List.mem_reverse.1 mem)]; exact Bool.false_ne_true
  simp [List.find?_append, none_, here]

theorem find?_reverse_none {α : Type} {p : α → Bool} {list : List α} (no : ∀ x ∈ list, p x = false) :
    list.reverse.find? p = none :=
  List.find?_eq_none.2 fun x mem => by rw [no x (List.mem_reverse.1 mem)]; exact Bool.false_ne_true

/-! ### The entry given up for a newcomer (R133) -/

section
variable {list : List Entry} {priority : Nat}

theorem displaced_first {d : Entry} (h : list.reverse.find? (fun e => e.state = .others && priority ≤ e.priority) = some d) :
    displaced list priority = some d := by
  unfold displaced
  rw [h]

theorem displaced_second (h : list.reverse.find? (fun e => e.state = .others && priority ≤ e.priority) = none) :
    displaced list priority = list.reverse.find? fun e => priority < e.priority := by
  unfold displaced
  rw [h]

end

/-! ### A CALL and the entry of its identity -/

theorem updatedState_eq (before told : EntryState) :
    updatedState before told = if before = .taking ∧ told = .opened then .taking else told := by
  cases before <;> cases told <;> rfl

theorem Entry.update_eq (e : Entry) (p : CallPayload) (s : State) :
    let state : EntryState :=
      if e.state = .taking ∧ toldState p s.nodeId = .opened then .taking else toldState p s.nodeId
    e.update p s = { e with
      kind := callKindOf p.kind.toNat
      priority := p.priority.toNat
      state := state
      taker := p.taker.toNat
      overdue := p.overdue
      reminder := p.reminder
      expiry := some (s.now + 100 * Config.second)
      takeTimeout := if state = .taking then e.takeTimeout else none } := by
  dsimp only
  rw [← updatedState_eq]
  rfl

theorem Entry.differs_eq (a b : Entry) : a.differs b = !decide (a.kind = b.kind ∧ a.priority = b.priority ∧
    a.state = b.state ∧ a.taker = b.taker ∧ a.overdue = b.overdue ∧ a.reminder = b.reminder) := by
  simp only [Entry.differs, bne_decide, ne_eq, decide_not, Bool.decide_and, Bool.not_and, Bool.or_assoc]

theorem State.reportUpdate_taken {s : State} {old new : Entry} (taking : old.state = .taking) (won : new.state = .mine) :
    s.reportUpdate old new = s.report .takeWon new.subject new.taker := by
  unfold State.reportUpdate
  rw [if_pos (by simp [taking, won])]

theorem State.reportUpdate_lost {s : State} {old new : Entry} (taking : old.state = .taking) (lost : new.state = .others) :
    s.reportUpdate old new = s.report .takeLost new.subject new.taker := by
  unfold State.reportUpdate
  rw [if_neg (by simp [lost]), if_pos (by simp [taking, lost])]

theorem State.reportUpdate_plain {s : State} {old new : Entry} (plain : old.state ≠ .taking ∨ new.state = .taking) :
    s.reportUpdate old new = s.reportIf (old.differs new) .listChanged new.subject (pack new.state.code new.priority) := by
  unfold State.reportUpdate
  rw [if_neg, if_neg]
  · rcases plain with h | h <;> simp [h]
  · rcases plain with h | h <;> simp [h]

/-- A good telegram of another node whose dispatch changes the list and the reports alone: that is all that it does. -/
theorem State.arrival_lists {s t : State} {src : BitVec 6} {body : Payload} (a : s.awake = true) (r : s.receives = true)
    (source : wfSource src = true) (w : body.wf = true) (other : src.toNat ≠ s.nodeId) (state : ∀ p, body ≠ .state p)
    (dispatch : s.dispatch src.toNat body = t) (h : ∃ al r, t = { s with al := al, ap := { s.ap with reports := r } }) :
    s.arrival src body = .next t := by
  have peer : s.testingPeer src.toNat body = none := by
    cases body with
    | state p => exact absurd rfl (state p)
    | _ => rfl
  rw [State.arrival_dispatched a r (by rw [source, w]; rfl) other, peer, dispatch, settle_list h]

theorem exec_callArrival {s : State} {src : BitVec 6} {p : CallPayload} (a : s.awake = true) (r : s.receives = true)
    (source : wfSource src = true) (w : p.wf = true) (other : src.toNat ≠ s.nodeId) :
    exec (.callArrival src p) s = .next (if s.cl.node.role = .station then s.hearCall src.toNat p else s) := by
  refine State.arrival_lists (body := .call p) a r source w other nofun rfl ?_
  show ∃ al r, (if s.cl.node.role = .station then s.hearCall src.toNat p else s) = _
  split
  · exact s.hearCall_changes _ _
  · exact ⟨_, _, rfl⟩

theorem Entry.of_find {list : List Entry} {origin source : Nat} {e : Entry}
    (h : list.find? (Entry.has origin source) = some e) : e.origin = origin ∧ e.source = source := by
  have has := List.find?_some h
  rw [Entry.has_eq] at has
  exact of_decide_eq_true has

/-- Settles O47, by the entry of the CALL's identity: none, one of another serial, one of the same. -/
theorem callArrives : Obligations.CallArrives := by
  refine ⟨fun s src p a r bounded source w other => ?_, fun list priority => ⟨?_, ?_, ?_⟩, listInsert_perm⟩
  · have run := exec_callArrival a r source w other
    dsimp only
    rw [run, ← Entry.has_eq]
    refine ⟨fun gallery => ?_, fun station => ⟨fun none_ room => ?_, fun none_ full => ⟨fun d given => ?_, fun none' => ?_⟩,
      fun e present serial => ?_, fun e present serial => ?_⟩⟩
    · rw [if_neg (by rw [gallery]; nofun)]
    · rw [if_pos station, State.hearCall, State.entry, none_]
      dsimp only
      rw [State.newCall, if_pos room]
      rfl
    · rw [if_pos station, State.hearCall, State.entry, none_]
      dsimp only
      rw [State.newCall, if_neg (by omega), ← Entry.has_eq]
      show Host.Outcome.next (match displaced s.al p.priority.toNat with
        | some d => ((s.unlist d.origin d.source).report .listDisplaced d.subject d.state.code).insertCall _
        | none => s.report .truncated _ p.priority.toNat) = _
      rw [given]
      rfl
    · rw [if_pos station, State.hearCall, State.entry, none_]
      dsimp only
      rw [State.newCall, if_neg (by omega)]
      show Host.Outcome.next (match displaced s.al p.priority.toNat with
        | some d => ((s.unlist d.origin d.source).report .listDisplaced d.subject d.state.code).insertCall _
        | none => s.report .truncated _ p.priority.toNat) = _
      rw [none']
      rfl
    · obtain ⟨origin, place⟩ := Entry.of_find present
      rw [if_pos station, State.hearCall, State.entry, present]
      dsimp only
      rw [if_neg serial, ← Entry.has_eq, origin, place]
      show Host.Outcome.next (((s.unlist e.origin e.source).reportIf _ _ (pack e.origin e.source) 1).insertCall _) = _
      rw [origin, place]
      rfl
    · obtain ⟨origin, place⟩ := Entry.of_find present
      have told := updatedState_eq e.state (toldState p s.nodeId)
      have next : s.hearCall src.toNat p = s.updateCall e p := by
        rw [State.hearCall, State.entry, present]
        dsimp only
        rw [if_pos serial]
      rw [if_pos station, next, ← Entry.has_eq]
      have subject : src.toNat * 256 + p.source.toNat = (e.update p s).subject := by
        rw [← origin, ← place]; rfl
      rw [subject, State.updateCall]
      refine ⟨fun taking won => ?_, fun taking lost => ?_, fun plain => ?_⟩
      · rw [State.reportUpdate_taken taking (told.trans won), Entry.update_eq]
        rfl
      · rw [State.reportUpdate_lost taking (told.trans lost), Entry.update_eq]
        rfl
      · rw [State.reportUpdate_plain (plain.imp id told.trans), Entry.differs_eq, Entry.update_eq]
        rfl
  · exact fun before e after form first later => displaced_first (form ▸
      find?_reverse_last (by simpa using first) fun x mem => by simpa using later x mem)
  · refine fun before e after form none_ second later => (displaced_second (find?_reverse_none fun x mem => ?_)).trans ?_
    · simpa using none_ x mem
    · rw [form]
      exact find?_reverse_last (by simpa using second) fun x mem => by simpa using later x mem
  · refine fun no => (displaced_second (find?_reverse_none fun x mem => ?_)).trans (find?_reverse_none fun x mem => ?_)
    · simpa using (no x mem).1
    · simpa using (no x mem).2

/-! ### Removal and the timers of an entry (R135, R136, R139) -/

theorem exec_clearArrival_origin {s : State} {src : BitVec 6} {p : ClearPayload} (a : s.awake = true)
    (r : s.receives = true) (source : wfSource src = true) (w : p.wf = true) (other : src.toNat ≠ s.nodeId)
    (own : p.origin.toNat = src.toNat) :
    exec (.clearArrival src p) s = .next (if s.cl.node.role = .station then
      s.hearClear src.toNat p.source.toNat p.serial.toNat p.clearedBy.toNat else s) := by
  have dispatched : s.dispatch src.toNat (.clear p) = if s.cl.node.role = .station then
      s.hearClear src.toNat p.source.toNat p.serial.toNat p.clearedBy.toNat else s := if_pos own
  refine State.arrival_lists (body := .clear p) a r source w other nofun dispatched ?_
  split
  · exact s.hearClear_changes _ _ _ _
  · exact ⟨_, _, rfl⟩

/-- A timer of an entry expires, and what it does is to the list and the reports alone. -/
theorem State.entryTimer_running {s : State} {origin source deadline : Nat} {e : Entry} {timer : Entry → Timer}
    {f : State → Entry → State} (a : s.awake = true) (present : s.entry origin source = some e)
    (running : timer e = some deadline)
    (h : ∃ al r, f (s.reach deadline) e = { s.reach deadline with al := al, ap := { s.ap with reports := r } }) :
    s.entryTimer origin source timer f = .next (f (s.reach deadline) e) := by
  unfold State.entryTimer
  rw [present]
  dsimp only
  rw [State.expiry_running a running, settle_list h]

/-- Settles O48, by its three commands; the entry leaves the list, or moves in it. -/
theorem entriesRemovedOrReopened : Obligations.EntriesRemovedOrReopened := by
  intro s src p source e a
  dsimp only
  rw [← Entry.has_eq]
  refine ⟨fun r wf w other own => ⟨fun station present serial => ?_, fun ignored => ?_⟩, fun present =>
    ⟨fun deadline running => ?_, fun deadline running taking => ?_⟩⟩
  · rw [exec_clearArrival_origin a r wf w other own, if_pos station, State.hearClear, present]
    obtain ⟨origin, place⟩ := Entry.of_find present
    dsimp only
    rw [if_pos serial, ← origin, ← place]
    rfl
  · rw [exec_clearArrival_origin a r wf w other own]
    split
    · rename_i station
      unfold State.hearClear
      rcases ignored with gallery | missing | ⟨present, serial⟩
      · rw [gallery] at station
        cases station
      · rw [missing]
      · rw [present]
        dsimp only
        rw [if_neg serial]
    · rfl
  · exact State.entryTimer_running (f := State.expireEntry) a present running ⟨_, _, rfl⟩
  · have row := State.entryTimer_running (f := fun s e => if e.state = .taking then s.takeUnanswered e else s) a present
      running (by rw [if_pos taking]; exact ⟨_, _, rfl⟩)
    rw [if_pos taking] at row
    exact row

end Sys2Proof.Machine
end

/-! ## The table order, and the clearing of calls (R115, R124 to R126) -/

section
namespace Sys2Proof.Machine

/-! ### The table order -/

theorem State.Shaped.rotation_perm {s : State} (h : s.Shaped) {level : Nat} (below : level < 4) :
    (s.rotation level).Perm (List.range 17) := by
  have inside : level < s.cc.rotations.length := by rw [h.rotations]; exact below
  have get : s.rotation level = s.cc.rotations[level] := by simp [State.rotation, inside]
  rw [get]
  exact h.orders _ (List.getElem_mem inside)

theorem State.Shaped.rotation_nodup {s : State} (h : s.Shaped) {level : Nat} (below : level < 4) :
    (s.rotation level).Nodup := (h.rotation_perm below).nodup_iff.2 List.nodup_range

theorem State.Shaped.call_lt {s : State} (h : s.Shaped) {i : Nat} (present : s.call i ≠ none) : i < 17 := by
  by_contra outside
  exact present (List.getD_eq_default _ _ (by rw [h.calls]; omega))

theorem pairwise_idxOf {l : List Nat} (distinct : l.Nodup) : l.Pairwise fun a b => l.idxOf a < l.idxOf b := by
  refine List.pairwise_iff_getElem.2 fun i j low high before => ?_
  rw [distinct.idxOf_getElem, distinct.idxOf_getElem]
  exact before

/-- The calls of one level of the table. -/
def State.atLevel (s : State) (level src : Nat) : Bool := match s.call src with
  | some c => c.current = level
  | none => false

theorem State.tableOrder_eq (s : State) :
    s.tableOrder = (List.range 4).flatMap fun level => (s.rotation level).filter (s.atLevel level) := rfl

theorem State.atLevel_call {s : State} {level src : Nat} (here : s.atLevel level src = true) {c : Call}
    (present : s.call src = some c) : c.current = level := by
  unfold State.atLevel at here
  rw [present] at here
  exact of_decide_eq_true here

theorem State.atLevel_some {s : State} {level src : Nat} (here : s.atLevel level src = true) :
    ∃ c, s.call src = some c ∧ c.current = level := by
  cases present : s.call src with
  | none =>
    unfold State.atLevel at here
    rw [present] at here
    cases here
  | some c => exact ⟨c, rfl, State.atLevel_call here present⟩

theorem State.Shaped.tableOrder_nodup {s : State} (h : s.Shaped) : s.tableOrder.Nodup := by
  rw [State.tableOrder_eq]
  refine List.nodup_flatMap.2 ⟨fun level below => ?_, ?_⟩
  · exact (h.rotation_nodup (List.mem_range.1 below)).filter _
  · refine List.nodup_range.imp fun {a b} other source mem mem' => ?_
    obtain ⟨c, present, level⟩ := State.atLevel_some (List.mem_filter.1 mem).2
    exact other (level.symm.trans (State.atLevel_call (List.mem_filter.1 mem').2 present))

theorem State.Shaped.mem_tableOrder {s : State} (h : s.Shaped) (source : Nat) :
    source ∈ s.tableOrder ↔ s.call source ≠ none := by
  refine ⟨fun mem => ?_, fun present => ?_⟩
  · obtain ⟨c, present, -⟩ := State.mem_tableOrder.1 mem
    rw [present]
    nofun
  · obtain ⟨c, is⟩ := Option.ne_none_iff_exists'.1 present
    exact State.mem_tableOrder_of_call h.levelled h.rotates (h.call_lt present) is

theorem State.Shaped.tableOrder_ordered {s : State} (h : s.Shaped) :
    s.tableOrder.Pairwise fun a b => ∀ c d, s.call a = some c → s.call b = some d →
      c.current < d.current ∨ c.current = d.current ∧
        (s.rotation c.current).idxOf a < (s.rotation c.current).idxOf b := by
  rw [State.tableOrder_eq]
  refine List.pairwise_flatMap.2 ⟨fun level below => ?_, ?_⟩
  · have order := (pairwise_idxOf (h.rotation_nodup (List.mem_range.1 below))).filter (s.atLevel level)
    refine order.imp_of_mem fun {a b} memA memB before c d presentA presentB => .inr ?_
    have levelA := State.atLevel_call (List.mem_filter.1 memA).2 presentA
    have levelB := State.atLevel_call (List.mem_filter.1 memB).2 presentB
    rw [levelA, levelB]
    exact ⟨rfl, before⟩
  · refine List.pairwise_lt_range.imp fun {m n} before a memA b memB c d presentA presentB => .inl ?_
    rw [State.atLevel_call (List.mem_filter.1 memA).2 presentA, State.atLevel_call (List.mem_filter.1 memB).2 presentB]
    exact before

/-! ### A clearing -/

/-- With its rotation order and the key apart, a clearing changes calls, offers and reports: no other block acts. -/
theorem settle_rotated {s t : State} {rotations : List (List Nat)} {key : Option Bool}
    (h : CallConsequent { s with cc := { s.cc with rotations := rotations, keyOn := key } } t) : settle s t none [] = t := by
  refine settle_idle (SameInputs.trans (t := { s with cc := { s.cc with rotations := rotations, keyOn := key } })
    ⟨rfl, rfl, rfl, rfl, rfl, rfl, rfl, rfl, rfl⟩ h.sameInputs) ?_ fun fault => ?_
  · obtain ⟨_, _, _, _, _, rfl⟩ := h
    rfl
  · rw [h.hasFault] at fault
    exact fault

theorem State.clearCall_present {s : State} {src : Nat} {c : Call} (present : s.call src = some c) (by_ : Nat) :
    s.clearCall src by_ = State.report
      { s with
        cc := { s.cc with
          calls := s.cc.calls.set src none
          rotations := s.cc.rotations.set c.base ((s.rotation c.base).erase src ++ [src]) }
        lc := (s.lc.offer s.offersOpen
          (.clear ⟨BitVec.ofNat 8 s.nodeId, BitVec.ofNat 8 src, BitVec.ofNat 8 c.serial, BitVec.ofNat 8 by_⟩) 1).1 }
      .callCleared src by_ := by
  unfold State.clearCall
  rw [present]
  rfl

theorem State.clearCall_callConsequent {s : State} {src : Nat} {c : Call} (present : s.call src = some c) (by_ : Nat) :
    CallConsequent { s with cc := { s.cc with
      rotations := s.cc.rotations.set c.base ((s.rotation c.base).erase src ++ [src]) } } (s.clearCall src by_) := by
  rw [State.clearCall_present present]
  have offers := State.offer_callConsequent
    { s with cc := { s.cc with
      calls := s.cc.calls.set src none
      rotations := s.cc.rotations.set c.base ((s.rotation c.base).erase src ++ [src]) } }
    (.clear ⟨BitVec.ofNat 8 s.nodeId, BitVec.ofNat 8 src, BitVec.ofNat 8 c.serial, BitVec.ofNat 8 by_⟩) 1
  refine CallConsequent.report (CallConsequent.trans ?_ offers) _ _ _
  exact ⟨s.cc.calls.set src none, s.cc.serials, [], s.lc.lastState, [], rfl⟩

/-! ### The attendant key (R126) -/

/-- A FIRE call whose point is ACTIVE is not cleared. -/
theorem State.heldByPoint_eq (s : State) (src : Nat) (c : Call) :
    s.heldByPoint src c = decide (c.kind = .fire ∧ (s.point src).input = some true) := by
  unfold State.heldByPoint
  rw [Bool.decide_and, beq_eq_decide]

theorem State.keyChoice_eq (s : State) (taken : Bool) : s.keyChoice taken = s.tableOrder.find? fun source =>
    (s.call source).any fun c => decide (((c.taker ≠ 0) ↔ taken = true) ∧
      ¬(c.kind = .fire ∧ (s.point source).input = some true)) := by
  unfold State.keyChoice
  refine congrArg (List.find? · _) (funext fun source => ?_)
  cases present : s.call source with
  | none => rfl
  | some c =>
    dsimp only
    rw [State.heldByPoint_eq, Option.any_some]
    by_cases pending : c.taker = 0 <;> cases taken <;> simp [pending]

theorem State.keyChoice_call {s : State} {taken : Bool} {source : Nat} (choice : s.keyChoice taken = some source) :
    ∃ c, s.call source = some c := by
  have chosen := List.find?_some choice
  cases present : s.call source with
  | none =>
    rw [present] at chosen
    cases chosen
  | some c => exact ⟨c, rfl⟩

/-- The state with the key turned. -/
def State.keyTurned (s : State) : State := { s with cc := { s.cc with keyOn := some true } }

theorem exec_attendantKeyTurn {s : State} (a : s.awake = true) :
    exec .attendantKeyTurn s = .next (s.keyTurned.turnKey) := by
  have row : exec .attendantKeyTurn s = s.event fun s => (s.setCc { s.cc with keyOn := some true }).turnKey := rfl
  rw [row, State.event_awake a]
  refine congrArg Host.Outcome.next ?_
  show settle s s.keyTurned.turnKey none [] = _
  have cleared {source : Nat} {taken : Bool} (choice : s.keyTurned.keyChoice taken = some source) :
      settle s (s.keyTurned.clearCall source 0) none [] = s.keyTurned.clearCall source 0 := by
    obtain ⟨c, present⟩ := State.keyChoice_call choice
    exact settle_rotated (key := some true) (State.clearCall_callConsequent present 0)
  unfold State.turnKey
  split
  · rename_i choice
    exact cleared choice
  · split
    · rename_i choice
      exact cleared choice
    · exact settle_rotated (rotations := s.cc.rotations) (key := some true) (.refl _)

/-! ### A station's request (R125) -/

section
variable {s : State} {src serial : Nat} {sender : Nat} {c : Call}

theorem State.decideClear_held (present : s.call src = some c) (named : c.serial = serial) (taker : c.taker = sender)
    (station : sender ≠ 0) (held : c.kind = .fire ∧ (s.point src).input = some true) :
    s.decideClear sender src serial = (s.announced src c).report .clearRefused src sender := by
  rw [← State.announce_present present, State.decideClear, present]
  dsimp only
  rw [if_pos ⟨named, taker, taker ▸ station⟩, State.heldByPoint_eq, if_pos (decide_eq_true held)]

theorem State.decideClear_taken (present : s.call src = some c) (named : c.serial = serial) (taker : c.taker = sender)
    (station : sender ≠ 0) (free : ¬(c.kind = .fire ∧ (s.point src).input = some true)) :
    s.decideClear sender src serial = s.clearCall src sender := by
  rw [State.decideClear, present]
  dsimp only
  rw [if_pos ⟨named, taker, taker ▸ station⟩, State.heldByPoint_eq, if_neg (by simpa using free)]

theorem State.decideClear_other (present : s.call src = some c) (other : c.serial ≠ serial ∨ c.taker ≠ sender) :
    s.decideClear sender src serial = s.announced src c := by
  rw [← State.announce_present present, State.decideClear, present]
  exact if_neg fun ⟨named, taker, _⟩ => other.elim (· named) (· taker)

theorem State.decideClear_missing (missing : s.call src = none) : s.decideClear sender src serial = s.offerClear src serial 0 := by
  rw [State.decideClear, missing]

end

/-- A station's CLEAR, received: what decides it changes calls, their rotation orders, offers and reports. -/
theorem exec_clearRequest {s t : State} {src : BitVec 6} {p : ClearPayload} {rotations : List (List Nat)} (a : s.awake = true)
    (r : s.receives = true) (source : wfSource src = true) (w : p.wf = true) (other : src.toNat ≠ s.nodeId)
    (dispatch : s.dispatch src.toNat (.clear p) = t)
    (h : CallConsequent { s with cc := { s.cc with rotations := rotations } } t) :
    exec (.clearRequestArrival src p) s = .next t := by
  have row : exec (.clearRequestArrival src p) s = s.arrival src (.clear p) := rfl
  rw [row, State.arrival_dispatched a r (by rw [source]; exact w) other, dispatch]
  exact congrArg Host.Outcome.next (settle_rotated (key := s.cc.keyOn) h)

section
variable {s : State} {src : BitVec 6} {p : ClearPayload}

theorem State.dispatch_clear (station : p.origin.toNat ≠ src.toNat) (named : p.origin.toNat = s.nodeId) :
    s.dispatch src.toNat (.clear p) = s.decideClear src.toNat p.source.toNat p.serial.toNat :=
  (if_neg station).trans (if_pos named)

theorem State.dispatch_clear_elsewhere (station : p.origin.toNat ≠ src.toNat) (h : p.origin.toNat ≠ s.nodeId) :
    s.dispatch src.toNat (.clear p) = s := (if_neg station).trans (if_neg h)

theorem State.offerClear_request (named : p.origin.toNat = s.nodeId) :
    s.offerClear p.source.toNat p.serial.toNat 0 = (s.offer (.clear ⟨p.origin, p.source, p.serial, 0⟩) 1).1 := by
  simp [State.offerClear, ← named]

end

/-- Settles O46: the table order level by level, the key by its two choices, the request by the call of its source. -/
theorem callsCleared : Obligations.CallsCleared := by
  refine ⟨fun s shaped => ⟨shaped.tableOrder_nodup, shaped.mem_tableOrder, shaped.tableOrder_ordered⟩,
    ?_⟩
  intro s src p a shaped cleared kept first turned
  have chosen (taken : Bool) : first taken = s.keyTurned.keyChoice taken := (s.keyChoice_eq taken).symm
  have run := exec_attendantKeyTurn a
  refine ⟨fun source c choice present => ?_, fun source c none_ choice present => ?_, fun none_ none' => ?_,
    fun r wf w other station => ⟨fun elsewhere => ?_, fun named => ⟨fun c present serial taker => ⟨fun free => ?_, fun held => ?_⟩,
      fun c present differs => ?_, fun missing => ?_⟩⟩⟩
  · rw [run, State.turnKey, ← chosen, choice]
    exact congrArg Host.Outcome.next (State.clearCall_present (s := s.keyTurned) present 0)
  · rw [run, State.turnKey, ← chosen, none_, ← chosen, choice]
    exact congrArg Host.Outcome.next (State.clearCall_present (s := s.keyTurned) present 0)
  · rw [run, State.turnKey, ← chosen, none_, ← chosen, none']
    rfl
  · exact exec_clearRequest a r wf w other (State.dispatch_clear_elsewhere station elsewhere)
      (rotations := s.cc.rotations) (.refl s)
  · refine (congrArg _ (congrArg _ (State.clearCall_present present src.toNat))).mp ?_
    exact exec_clearRequest a r wf w other ((State.dispatch_clear station named).trans
      (State.decideClear_taken present serial taker (wfSource_ne_zero wf) free)) (State.clearCall_callConsequent present _)
  · exact exec_clearRequest a r wf w other ((State.dispatch_clear station named).trans
      (State.decideClear_held present serial taker (wfSource_ne_zero wf) held)) (rotations := s.cc.rotations)
      ((s.announced_callConsequent _ c).report _ _ _)
  · exact exec_clearRequest a r wf w other ((State.dispatch_clear station named).trans
      (State.decideClear_other present differs)) (rotations := s.cc.rotations) (s.announced_callConsequent _ c)
  · exact exec_clearRequest a r wf w other ((State.dispatch_clear station named).trans
      ((State.decideClear_missing missing).trans (State.offerClear_request named))) (rotations := s.cc.rotations)
      (s.offer_callConsequent _ 1)

end Sys2Proof.Machine
end

/-! ## The requests of a station's host (R70, R137, R138, R140, R141) -/

section
namespace Sys2Proof.Machine

/-! ### Offers -/

theorem State.offerFor_entered {s : State} {body : Payload} {cls : Nat} (h : (s.lc.offer s.offersOpen body cls).2 = .entered)
    (f : State → State) : s.offerFor body cls f = (f { s with lc := (s.lc.offer s.offersOpen body cls).1 }, .ok) := if_pos h

theorem State.offerFor_full {s : State} {body : Payload} {cls : Nat} (h : (s.lc.offer s.offersOpen body cls).2 ≠ .entered)
    (f : State → State) :
    s.offerFor body cls f = ({ s with lc := (s.lc.offer s.offersOpen body cls).1 }, .errState .queueFull) := if_neg h

/-- An offer that is entered joins the queue with its class and age. -/
theorem LineController.offer_entered {lc : LineController} {open_ : Bool} {body : Payload} {cls : Nat}
    (h : (lc.offer open_ body cls).2 = .entered) :
    ⟨body, cls, lc.nextAge, 0, false, false⟩ ∈ (lc.offer open_ body cls).1.queue := by
  have joins (q : List TxEntry) (e : TxEntry) : e ∈ insertEntry e q := (insertEntry_perm e q).mem_iff.2 List.mem_cons_self
  unfold LineController.offer at h ⊢
  cases open_
  · cases h
  · simp only [Bool.not_true, Bool.false_eq_true, if_false] at h ⊢
    cases collapsed : lc.queue.find? (collapsesInto body) with
    | some e =>
      rw [collapsed] at h
      cases h
    | none =>
      rw [collapsed] at h
      dsimp only at h ⊢
      split
      · exact joins _ _
      · rename_i full
        rw [if_neg full] at h
        cases least : victim lc.queue with
        | none =>
          rw [least] at h
          cases h
        | some v =>
          rw [least] at h
          dsimp only at h ⊢
          split
          · exact joins _ _
          · rename_i below
            rw [if_neg below] at h
            cases h

/-- An ORDER of class 0 stays queued whatever is offered after it: nothing collapses into it, and nothing is more urgent (R54 to R56). -/
theorem LineController.offer_keeps_order {lc : LineController} {e : TxEntry} {p : OrderPayload} (mem : e ∈ lc.queue)
    (order : e.body = .order p) (urgent : e.cls = 0) (open_ : Bool) (body : Payload) (cls : Nat) :
    e ∈ (lc.offer open_ body cls).1.queue := by
  have apart : collapsesInto body e = false := by
    unfold collapsesInto
    rw [order]
    cases body <;> rfl
  have inserted {q : List TxEntry} (x : TxEntry) (here : e ∈ q) : e ∈ insertEntry x q :=
    (insertEntry_perm x q).mem_iff.2 (List.mem_cons_of_mem _ here)
  unfold LineController.offer
  split
  · exact mem
  · split
    · exact inserted _ ((List.mem_eraseP_of_neg (by rw [apart]; exact Bool.false_ne_true)).2 mem)
    · dsimp only
      split
      · exact inserted _ mem
      · split
        · rename_i v _
          split
          · rename_i below
            have other : e ≠ v := fun same => by
              rw [← same, urgent] at below
              exact absurd below (Nat.not_lt_zero _)
            exact inserted _ ((List.mem_eraseP_of_neg (by simpa using other)).2 mem)
          · exact mem
        · exact mem

theorem LineOffers.keeps_order {a b : LineController} (h : LineOffers a b) {e : TxEntry} {p : OrderPayload} (mem : e ∈ a.queue)
    (order : e.body = .order p) (urgent : e.cls = 0) : e ∈ b.queue := by
  obtain ⟨offered, last, rfl⟩ := h
  show e ∈ (a.offerAll offered).queue
  unfold LineController.offerAll
  induction offered generalizing a with
  | nil => exact mem
  | cons o offered ih => exact ih (LineController.offer_keeps_order mem order urgent _ _ _)

theorem settle_keeps_order (old s : State) {e : TxEntry} {p : OrderPayload} (mem : e ∈ s.lc.queue) (order : e.body = .order p)
    (urgent : e.cls = 0) : e ∈ (settle old s none []).lc.queue := by
  obtain ⟨refresh, offers⟩ := settle_line old s none []
  exact offers.keeps_order mem order urgent

/-! ### Requests about an entry -/

/-- The operands of a request about an entry are in range (R137). -/
def namesEntry (origin source : Nat) : Prop := 1 ≤ origin ∧ origin ≤ 62 ∧ source ≤ 16

section
variable {s : State} {origin source : Nat} (need : EntryState)

theorem State.namedEntry_range (h : ¬namesEntry origin source) : s.namedEntry origin source need = .inr .errRange := by
  unfold namesEntry at h
  exact if_pos (by omega)

theorem State.namedEntry_missing (h : namesEntry origin source) (missing : s.entry origin source = none) :
    s.namedEntry origin source need = .inr (.errState .noEntry) := by
  obtain ⟨low, high, place⟩ := h
  unfold State.namedEntry
  rw [if_neg (by omega), missing]

theorem State.namedEntry_other (h : namesEntry origin source) {e : Entry} (present : s.entry origin source = some e)
    (other : e.state ≠ need) : s.namedEntry origin source need = .inr (.errState e.state.reason) := by
  obtain ⟨low, high, place⟩ := h
  unfold State.namedEntry
  rw [if_neg (by omega), present]
  exact if_neg other

theorem State.namedEntry_found (h : namesEntry origin source) {e : Entry} (present : s.entry origin source = some e)
    (needed : e.state = need) : s.namedEntry origin source need = .inl e := by
  obtain ⟨low, high, place⟩ := h
  unfold State.namedEntry
  rw [if_neg (by omega), present]
  exact if_pos needed

end

section
variable {s : State} {origin source : Byte} (hears : s.listens = true) (run : s.running = true)
  (station : s.cl.node.role = .station)
include hears run station

theorem exec_take_refused {r : Response} (h : s.namedEntry origin.toNat source.toNat .opened = .inr r) :
    exec (.take origin source) s = .next (s.respond r) := by
  simp only [exec, execTake, State.request_taken hears (State.portBar_station run station), h]

theorem exec_giveup_refused {r : Response} (h : s.namedEntry origin.toNat source.toNat .mine = .inr r) :
    exec (.giveup origin source) s = .next (s.respond r) := by
  simp only [exec, execGiveup, State.request_taken hears (State.portBar_station run station), h]

theorem exec_clear_refused {r : Response} (h : s.namedEntry origin.toNat source.toNat .mine = .inr r) :
    exec (.clear origin source) s = .next (s.respond r) := by
  simp only [exec, execClear, State.request_taken hears (State.portBar_station run station), h]

theorem exec_take_found {e : Entry} (h : s.namedEntry origin.toNat source.toNat .opened = .inl e) :
    exec (.take origin source) s = .next
      ((s.offerFor (.take e.ref) 1 fun t => t.relist { e with state := .taking }).1.respond
        (s.offerFor (.take e.ref) 1 fun t => t.relist { e with state := .taking }).2) := by
  simp only [exec, execTake, State.request_taken hears (State.portBar_station run station), h]

theorem exec_giveup_found {e : Entry} (h : s.namedEntry origin.toNat source.toNat .mine = .inl e) :
    exec (.giveup origin source) s = .next
      ((s.offerFor (.giveup e.ref) 1 fun t => t.relist { e with state := .opened }).1.respond
        (s.offerFor (.giveup e.ref) 1 fun t => t.relist { e with state := .opened }).2) := by
  simp only [exec, execGiveup, State.request_taken hears (State.portBar_station run station), h]

theorem exec_clear_found {e : Entry} (h : s.namedEntry origin.toNat source.toNat .mine = .inl e) :
    exec (.clear origin source) s = .next
      ((s.offerFor (.clear ⟨e.ref.origin, e.ref.source, e.ref.serial, BitVec.ofNat 8 s.nodeId⟩) 1 fun t => t).1.respond
        (s.offerFor (.clear ⟨e.ref.origin, e.ref.source, e.ref.serial, BitVec.ofNat 8 s.nodeId⟩) 1 fun t => t).2) := by
  simp only [exec, execClear, State.request_taken hears (State.portBar_station run station), h]

end

/-! ### ORDER (R70, R141) -/

theorem orderInRange_iff (code target door : Byte) : orderInRange code target door = true ↔
    code.toNat ≤ 6 ∧ 1 ≤ target.toNat ∧ target.toNat ≤ 63 ∧ (code.toNat = 6 → door.toNat ≤ 7) := by
  unfold orderInRange
  by_cases pulse : code.toNat = 6 <;> simp [pulse, and_assoc]

section
variable {s : State} {code target door : Byte} (hears : s.listens = true) (run : s.running = true)
  (station : s.cl.node.role = .station)
include hears run station

theorem exec_order_range (h : orderInRange code target door = false) :
    exec (.order code target door) s = .next (s.respond .errRange) := by
  simp only [exec, execOrder, State.request_taken hears (State.portBar_station run station), h, Bool.false_eq_true, if_false]

theorem exec_order_offered (h : orderInRange code target door = true) :
    exec (.order code target door) s = .next
      ((s.offerFor (.order ⟨code, target, if code.toNat = 6 then door else 0⟩) 0 fun t => settle s (t.applyOwnOrder code.toNat) none []).1.respond
        (s.offerFor (.order ⟨code, target, if code.toNat = 6 then door else 0⟩) 0 fun t => settle s (t.applyOwnOrder code.toNat) none []).2) := by
  simp only [exec, execOrder, State.request_taken hears (State.portBar_station run station), h, if_true, orderPayload]

end

/-- The line controller and an entered ORDER, after the node's own flags have followed it. -/
theorem settle_flag_keeps_order {old s : State} (o : FlagOrder) (n : Nat) {e : TxEntry} {p : OrderPayload}
    (mem : e ∈ s.lc.queue) (order : e.body = .order p) (urgent : e.cls = 0) :
    e ∈ (settle old (s.applyFlag o n) none []).lc.queue := by
  refine settle_keeps_order old _ ?_ order urgent
  obtain ⟨_, _, _, _, h⟩ := s.applyFlag_changes o n
  rw [h]
  exact mem

theorem ReportsIf.respond {c : Bool} {u t : State} {k : ReportKind} {a b : Nat} (h : ReportsIf c u k a b t) (r : Response) :
    ReportsIf c (u.respond r) k a b (t.respond r) := by
  cases c <;> exact h

/-- The refusals of R137, R138 and R140. -/
theorem stationRequest_refused {s : State} {origin source : Byte} (hears : s.listens = true) (run : s.running = true)
    (station : s.cl.node.role = .station) {r : Response} {need : EntryState → Prop}
    (h : ∀ needed, need needed → s.namedEntry origin.toNat source.toNat needed = .inr r) :
    (need .opened → exec (.take origin source) s = .next (s.respond r)) ∧
      (need .mine → exec (.giveup origin source) s = .next (s.respond r) ∧
        exec (.clear origin source) s = .next (s.respond r)) :=
  ⟨fun needed => exec_take_refused hears run station (h .opened needed), fun needed =>
    ⟨exec_giveup_refused hears run station (h .mine needed), exec_clear_refused hears run station (h .mine needed)⟩⟩

/-- Settles O49: the refusals, then the offer entered or not; a flag ORDER stays queued through what follows its flag. -/
theorem stationRequestsDecided : Obligations.StationRequestsDecided := by
  refine ⟨fun s origin source hears run station => ?_, fun s code target door hears run station => ?_⟩
  · refine ⟨fun range => stationRequest_refused (need := fun _ => True) hears run station fun needed _ => State.namedEntry_range needed range,
      fun range missing => stationRequest_refused (need := fun _ => True) hears run station fun needed _ =>
        State.namedEntry_missing needed range missing,
      fun e range present => ⟨stationRequest_refused hears run station fun needed other =>
        State.namedEntry_other needed range present other, fun opened => ?_, fun mine => ?_, fun mine => ?_⟩⟩
    · have row := exec_take_found hears run station (State.namedEntry_found .opened range present opened)
      refine ⟨fun entered => ?_, fun full => ?_⟩
      · rw [row, State.offerFor_entered (body := .take e.ref) entered]
        rfl
      · rw [row, State.offerFor_full (body := .take e.ref) full]
        rfl
    · have row := exec_giveup_found hears run station (State.namedEntry_found .mine range present mine)
      refine ⟨fun entered => ?_, fun full => ?_⟩
      · rw [row, State.offerFor_entered (body := .giveup e.ref) entered]
        rfl
      · rw [row, State.offerFor_full (body := .giveup e.ref) full]
        rfl
    · have row := exec_clear_found hears run station (State.namedEntry_found .mine range present mine)
      refine ⟨fun entered => ?_, fun full => ?_⟩
      · rw [row, State.offerFor_entered (body := .clear ⟨e.ref.origin, e.ref.source, e.ref.serial, BitVec.ofNat 8 s.nodeId⟩) entered]
        rfl
      · rw [row, State.offerFor_full (body := .clear ⟨e.ref.origin, e.ref.source, e.ref.serial, BitVec.ofNat 8 s.nodeId⟩) full]
        rfl
  · intro inRange r sent
    have row (range : inRange) := exec_order_offered hears run station ((orderInRange_iff code target door).2 range)
    have decided (range : inRange) (entered : r.2 = .entered) : exec (.order code target door) s =
        .next ((settle s (sent.applyOwnOrder code.toNat) none []).respond .ok) := by
      rw [row range, State.offerFor_entered entered]
    refine ⟨fun out => exec_order_range hears run station
        (Bool.eq_false_iff.2 fun is => out ((orderInRange_iff code target door).1 is)), fun range full => ?_,
      fun range entered high => ?_, fun range entered low => ?_⟩
    · rw [row range, State.offerFor_full full]
    · have same : sent.applyOwnOrder code.toNat = sent := by
        unfold State.applyOwnOrder
        rw [flagOrderOf_none high]
      rw [decided range entered, same]
      exact congrArg (fun t : State => Host.Outcome.next (t.respond .ok)) (s.offer_callConsequent _ _).settle_eq
    · have joined : ⟨.order ⟨code, target, if code.toNat = 6 then door else 0⟩, 0, s.lc.nextAge, 0, false, false⟩ ∈
          sent.lc.queue := LineController.offer_entered entered
      have named : Payload.order ⟨code, target, if code.toNat = 6 then door else 0⟩ = .order ⟨code, target, 0⟩ := by
        rw [if_neg (by omega)]
      have flag {o : FlagOrder} (is : flagOrderOf code.toNat = some o) :
          exec (.order code target door) s = .next ((settle s (sent.applyFlag o s.nodeId) none []).respond .ok) := by
        rw [decided range entered, State.applyOwnOrder_flag is]
        rfl
      have cases_ : code.toNat = 0 ∨ code.toNat = 1 ∨ code.toNat = 2 ∨ code.toNat = 3 := by omega
      have queued (o : FlagOrder) := settle_flag_keeps_order (old := s) o s.nodeId joined rfl rfl
      rw [Completes]
      obtain is | is | is | is := cases_
      · rw [flag (o := .modeDay) (by rw [is]; rfl), is]
        have applied := settle_modeDay s sent s.nodeId
        have queue := queued .modeDay
        generalize settle s (sent.applyFlag .modeDay s.nodeId) none [] = t at applied queue ⊢
        exact ⟨_, rfl, applied.follows.respond .ok, nofun, ⟨_, queue, named, rfl, rfl⟩,
          applied.modeReport.respond .ok, applied.evacuateReport.respond .ok⟩
      · rw [flag (o := .modeNight) (by rw [is]; rfl), is]
        have applied := settle_modeNight s sent s.nodeId
        have queue := queued .modeNight
        generalize settle s (sent.applyFlag .modeNight s.nodeId) none [] = t at applied queue ⊢
        exact ⟨_, rfl, applied.follows.respond .ok, nofun, ⟨_, queue, named, rfl, rfl⟩,
          applied.modeReport.respond .ok, applied.evacuateReport.respond .ok⟩
      · rw [flag (o := .evacuateOn) (by rw [is]; rfl), is]
        have applied := settle_evacuateOn_applied s sent s.nodeId
        have queue := queued .evacuateOn
        generalize settle s (sent.applyFlag .evacuateOn s.nodeId) none [] = t at applied queue ⊢
        obtain ⟨applied, latch⟩ := applied
        exact ⟨_, rfl, applied.follows.respond .ok, fun _ => latch, ⟨_, queue, named, rfl, rfl⟩,
          applied.modeReport.respond .ok, applied.evacuateReport.respond .ok⟩
      · rw [flag (o := .evacuateOff) (by rw [is]; rfl), is]
        have applied := settle_evacuateOff s sent s.nodeId
        have queue := queued .evacuateOff
        generalize settle s (sent.applyFlag .evacuateOff s.nodeId) none [] = t at applied queue ⊢
        exact ⟨_, rfl, applied.follows.respond .ok, nofun, ⟨_, queue, named, rfl, rfl⟩,
          applied.modeReport.respond .ok, applied.evacuateReport.respond .ok⟩

end Sys2Proof.Machine
end

/-! ## The duration test: requests, timers and battery (R160 to R164) -/

section
namespace Sys2Proof.Machine

/-! ### What follows a change of the test -/

/-- The duration test, its marker and the reports are read by no other block, the first fault member and the STATE apart. -/
theorem settle_tester {s u t : State} (h : CallConsequent u t)
    (owner : ∃ dt marker, u = { s with dt := dt, marker := marker }) :
    CallConsequent u (settle s t none []) ∧ Extends t.ap.reports (settle s t none []).ap.reports ∧
      (settle s t none []).now = s.now ∧ (u.hasFault = true → (settle s t none []).hasFault = true) := by
  have same : SameInputs s u := by
    obtain ⟨_, _, rfl⟩ := owner
    exact ⟨rfl, rfl, rfl, rfl, rfl, rfl, rfl, rfl, rfl⟩
  have follows := settle_callConsequent (same.trans h.sameInputs)
  refine ⟨h.trans follows, settle_extends _ _ _ _, ?_, fun fault => ?_⟩
  · rw [settle_now]
    obtain ⟨_, _, rfl⟩ := owner
    obtain ⟨_, _, _, _, _, rfl⟩ := h
    rfl
  · rw [follows.hasFault, h.hasFault]
    exact fault

/-- The same of an operation that ends with a report. -/
theorem settle_testReport {s u : State} (owner : ∃ dt marker, u = { s with dt := dt, marker := marker }) (k : ReportKind)
    (a b : Nat) : CallConsequent u (settle s (u.report k a b) none []) ∧ Reports u k a b (settle s (u.report k a b) none []) ∧
      (u.hasFault = true → (settle s (u.report k a b) none []).hasFault = true) := by
  obtain ⟨follows, queue, -, fault⟩ := settle_tester (u.report_callConsequent k a b) owner
  exact ⟨follows, queue, fault⟩

theorem State.hasFault_of_battery {s : State} (h : s.dt.batteryFault = true) : s.hasFault = true := by
  simp [State.hasFault, State.faultMembers, h]

/-! ### The operations -/

/-- A test as its end leaves it (R161, R163, R165, R166). -/
def Tester.ended (d : Tester) (last : TestResult) (fault : Bool) : Tester :=
  { d with
    state := .idle
    requested := none
    completed := none
    minute := none
    cause := none
    suspend := none
    last := last
    batteryFault := fault }

/-- The battery fault that an end leaves (R161). -/
def TestResult.fault (r : TestResult) (before : Bool) : Bool := match r with
  | .fail _ => true
  | .pass => false
  | _ => before

theorem State.endTest_eq (s : State) (r : TestResult) (peer : Option Nat) : s.endTest r peer =
    State.report { s with dt := s.dt.ended r (r.fault s.dt.batteryFault), marker := false } .testResult r.code
      (r.value (s.dt.completed.getD 0) peer) := rfl

theorem State.checkBattery_normal {s : State} (h : s.dt.battery ≠ some true) : s.checkBattery = s :=
  if_neg (by simpa using h)

theorem State.checkBattery_low {s : State} (h : s.dt.battery = some true) :
    s.checkBattery = s.endTest (.fail (s.dt.completed.getD 0)) none := if_pos (by simp [h])

/-! ### Timers and battery (R161, R163) -/

theorem State.countMinute_last {s : State} {n : Nat} (counted : s.dt.completed = some n)
    (last : s.dt.requested = some (n + 1)) : s.countMinute = State.report
      { s with dt := s.dt.ended .pass false, marker := false } .testResult 1 (n + 1) := by
  have due : some (s.dt.completed.getD 0 + 1) = s.dt.requested := by rw [counted, last]; rfl
  have value : (some (s.dt.completed.getD 0 + 1)).getD 0 = n + 1 := by rw [counted]; rfl
  unfold State.countMinute
  dsimp only [setDt]
  rw [if_pos due, State.endTest_eq]
  dsimp only [TestResult.value]
  rw [value]
  rfl

theorem State.countMinute_further {s : State} {n : Nat} (counted : s.dt.completed = some n)
    (more : s.dt.requested ≠ some (n + 1)) : s.countMinute = { s with
      dt := { s.dt with completed := some (n + 1), minute := some (s.now + 60 * Config.second) } } := by
  have due : ¬some (s.dt.completed.getD 0 + 1) = s.dt.requested := by rw [counted]; exact Ne.symm more
  unfold State.countMinute
  dsimp only [setDt]
  rw [if_neg due, counted]
  rfl

/-- Settles O56: the minute that ends a test and one that does not, the suspend timer, and the battery. -/
theorem testTimersAndBattery : Obligations.TestTimersAndBattery := by
  intro s low a
  refine ⟨fun deadline n running timer counted => ?_, fun deadline timer => ?_, fun other => ?_, fun isLow running => ?_⟩
  · have row : exec .minuteTimerExpiry s = s.expiry s.dt.minute State.countMinute := rfl
    refine ⟨fun more => ?_, fun last => ?_⟩
    · rw [row, State.expiry_running a timer, State.countMinute_further (s := s.reach deadline) counted more]
      exact congrArg Host.Outcome.next (settle_idle (s := s.reach deadline) ⟨rfl, rfl, rfl, rfl, rfl, rfl, rfl, rfl, rfl⟩ rfl id)
    · rw [Completes, row, State.expiry_running a timer, State.countMinute_last (s := s.reach deadline) counted last]
      have done := settle_testReport (s := s.reach deadline)
        (u := { s.reach deadline with dt := s.dt.ended .pass false, marker := false }) ⟨_, _, rfl⟩ .testResult 1 (n + 1)
      change ∃ t, Host.Outcome.next (settle _ (State.report { s.reach deadline with
        dt := s.dt.ended .pass false, marker := false } .testResult 1 (n + 1)) none []) = .next t ∧ _
      generalize settle _ (State.report _ .testResult 1 (n + 1)) none [] = t at done ⊢
      obtain ⟨follows, queue, -⟩ := done
      exact ⟨t, rfl, follows, queue⟩
  · have row : exec .suspendTimerExpiry s = s.expiry s.dt.suspend fun s => s.endTest (.aborted .suspendTimeout) none := rfl
    rw [Completes, row, State.expiry_running a timer, State.endTest_eq]
    have done := settle_testReport (s := s.reach deadline)
      (u := { s.reach deadline with dt := s.dt.ended (.aborted .suspendTimeout) s.dt.batteryFault, marker := false })
      ⟨_, _, rfl⟩ .testResult 3 0xFF02
    change ∃ t, Host.Outcome.next (settle _ (State.report { s.reach deadline with
      dt := s.dt.ended (.aborted .suspendTimeout) s.dt.batteryFault, marker := false } .testResult 3 0xFF02) none []) = .next t ∧ _
    generalize settle _ (State.report _ .testResult 3 0xFF02) none [] = t at done ⊢
    obtain ⟨follows, queue, -⟩ := done
    exact ⟨t, rfl, follows, queue⟩
  · have row : exec (.batteryLowChange low) s = s.event fun s => s.takeBattery low := rfl
    have plain : s.takeBattery low = { s with dt := { s.dt with battery := some low } } :=
      if_neg (by rcases other with h | h <;> simp [h, State.setDt])
    rw [row, State.event_awake a, plain]
    exact congrArg Host.Outcome.next (settle_idle ⟨rfl, rfl, rfl, rfl, rfl, rfl, rfl, rfl, rfl⟩ rfl id)
  · have row : exec (.batteryLowChange low) s = s.event fun s => s.takeBattery low := rfl
    have ends : s.takeBattery low =
        State.endTest { s with dt := { s.dt with battery := some low } } (.fail (s.dt.completed.getD 0)) none :=
      if_pos (by simp [isLow, running, State.setDt])
    rw [Completes, row, State.event_awake a, ends, State.endTest_eq]
    have done := settle_testReport (s := s) (u := { s with
        dt := Tester.ended { s.dt with battery := some low } (.fail (s.dt.completed.getD 0)) true, marker := false })
      ⟨_, _, rfl⟩ .testResult 2 (s.dt.completed.getD 0)
    change ∃ t, Host.Outcome.next (settle s (State.report { s with
        dt := Tester.ended { s.dt with battery := some low } (.fail (s.dt.completed.getD 0)) true, marker := false }
      .testResult 2 (s.dt.completed.getD 0)) none []) = .next t ∧ _
    generalize settle s (State.report _ .testResult 2 (s.dt.completed.getD 0)) none [] = t at done ⊢
    obtain ⟨follows, queue, fault⟩ := done
    exact ⟨t, rfl, follows, fault (State.hasFault_of_battery rfl), queue⟩

end Sys2Proof.Machine
end

/-! ## TEST_START, TEST_SUSPEND and TEST_RESUME (R160 to R164) -/

section
namespace Sys2Proof.Machine

/-! ### An entry to RUNNING, with the battery it finds -/

theorem settle_running_normal {s : State} {d : Tester} {marker : Bool} (normal : d.battery ≠ some true) (k : ReportKind)
    (a b : Nat) :
    CallConsequent { s with dt := d, marker := marker }
        (settle s (State.report { s with dt := d, marker := marker } k a b).checkBattery none []) ∧
      Reports s k a b (settle s (State.report { s with dt := d, marker := marker } k a b).checkBattery none []) := by
  have done := settle_testReport (s := s) (u := { s with dt := d, marker := marker }) ⟨_, _, rfl⟩ k a b
  have same : (State.report { s with dt := d, marker := marker } k a b).checkBattery =
      State.report { s with dt := d, marker := marker } k a b := State.checkBattery_normal normal
  rw [same]
  exact ⟨done.1, done.2.1⟩

/-- An entry to RUNNING on a LOW battery, settled: the test has failed at once (R161). -/
structure FailedAtOnce (s : State) (d : Tester) (k : ReportKind) (a b : Nat) (t : State) : Prop where
  follows : CallConsequent { s with dt := d.ended (.fail (d.completed.getD 0)) true, marker := false } t
  reports : Reports s k a b t
  fault : t.hasFault = true
  result : Reported s .testResult 2 (d.completed.getD 0) t

theorem settle_running_low {s : State} {d : Tester} {marker : Bool} (low : d.battery = some true) (k : ReportKind) (a b : Nat) :
    FailedAtOnce s d k a b (settle s (State.report { s with dt := d, marker := marker } k a b).checkBattery none []) := by
  have ends : (({ s with dt := d, marker := marker } : State).report k a b).checkBattery = State.report
      { s with
        dt := d.ended (.fail (d.completed.getD 0)) true
        marker := false
        ap := { s.ap with reports := (s.report k a b).ap.reports } }
      .testResult 2 (d.completed.getD 0) := State.checkBattery_low low
  have first := s.report_extends k a b
  have last : Extends (s.report k a b).ap.reports ((s.report k a b).report .testResult 2 (d.completed.getD 0)).ap.reports :=
    State.report_extends _ _ _ _
  obtain ⟨follows, queue, now, fault⟩ := settle_tester (s := s)
    (CallConsequent.of_reports { s with dt := d.ended (.fail (d.completed.getD 0)) true, marker := false }
      (first.trans last)) ⟨_, _, rfl⟩
  have form : settle s (State.report { s with dt := d, marker := marker } k a b).checkBattery none [] = settle s { s with
      dt := d.ended (.fail (d.completed.getD 0)) true
      marker := false
      ap := { s.ap with reports := ((s.report k a b).report .testResult 2 (d.completed.getD 0)).ap.reports } } none [] :=
    congrArg (settle s · none []) ends
  rw [← form] at follows queue now fault
  refine ⟨follows, last.trans queue, fault (State.hasFault_of_battery rfl), ?_⟩
  have second : Reported s .testResult 2 (d.completed.getD 0)
      ((s.report k a b).report .testResult 2 (d.completed.getD 0)) := ⟨(s.report k a b).ap.reports, first, .refl _⟩
  exact second.through (.refl _) queue now

/-- R160: a test as its start leaves it, the battery apart. -/
def Tester.started (d : Tester) (now minutes : Nat) : Tester :=
  { d with
    state := .running
    requested := some minutes
    completed := some 0
    minute := some (now + 60 * Config.second)
    cause := none
    suspend := none }

/-- R162: a test as a suspension leaves it. -/
def Tester.suspended (d : Tester) (now : Nat) (cause : SuspendCause) : Tester :=
  { d with
    state := .suspended
    minute := none
    cause := some cause
    suspend := some (now + 60 * (60 * Config.second)) }

/-- R164: a test as a resumption leaves it, the battery apart. -/
def Tester.resumed (d : Tester) (now : Nat) : Tester :=
  { d with state := .running, minute := some (now + 60 * Config.second), cause := none, suspend := none }

theorem State.startTest_eq (s : State) (minutes : Nat) : s.startTest minutes =
    (State.report { s with dt := s.dt.started s.now minutes, marker := true } .testStarted 0xFFFF minutes).checkBattery := rfl

theorem State.suspendTest_eq (s : State) (cause : SuspendCause) : s.suspendTest cause =
    State.report { s with dt := s.dt.suspended s.now cause } .testSuspended cause.code (s.dt.completed.getD 0) := rfl

theorem State.resumeTest_eq (s : State) (by_ : Resumer) : s.resumeTest by_ =
    (State.report { s with dt := s.dt.resumed s.now } .testResumed by_.code (s.dt.completed.getD 0)).checkBattery := rfl

/-! ### What bars a start or a resumption (R160, R164) -/

/-- The building's conditions, in the order of their refusals. -/
def State.testBarredBy (s : State) (r : Reason) : Prop :=
  (s.fl.gallery ≠ .quiet ∧ r = .notQuiet) ∨
    (s.fl.gallery = .quiet ∧ s.ru.f ≠ 15 ∧ r = .fireNear) ∨
    (s.fl.gallery = .quiet ∧ s.ru.f = 15 ∧ s.nt.evacuate = true ∧ r = .evacuate) ∨
    (s.fl.gallery = .quiet ∧ s.ru.f = 15 ∧ s.nt.evacuate = false ∧ s.noPeerTesting = false ∧ r = .peerTesting)

def State.testClear (s : State) : Prop :=
  s.fl.gallery = .quiet ∧ s.ru.f = 15 ∧ s.nt.evacuate = false ∧ s.noPeerTesting = true

theorem State.testBar_some {s : State} {r : Reason} (h : s.testBarredBy r) : s.testBar = some r := by
  unfold State.testBar
  obtain ⟨gallery, rfl⟩ | ⟨gallery, near, rfl⟩ | ⟨gallery, far, evacuate, rfl⟩ | ⟨gallery, far, evacuate, peer, rfl⟩ := h
  · simp [gallery]
  · simp [gallery, near]
  · simp [gallery, far, evacuate]
  · simp [gallery, far, evacuate, peer]

theorem State.testBar_none {s : State} (h : s.testClear) : s.testBar = none := by
  obtain ⟨gallery, far, evacuate, peer⟩ := h
  simp [State.testBar, gallery, far, evacuate, peer]

theorem State.startBar_state {s : State} (h : s.dt.state ≠ .idle) : s.startBar = some s.dt.state.reason :=
  if_pos (by simpa using h)

theorem State.startBar_building {s : State} (idle : s.dt.state = .idle) {r : Reason} (h : s.testBarredBy r) :
    s.startBar = some r := by
  unfold State.startBar
  rw [if_neg (by simp [idle]), State.testBar_some h]

theorem State.startBar_clear {s : State} (idle : s.dt.state = .idle) (h : s.testClear) :
    s.startBar = if s.cl.node.nightOnly && s.nt.mode != .night then some .notNight else none := by
  unfold State.startBar
  rw [if_neg (by simp [idle]), State.testBar_none h]

theorem State.resumeBar_state {s : State} (h : s.dt.state ≠ .suspended) : s.resumeBar = some s.dt.state.reason :=
  if_pos (by simpa using h)

theorem State.resumeBar_suspended {s : State} (h : s.dt.state = .suspended) : s.resumeBar = s.testBar :=
  if_neg (by simp [h])

/-! ### The requests -/

section
variable {s : State} {min : Byte} (hears : s.listens = true) (run : s.running = true)
include hears run

theorem exec_testStart_range (h : ¬(1 ≤ min.toNat ∧ min.toNat ≤ 180)) :
    exec (.testStart min) s = .next (s.respond .errRange) := by
  have out : min.toNat = 0 ∨ 180 < min.toNat := by omega
  simp only [exec, execTestStart, State.request_taken hears (State.portBar_change run), if_pos out]

theorem exec_testStart_barred (range : 1 ≤ min.toNat ∧ min.toNat ≤ 180) {r : Reason} (h : s.startBar = some r) :
    exec (.testStart min) s = .next (s.respond (.errState r)) := by
  have inside : ¬(min.toNat = 0 ∨ 180 < min.toNat) := by omega
  simp only [exec, execTestStart, State.request_taken hears (State.portBar_change run), if_neg inside, h]

theorem exec_testStart (range : 1 ≤ min.toNat ∧ min.toNat ≤ 180) (h : s.startBar = none) :
    exec (.testStart min) s = .next ((settle s (s.startTest min.toNat) none []).respond .ok) := by
  have inside : ¬(min.toNat = 0 ∨ 180 < min.toNat) := by omega
  simp only [exec, execTestStart, State.request_taken hears (State.portBar_change run), if_neg inside, h]
  rfl

theorem exec_testSuspend_idle (h : s.dt.state = .idle) : exec .testSuspend s = .next (s.respond (.errState .idle)) := by
  simp only [exec, execTestSuspend, State.request_taken hears (State.portBar_change run), h]

theorem exec_testSuspend_suspended (h : s.dt.state = .suspended) : exec .testSuspend s = .next (s.respond .ok) := by
  simp only [exec, execTestSuspend, State.request_taken hears (State.portBar_change run), h]

theorem exec_testSuspend (h : s.dt.state = .running) :
    exec .testSuspend s = .next ((settle s (s.suspendTest .host) none []).respond .ok) := by
  simp only [exec, execTestSuspend, State.request_taken hears (State.portBar_change run), h]
  rfl

theorem exec_testResume_barred {r : Reason} (h : s.resumeBar = some r) :
    exec .testResume s = .next (s.respond (.errState r)) := by
  simp only [exec, execTestResume, State.request_taken hears (State.portBar_change run), h]

theorem exec_testResume (h : s.resumeBar = none) :
    exec .testResume s = .next ((settle s (s.resumeTest .host) none []).respond .ok) := by
  simp only [exec, execTestResume, State.request_taken hears (State.portBar_change run), h]
  rfl

end

/-- Settles O54: the refusals in their order, then the start, the suspension and the resumption, with the battery found. -/
theorem testRequestsDecided : Obligations.TestRequestsDecided := by
  intro s min hears run
  refine ⟨fun out => exec_testStart_range hears run out,
    fun range busy => exec_testStart_barred hears run range (State.startBar_state busy),
    fun range idle => ⟨fun r barred => exec_testStart_barred hears run range (State.startBar_building idle barred),
      fun clear day => ?_, fun clear night => ?_⟩,
    exec_testSuspend_idle hears run, exec_testSuspend_suspended hears run, fun running => ?_,
    fun other => exec_testResume_barred hears run (State.resumeBar_state other),
    fun suspended => ⟨fun r barred => exec_testResume_barred hears run
      ((State.resumeBar_suspended suspended).trans (State.testBar_some barred)), fun clear => ?_⟩⟩
  · refine exec_testStart_barred hears run range ((State.startBar_clear idle clear).trans (if_pos ?_))
    simpa using day
  · have row := exec_testStart hears run range
      ((State.startBar_clear idle clear).trans (if_neg (by rcases night with h | h <;> simp [h])))
    refine ⟨fun normal => ?_, fun low => ?_⟩
    · have done := settle_running_normal (s := s) (d := s.dt.started s.now min.toNat) (marker := true) normal .testStarted
        0xFFFF min.toNat
      rw [State.startTest_eq] at row
      generalize settle s _ none [] = t at row done
      obtain ⟨follows, reports⟩ := done
      exact ⟨_, row, follows.respond .ok, reports⟩
    · have done := settle_running_low (s := s) (d := s.dt.started s.now min.toNat) (marker := true) low .testStarted
        0xFFFF min.toNat
      rw [State.startTest_eq] at row
      generalize settle s _ none [] = t at row done
      exact ⟨_, row, done.follows.respond .ok, done.reports, done.fault, done.result⟩
  · have row := exec_testSuspend hears run running
    have done := settle_testReport (s := s) (u := { s with dt := s.dt.suspended s.now .host }) ⟨_, _, rfl⟩ .testSuspended SuspendCause.host.code
      (s.dt.completed.getD 0)
    rw [State.suspendTest_eq] at row
    generalize settle s _ none [] = t at row done
    obtain ⟨follows, reports, -⟩ := done
    exact ⟨_, row, follows.respond .ok, reports⟩
  · have row := exec_testResume hears run ((State.resumeBar_suspended suspended).trans (State.testBar_none clear))
    rw [State.resumeTest_eq] at row
    refine ⟨fun normal => ?_, fun low => ?_⟩
    · have done := settle_running_normal (s := s) (d := s.dt.resumed s.now) (marker := s.marker) normal .testResumed
        Resumer.host.code
        (s.dt.completed.getD 0)
      generalize settle s _ none [] = t at row done
      obtain ⟨follows, reports⟩ := done
      exact ⟨_, row, follows.respond .ok, reports⟩
    · have done := settle_running_low (s := s) (d := s.dt.resumed s.now) (marker := s.marker) low .testResumed
        Resumer.host.code
        (s.dt.completed.getD 0)
      generalize settle s _ none [] = t at row done
      exact ⟨_, row, done.follows.respond .ok, done.reports, done.fault, done.result⟩

end Sys2Proof.Machine
end

/-! ## The sign step (R146, R147) -/

section
namespace Sys2Proof.Machine

/-! ### One operation at every index -/

/-- What an operation at each index below `n` does to the indexed parts of the state, given what it does at one: `keeps` is what it leaves. -/
structure ActsAt {α : Type} (read : State → Nat → α) (f : State → Nat → State) (keeps : State → Prop) (n : Nat)
    (moves : Nat → α → α → Prop) : Prop where
  kept : ∀ u k, keeps u → keeps (f u k)
  here : ∀ u, ∀ k < n, keeps u → moves k (read u k) (read (f u k) k)
  there : ∀ u, ∀ k i, i ≠ k → read (f u k) i = read u i

theorem ActsAt.forEach {α : Type} {read : State → Nat → α} {f : State → Nat → State} {keeps : State → Prop} {n : Nat}
    {moves : Nat → α → α → Prop} (h : ActsAt read f keeps n moves) {m : Nat} (le : m ≤ n) {s : State} (start : keeps s) :
    keeps (s.forEach m f) ∧ (∀ i < m, moves i (read s i) (read (s.forEach m f) i)) ∧
      ∀ i, m ≤ i → read (s.forEach m f) i = read s i := by
  induction m with
  | zero => exact ⟨start, nofun, fun _ _ => rfl⟩
  | succ m ih =>
    obtain ⟨kept, done, left⟩ := ih (by omega)
    rw [State.forEach_succ]
    refine ⟨h.kept _ _ kept, fun i below => ?_, fun i above => ?_⟩
    · by_cases last : i = m
      · subst last
        have now := h.here _ i (by omega) kept
        rw [left i (Nat.le_refl i)] at now
        exact now
      · rw [h.there _ m i last]
        exact done i (by omega)
    · rw [h.there _ m i (by omega)]
      exact left i (by omega)

/-- What is reported at one index stays reported. -/
theorem ActsAt.forEach_reported {α : Type} {read : State → Nat → α} {f : State → Nat → State} {keeps : State → Prop} {n : Nat}
    {moves : Nat → α → α → Prop} (h : ActsAt read f keeps n moves)
    (queue : ∀ u k, Extends u.ap.reports (f u k).ap.reports ∧ (f u k).now = u.now) {m : Nat} (le : m ≤ n) {s : State}
    (start : keeps s) {k : Nat} (below : k < m) {kind : ReportKind} {a b : Nat}
    (reported : ∀ u, keeps u → read u k = read s k → Reported u kind a b (f u k)) :
    Reported s kind a b (s.forEach m f) := by
  induction m with
  | zero => omega
  | succ m ih =>
    rw [State.forEach_succ]
    obtain ⟨kept, -, left⟩ := h.forEach (m := m) (by omega) start
    by_cases last : k = m
    · subst last
      have before := State.forEach_extends (f := f) (fun u i => (queue u i).1) k s
      exact (reported _ kept (left k (Nat.le_refl k))).through before (.refl _) rfl
    · exact (ih (by omega) (by omega)).through (.refl _) (queue _ m).1 (queue _ m).2

/-! ### One sign -/

/-- R146: a used sign's lamp by its display and its flash count. -/
def Sign.litNow (g : Sign) : Bool := match g.display, g.flash with
  | .plain, _ => true
  | .arrow, some k => decide (128 ≤ k ∨ k % 16 ≤ 7)
  | .cross, some k => decide (k % 32 ≤ 15)
  | _, none => true

/-- R146: the flash count after a sign step. -/
def Sign.flashed (g : Sign) : Option Nat := match g.display, g.flash with
  | .arrow, some k => some (if k < 128 then k + 1 else k)
  | .cross, some k => some ((k + 1) % 65536)
  | _, f => f

theorem Sign.lampLit_used {g : Sign} (used : g.used = true) : g.lampLit = g.litNow := by
  have low (k m : Nat) : decide (k < m + 1) = decide (k ≤ m) := decide_eq_decide.2 Nat.lt_succ_iff
  unfold Sign.lampLit Sign.litNow
  rw [used, Bool.true_and]
  cases g.display <;> cases g.flash <;> simp [Bool.decide_or, low]

theorem Sign.lampLit_unused {g : Sign} (unused : g.used = false) : g.lampLit = false := by
  unfold Sign.lampLit
  rw [unused, Bool.false_and]

theorem Sign.count_used {g : Sign} (used : g.used = true) : g.count = { g with flash := g.flashed } := by
  unfold Sign.count Sign.flashed
  rw [if_neg (by simp [used])]
  obtain ⟨_, _, _, display, _, flash, _, _⟩ := g
  cases display <;> cases flash <;> simp only
  rename_i k
  split
  · rfl
  · rfl

/-- A sign at a sign step: sensed, then counted. -/
def Sign.stepped (g : Sign) (current : Bool) : Sign := (g.sense current).count

section
variable {g : Sign} {current : Bool}

theorem Sign.stepped_unused (unused : g.used = false) : g.stepped current = g := by
  unfold Sign.stepped Sign.sense Sign.count
  simp [Sign.lampLit_unused unused, unused]

theorem Sign.stepped_dark (used : g.used = true) (dark : g.litNow = false) :
    g.stepped current = { g with flash := g.flashed } := by
  unfold Sign.stepped Sign.sense
  rw [if_pos (by rw [Sign.lampLit_used used, dark]; rfl), Sign.count_used used]

theorem Sign.sense_lit (used : g.used = true) (lit : g.litNow = true) : g.sense current =
    if current then { g with noCurrent := 0 }
    else if g.noCurrent + 1 < 32 then { g with noCurrent := g.noCurrent + 1 }
    else { g with noCurrent := 0, fault := true } := by
  unfold Sign.sense
  rw [if_neg (by rw [Sign.lampLit_used used, lit]; simp)]

theorem Sign.stepped_sound (used : g.used = true) (lit : g.litNow = true) :
    g.stepped true = { g with flash := g.flashed, noCurrent := 0 } := by
  unfold Sign.stepped
  rw [Sign.sense_lit used lit, if_pos rfl]
  exact Sign.count_used used

theorem Sign.stepped_counted (used : g.used = true) (lit : g.litNow = true) (few : g.noCurrent < 31) :
    g.stepped false = { g with flash := g.flashed, noCurrent := g.noCurrent + 1 } := by
  unfold Sign.stepped
  rw [Sign.sense_lit used lit, if_neg Bool.false_ne_true, if_pos (by omega)]
  exact Sign.count_used used

theorem Sign.sense_failed (used : g.used = true) (lit : g.litNow = true) (many : 31 ≤ g.noCurrent) :
    g.sense false = { g with noCurrent := 0, fault := true } := by
  rw [Sign.sense_lit used lit, if_neg Bool.false_ne_true, if_neg (by omega)]

theorem Sign.stepped_failed (used : g.used = true) (lit : g.litNow = true) (many : 31 ≤ g.noCurrent) :
    g.stepped false = { g with flash := g.flashed, noCurrent := 0, fault := true } := by
  unfold Sign.stepped
  rw [Sign.sense_failed used lit many]
  exact Sign.count_used used

end

/-! ### All signs -/

theorem State.sign_of_set {s t : State} {k : Nat} {v : Sign} (signs : t.sd.signs = s.sd.signs.set k v)
    (low : k < s.sd.signs.length) (i : Nat) : t.sign i = if i = k then v else s.sign i := by
  unfold State.sign
  rw [signs, List.getD_eq_getElem?_getD, List.getElem?_set]
  by_cases same : i = k
  · simp [same, low]
  · simp [same, Ne.symm same]

theorem State.stepSign_signs (s : State) (n : Nat) :
    (s.stepSign n).sd.signs = s.sd.signs.set n ((s.sign n).stepped (s.pins.signSense.getLsbD n)) := by
  obtain ⟨_, h⟩ := State.reportIf_changes (s.setSign n ((s.sign n).stepped (s.pins.signSense.getLsbD n)))
    (((s.sign n).sense (s.pins.signSense.getLsbD n)).fault && !(s.sign n).fault) .signLampFault n (s.sign n).display.code
  show (State.reportIf _ _ _ _ _).sd.signs = _
  exact congrArg (fun u : State => u.sd.signs) h

theorem stepSign_actsAt (sense : BitVec 4) : ActsAt State.sign State.stepSign
    (fun u => u.sd.signs.length = 4 ∧ u.pins.signSense = sense) 4 (fun k g g' => g' = g.stepped (sense.getLsbD k)) where
  kept u k := fun ⟨len, pins⟩ => by
    obtain ⟨_, _, h⟩ := u.stepSign_changes k
    have signs := u.stepSign_signs k
    refine ⟨by rw [signs, List.length_set, len], ?_⟩
    rw [h]
    exact pins
  here u k below := fun ⟨len, pins⟩ => by
    rw [State.sign_of_set (u.stepSign_signs k) (by omega), if_pos rfl, pins]
  there u k i other := by
    unfold State.sign
    rw [u.stepSign_signs, List.getD_eq_getElem?_getD, List.getElem?_set_ne (Ne.symm other), List.getD_eq_getElem?_getD]

theorem State.stepSign_queue (u : State) (k : Nat) :
    Extends u.ap.reports (u.stepSign k).ap.reports ∧ (u.stepSign k).now = u.now := by
  obtain ⟨_, _, h⟩ := u.stepSign_changes k
  exact ⟨u.stepSign_extends k, by rw [h]⟩

theorem State.stepSign_reported {u : State} {k : Nat} (used : (u.sign k).used = true) (lit : (u.sign k).litNow = true)
    (dark : u.pins.signSense.getLsbD k = false) (many : 31 ≤ (u.sign k).noCurrent) (sound : (u.sign k).fault = false) :
    Reported u .signLampFault k (u.sign k).display.code (u.stepSign k) := by
  have form : u.stepSign k = (u.setSign k ((u.sign k).stepped (u.pins.signSense.getLsbD k))).report .signLampFault k
      (u.sign k).display.code := if_pos (by rw [dark, Sign.sense_failed used lit many, sound]; rfl)
  rw [form]
  exact ⟨u.ap.reports, .refl _, .refl _⟩

theorem State.hasFault_of_sign {s : State} {n : Nat} (h : (s.sign n).fault = true) : s.hasFault = true := by
  have mem : s.sign n ∈ s.sd.signs := by
    unfold State.sign at h ⊢
    by_cases low : n < s.sd.signs.length
    · rw [List.getD_eq_getElem _ _ low]
      exact List.getElem_mem low
    · rw [List.getD_eq_default _ _ (by omega)] at h
      cases h
  have some_ : s.sd.signs.any (·.fault) = true := List.any_eq_true.2 ⟨_, mem, h⟩
  simp [State.hasFault, State.faultMembers, some_]

/-- What the signal driver alone does is followed by the first fault member's call alone. -/
theorem settle_signals {s u : State} (h : ∃ sd pins r, u = { s with sd := sd, pins := pins, ap := { s.ap with reports := r } }) :
    CallConsequent u (settle s u none []) := by
  obtain ⟨_, _, _, rfl⟩ := h
  exact settle_callConsequent ⟨rfl, rfl, rfl, rfl, rfl, rfl, rfl, rfl, rfl⟩

/-- The signs have taken their step. -/
def State.signsStepped (s : State) (sense : BitVec 4) : State :=
  ((s.setPins { s.pins with signSense := sense }).forEach 4 State.stepSign).startSignTimer

/-- Settles O50: `Sign.stepped` by its cases, at every sign by `stepSign_actsAt`. -/
theorem signsStep : Obligations.SignsStep := by
  intro s sense deadline a shaped timer
  have row : exec (.signStepExpiry sense) s = s.expiry s.sd.signTimer fun s => s.signsStepped sense := rfl
  dsimp only
  rw [Completes, row, State.expiry_running a timer]
  have start : ((s.reach deadline).setPins { s.pins with signSense := sense }).sd.signs.length = 4 ∧
      ((s.reach deadline).setPins { s.pins with signSense := sense }).pins.signSense = sense := ⟨shaped.signs, rfl⟩
  have acts := stepSign_actsAt sense
  obtain ⟨-, stepped, -⟩ := acts.forEach (Nat.le_refl 4) start
  have reported (n : Nat) (below : n < 4) := acts.forEach_reported State.stepSign_queue (Nat.le_refl 4) start below
    (kind := .signLampFault) (a := n) (b := (s.sign n).display.code)
  obtain ⟨v, form⟩ := State.stepSigns_changes ((s.reach deadline).setPins { s.pins with signSense := sense }) 4
  have unfolded : (s.reach deadline).signsStepped sense =
    (((s.reach deadline).setPins { s.pins with signSense := sense }).forEach 4 State.stepSign).startSignTimer := rfl
  have queue := State.forEach_extends (f := State.stepSign) (fun u i => (State.stepSign_queue u i).1) 4
    ((s.reach deadline).setPins { s.pins with signSense := sense })
  rw [unfolded]
  generalize ((s.reach deadline).setPins { s.pins with signSense := sense }).forEach 4 State.stepSign = w
    at stepped reported form queue ⊢
  have follows : CallConsequent w.startSignTimer (settle (s.reach deadline) w.startSignTimer none []) :=
    settle_signals ⟨_, _, _, by rw [form]; rfl⟩
  have later := settle_extends (s.reach deadline) w.startSignTimer none []
  have now : (settle (s.reach deadline) w.startSignTimer none []).now = w.now := by
    rw [settle_now]; rfl
  generalize settle (s.reach deadline) w.startSignTimer none [] = t at follows later now ⊢
  have signs (n : Fin 4) : t.sign n = (s.sign n).stepped (sense.getLsbD n) := by
    obtain ⟨_, _, _, _, _, rfl⟩ := follows
    exact stepped n n.2
  refine ⟨t, rfl, ⟨v.1, CallConsequent.trans ?_ follows⟩, fun n => ⟨fun unused => ?_, fun used dark => ?_,
    fun used lit current => ?_, fun used lit none_ few => ?_, fun used lit none_ many => ?_⟩⟩
  · rw [form] at queue ⊢
    exact .of_reports { s with
      now := max s.now deadline
      pins := { s.pins with signSense := sense }
      sd := { s.sd with signs := v.1, signTimer := some (max s.now deadline + 6250) } } queue
  · rw [signs, Sign.stepped_unused unused]
  · exact (signs n).trans (Sign.stepped_dark used dark)
  · exact (signs n).trans (by rw [current]; exact Sign.stepped_sound used lit)
  · exact (signs n).trans (by rw [none_]; exact Sign.stepped_counted used lit few)
  · have failed : t.sign n = { s.sign n with flash := (s.sign n).flashed, noCurrent := 0, fault := true } :=
      (signs n).trans (by rw [none_]; exact Sign.stepped_failed used lit many)
    refine ⟨failed, State.hasFault_of_sign (n := n) (by rw [failed]), fun sound => ?_⟩
    refine (reported n n.2 fun u kept same => ?_).through (.refl _) later now
    obtain ⟨-, pins⟩ := kept
    have same' : u.sign n = s.sign n := same
    rw [← same'] at used lit many sound ⊢
    exact State.stepSign_reported used lit (by rw [pins]; exact none_) many sound

end Sys2Proof.Machine
end

/-! ## The step of a floor strip (R149 to R153) -/

section
namespace Sys2Proof.Machine

/-! ### A step begun -/

/-- R152: the latch after a step in which `sense` was sensed. -/
def Strip.latched (p : Strip) (sense : BitVec 32) : Option Nat := match p.latch with
  | some i => some i
  | none => { p with lit := p.litSegments }.firstFailed sense

theorem Strip.latched_of_some {p : Strip} {i : Nat} (h : p.latch = some i) (sense : BitVec 32) :
    p.latched sense = some i := by
  unfold Strip.latched
  rw [h]

theorem Strip.litSegments_getD (p : Strip) (i : Nat) (below : i < p.n) : p.litSegments.getD i false = p.segmentLit i := by
  unfold Strip.litSegments
  rw [List.getD_eq_getElem _ _ (by simpa using below), List.getElem_map, List.getElem_range]

theorem Strip.latched_of_none {p : Strip} (h : p.latch = none) (sense : BitVec 32) (i : Nat) :
    p.latched sense = some i ↔ i < p.n ∧ p.segmentLit i = true ∧ sense.getLsbD i = false ∧
      ∀ j < i, p.segmentLit j = true → sense.getLsbD j = true := by
  have failed (j : Nat) (below : j < p.n) : (p.litSegments.getD j false && !sense.getLsbD j) = true ↔
      p.segmentLit j = true ∧ sense.getLsbD j = false := by
    rw [p.litSegments_getD j below, Bool.and_eq_true, Bool.not_eq_true']
  unfold Strip.latched
  rw [h]
  show (List.range p.n).find? (fun i => p.litSegments.getD i false && !sense.getLsbD i) = some i ↔ _
  rw [List.find?_range_eq_some]
  constructor
  · rintro ⟨here, mem, before⟩
    have below := List.mem_range.1 mem
    obtain ⟨lit, dark⟩ := (failed i below).1 here
    refine ⟨below, lit, dark, fun j lower litJ => ?_⟩
    have sound := before j lower
    rw [p.litSegments_getD j (by omega), litJ] at sound
    simpa using sound
  · rintro ⟨below, lit, dark, before⟩
    refine ⟨(failed i below).2 ⟨lit, dark⟩, List.mem_range.2 below, fun j lower => ?_⟩
    rw [p.litSegments_getD j (by omega)]
    cases litJ : p.segmentLit j
    · rfl
    · rw [before j lower litJ]
      rfl

theorem State.beginStep_eq (s : State) (k : Nat) (p : Strip) (sense : BitVec 32) : s.beginStep k p sense =
    (s.setStrip k { p with
      lit := p.litSegments
      timer := some (s.now + p.step * 5000)
      latch := p.latched sense }).reportIf (p.latch.isNone && (p.latched sense).isSome) .stripLampFault k
        ((p.latched sense).getD 0) := by
  obtain ⟨n, w, pp, step, offset, map, mode, dir, phase, flash, check, lit, latch, timer⟩ := p
  cases latch with
  | some i => rfl
  | none =>
    unfold State.beginStep Strip.latched Strip.firstFailed
    dsimp only
    cases List.find? _ _ <;> rfl

/-! ### The step of a mode -/

/-- The state at a strip's step, its segments sensed. -/
def State.stripSensed (s : State) (deadline k : Nat) (sense : BitVec 32) : State :=
  (s.reach deadline).setPins { s.pins with stripSense := s.pins.stripSense.set k sense }

theorem exec_stripStepExpiry {s : State} {k : Fin 2} {sense : BitVec 32} {deadline : Nat} (a : s.awake = true)
    (timer : (s.strip k).timer = some deadline) :
    exec (.stripStepExpiry k sense) s =
      .next (settle (s.reach deadline) ((s.stripSensed deadline k sense).stepStrip k (s.strip k) sense) none []) := by
  have row : exec (.stripStepExpiry k sense) s = s.expiry (s.strip k).timer fun s =>
    (s.setPins { s.pins with stripSense := s.pins.stripSense.set k sense }).stepStrip k (s.strip k) sense := rfl
  rw [row, State.expiry_running a timer]
  rfl

/-- A strip's step begun at its timer, and what follows. -/
theorem settle_beginStep {s : State} {k : Nat} {sense : BitVec 32} {deadline : Nat} {q : Strip} {lit : Nat → Bool}
    (lights : ∀ i, q.segmentLit i = lit i) :
    let u : State := { s with
      now := max s.now deadline
      pins := { s.pins with stripSense := s.pins.stripSense.set k sense }
      sd := { s.sd with strips := s.sd.strips.set k { q with
        lit := (List.range q.n).map lit
        timer := some (max s.now deadline + q.step * 5000)
        latch := q.latched sense } } }
    let t := settle (s.reach deadline) ((s.stripSensed deadline k sense).beginStep k q sense) none []
    CallConsequent u t ∧
      ReportsIf (q.latch.isNone && (q.latched sense).isSome) u .stripLampFault k ((q.latched sense).getD 0) t := by
  have same : (List.range q.n).map lit = q.litSegments := List.map_congr_left fun i _ => (lights i).symm
  rw [same, State.beginStep_eq]
  dsimp only
  have kept := State.reportIf_callConsequent ((s.stripSensed deadline k sense).setStrip k { q with
      lit := q.litSegments
      timer := some ((s.stripSensed deadline k sense).now + q.step * 5000)
      latch := q.latched sense }) (q.latch.isNone && (q.latched sense).isSome) .stripLampFault k ((q.latched sense).getD 0)
  obtain ⟨r, form⟩ := State.reportIf_changes ((s.stripSensed deadline k sense).setStrip k { q with
      lit := q.litSegments
      timer := some ((s.stripSensed deadline k sense).now + q.step * 5000)
      latch := q.latched sense }) (q.latch.isNone && (q.latched sense).isSome) .stripLampFault k ((q.latched sense).getD 0)
  refine ⟨kept.trans (settle_signals ⟨_, _, _, form⟩), settle_extends _ _ _ _⟩

/-- What the statement asks of a step begun, of the latch first. -/
theorem latched_cases {q : Strip} {lit : Nat → Bool} (lights : ∀ i, q.segmentLit i = lit i) (sense : BitVec 32) :
    (∀ i, q.latch = some i → q.latched sense = some i) ∧
      (q.latch = none → ∀ i, q.latched sense = some i ↔
        i < q.n ∧ lit i = true ∧ sense.getLsbD i = false ∧ ∀ j < i, lit j = true → sense.getLsbD j = true) := by
  refine ⟨fun i held => Strip.latched_of_some held sense, fun empty i => ?_⟩
  rw [Strip.latched_of_none empty]
  simp only [lights]

/-- The step of a strip whose mode begins one: what the statement asks of it. -/
theorem stepBegun {s : State} {k : Fin 2} {sense : BitVec 32} {deadline : Nat} (a : s.awake = true)
    (timer : (s.strip k).timer = some deadline) {q : Strip} {lit : Nat → Bool} (lights : ∀ i, q.segmentLit i = lit i)
    (step : (s.stripSensed deadline k sense).stepStrip k (s.strip k) sense =
      (s.stripSensed deadline k sense).beginStep k q sense) :
    ∃ latch,
      (∀ i, q.latch = some i → latch = some i) ∧
      (q.latch = none → ∀ i, latch = some i ↔
        i < q.n ∧ lit i = true ∧ sense.getLsbD i = false ∧ ∀ j < i, lit j = true → sense.getLsbD j = true) ∧
      Completes (.stripStepExpiry k sense) s fun t =>
        CallConsequent { s with
          now := max s.now deadline
          pins := { s.pins with stripSense := s.pins.stripSense.set k sense }
          sd := { s.sd with strips := s.sd.strips.set k { q with
            lit := (List.range q.n).map lit
            timer := some (max s.now deadline + q.step * 5000)
            latch := latch } } } t ∧
        ReportsIf (q.latch.isNone && latch.isSome) { s with
          now := max s.now deadline
          pins := { s.pins with stripSense := s.pins.stripSense.set k sense }
          sd := { s.sd with strips := s.sd.strips.set k { q with
            lit := (List.range q.n).map lit
            timer := some (max s.now deadline + q.step * 5000)
            latch := latch } } } .stripLampFault k (latch.getD 0) t := by
  obtain ⟨held, empty⟩ := latched_cases lights sense
  have done := settle_beginStep (s := s) (k := k) (sense := sense) (deadline := deadline) lights
  refine ⟨q.latched sense, held, empty, ?_⟩
  rw [Completes, exec_stripStepExpiry a timer, step]
  dsimp only at done
  generalize settle _ _ none [] = t at done ⊢
  exact ⟨t, rfl, done⟩

theorem lt_succ_decide (m n : Nat) : decide (m < n + 1) = decide (m ≤ n) := decide_eq_decide.2 Nat.lt_succ_iff

/-- The end of a lamp check in a node that is not evacuating (R153). -/
theorem settle_checkEnd {s : State} {deadline : Nat} {k : Nat} {sense : BitVec 32} {v : Strip}
    (latch : v.latch = (s.strip k).latch) (c : Bool) (a b : Nat) :
    settle (s.reach deadline) (((s.stripSensed deadline k sense).setStrip k v).reportIf c .lampCheckEnd a b) none [] =
      ((s.stripSensed deadline k sense).setStrip k v).reportIf c .lampCheckEnd a b := by
  have follows := State.reportIf_callConsequent ((s.stripSensed deadline k sense).setStrip k v) c .lampCheckEnd a b
  refine settle_idle (SameInputs.trans (t := (s.stripSensed deadline k sense).setStrip k v)
    ⟨rfl, rfl, rfl, rfl, rfl, rfl, rfl, rfl, rfl⟩ follows.sameInputs) ?_ fun fault => ?_
  · obtain ⟨_, _, _, _, _, form⟩ := follows
    rw [form]
    rfl
  · rw [follows.hasFault] at fault
    have strips : (s.sd.strips.set k v).any (·.latch.isSome) = true → s.sd.strips.any (·.latch.isSome) = true := by
      intro some_
      obtain ⟨q, mem, set_⟩ := List.any_eq_true.1 some_
      obtain mem | rfl := List.mem_or_eq_of_mem_set mem
      · exact List.any_eq_true.2 ⟨q, mem, set_⟩
      · rw [latch] at set_
        refine List.any_eq_true.2 ⟨s.strip k, ?_, set_⟩
        unfold State.strip at set_ ⊢
        by_cases low : k < s.sd.strips.length
        · rw [List.getD_eq_getElem _ _ low]
          exact List.getElem_mem low
        · rw [List.getD_eq_default _ _ (by omega)] at set_
          cases set_
    simp only [State.hasFault, State.faultMembers, List.any_cons, List.any_nil, Bool.or_eq_true] at fault ⊢
    exact fault.imp id (.imp id (.imp id (.imp id (.imp id (.imp id (.imp id (.imp id (.imp id (.imp id
      (.imp strips id))))))))))

/-- A strip whose check has ended in a node that is not evacuating. -/
def Strip.checkEnded (p : Strip) : Strip :=
  { p with
    check := none
    mode := .off
    dir := none
    phase := 0
    flash := none
    timer := none
    lit := List.replicate p.n false }

theorem State.lampChecking_eq (s : State) :
    (!s.lampChecking) = s.sd.strips.all fun q => decide (q.n = 0 ∨ q.check = none) := by
  unfold State.lampChecking
  rw [List.not_any_eq_all_not]
  refine congrArg (s.sd.strips.all ·) (funext fun q => ?_)
  cases check : q.check <;> simp [Strip.used, bne_decide]

theorem State.stepStrip_checkEnd {s : State} {k : Nat} {p : Strip} {sense : BitVec 32} (mode : p.mode = .check)
    (check : p.check = some 1) (calm : s.ru.evacuating = none) :
    s.stepStrip k p sense = (s.setStrip k p.checkEnded).reportIf
      ((s.setStrip k p.checkEnded).sd.strips.all fun q => decide (q.n = 0 ∨ q.check = none)) .lampCheckEnd 0xFFFF
      (((s.setStrip k p.checkEnded).strip 0).latch.getD 0xFF * 256 + ((s.setStrip k p.checkEnded).strip 1).latch.getD 0xFF) := by
  have off : Strip.modeFor { p with check := none } s.ru = (.off, none) := by simp [Strip.modeFor, calm]
  have dark : Strip.litSegments { p with check := none, mode := .off, dir := none, phase := 0, flash := none } =
      List.replicate p.n false := by
    show (List.range p.n).map (fun _ => false) = _
    rw [List.map_const', List.length_range]
  have entered : s.enterMode k { p with check := none } (.off, none) sense = s.setStrip k p.checkEnded := by
    have row : s.enterMode k { p with check := none } (.off, none) sense = s.setStrip k { p with
      check := none
      mode := .off
      dir := none
      phase := 0
      flash := none
      timer := none
      lit := Strip.litSegments { p with check := none, mode := .off, dir := none, phase := 0, flash := none } } := rfl
    rw [row, dark]
    rfl
  rw [← State.lampChecking_eq]
  rw [mode] at off entered
  unfold State.stepStrip
  simp only [mode, check, off, entered, noSubject, State.latches, pack]

/-- Settles O51, mode by mode: `stepBegun`, and the last step of a check. -/
theorem stripSteps : Obligations.StripSteps := by
  intro s k sense deadline a shaped timer
  refine ⟨fun mode => ?_, fun mode n flash => ?_, fun mode dir direction => ⟨fun forward => ?_, fun reverse => ?_⟩,
    fun mode n check => ⟨fun more => ?_, fun last calm => ?_⟩⟩
  · refine stepBegun (q := s.strip k) (lit := fun _ => true) a timer (fun i => ?_) ?_
    · simp [Strip.segmentLit, mode]
    · simp [State.stepStrip, mode]
  · refine stepBegun (q := { s.strip k with flash := some ((n + 1) % 65536) })
      (lit := fun _ => decide ((n + 1) % 65536 % 32 ≤ 15)) a timer (fun i => ?_) ?_
    · simp [Strip.segmentLit, mode, lt_succ_decide]
    · simp [State.stepStrip, mode, flash]
  · subst forward
    refine stepBegun (q := { s.strip k with phase := ((s.strip k).phase + 1) % (s.strip k).pp })
      (lit := fun i => decide ((i + (s.strip k).offset + ((s.strip k).phase + 1) % (s.strip k).pp) % (s.strip k).pp <
        (s.strip k).w)) a timer (fun i => ?_) ?_
    · simp [Strip.segmentLit, mode, direction]
    · simp [State.stepStrip, mode]
  · subst reverse
    refine stepBegun (q := { s.strip k with phase := ((s.strip k).phase + 1) % (s.strip k).pp })
      (lit := fun i => decide ((i + (s.strip k).offset + (s.strip k).pp - ((s.strip k).phase + 1) % (s.strip k).pp) %
        (s.strip k).pp < (s.strip k).w)) a timer (fun i => ?_) ?_
    · simp [Strip.segmentLit, mode, direction]
    · simp [State.stepStrip, mode]
  · obtain ⟨m, rfl⟩ : ∃ m, n = m + 2 := ⟨n - 2, by omega⟩
    refine stepBegun (q := { s.strip k with check := some (m + 1) }) (lit := fun _ => true) a timer (fun i => ?_) ?_
    · simp [Strip.segmentLit, mode]
    · simp [State.stepStrip, mode, check]
  · subst last
    have step := State.stepStrip_checkEnd (s := s.stripSensed deadline k sense) (k := k) (sense := sense) mode check calm
    rw [exec_stripStepExpiry a timer, step]
    exact congrArg Host.Outcome.next (settle_checkEnd (s := s) (v := (s.strip k).checkEnded) rfl _ _ _)

end Sys2Proof.Machine
end

/-! ## The machine right after reset -/

section
namespace Sys2Proof.Machine

theorem mem_replicate_eq {α : Type} {n : Nat} {a b : α} (h : b ∈ List.replicate n a) : b = a := (List.mem_replicate.1 h).2

theorem reset_calls {place : Option Call} (h : place ∈ State.reset.cc.calls) : place = none := mem_replicate_eq h

theorem reset_doors {d : Door} (h : d ∈ State.reset.doors) : d = .idle .unused := mem_replicate_eq h

theorem reset_signs {g : Sign} (h : g ∈ State.reset.sd.signs) : g = .unused := mem_replicate_eq h

theorem reset_strips {p : Strip} (h : p ∈ State.reset.sd.strips) : p = .unused := mem_replicate_eq h

theorem reset_points {p : Point} (h : p ∈ State.reset.cc.points) : p = .unused := mem_replicate_eq h

theorem reset_rotations {order : List Nat} (h : order ∈ State.reset.cc.rotations) : order = List.range 17 :=
  mem_replicate_eq h

theorem reset_slots {k : Slot} (h : k ∈ State.reset.nt.slots) : k = .unused := mem_replicate_eq h

theorem reset_shaped : State.reset.Shaped where
  channels := rfl
  tested := rfl
  recorded := rfl
  slots := rfl
  doors := rfl
  points := rfl
  calls := rfl
  serials := rfl
  rotations := rfl
  signs := rfl
  strips := rfl
  sense := rfl
  orders order mem := by rw [reset_rotations mem]
  priorities place mem c here := by
    rw [reset_calls mem] at here
    cases here
  pointPriorities p mem used := absurd (by rw [reset_points mem]; rfl) used

theorem reset_bounded : State.reset.Bounded where
  reports := Nat.zero_le _
  queue := Nat.zero_le _
  noise := Nat.zero_le _
  list := Nat.zero_le _
  rings ch mem := by
    obtain ⟨cfg, mem, rfl⟩ := List.mem_map.1 mem
    exact Nat.zero_le _

theorem reset_drives (d : Nat) : (State.reset.door d).lock = .free ∧ (State.reset.door d).magnet = .drop := by
  have is : State.reset.door d = .idle .unused := by
    unfold State.door
    by_cases low : d < State.reset.doors.length
    · rw [List.getD_eq_getElem _ _ low]
      exact reset_doors (List.getElem_mem low)
    · exact List.getD_eq_default _ _ (by omega)
  rw [is]
  exact ⟨rfl, rfl⟩

/-- Settles O3: before LOADING has ended most of the invariants say nothing, and the lists are their values repeated. -/
theorem resetState : Obligations.ResetState := by
  refine ⟨rfl, rfl, rfl, rfl, rfl, rfl, rfl, rfl, rfl, fun c => reset_calls, fun d mem => ?_, rfl, fun g mem => ?_,
    fun p mem b lit => ?_, rfl, rfl, rfl, reset_shaped, reset_bounded, ⟨.nil, .nil, nofun⟩, ⟨nofun, fun _ => nofun⟩, .nil,
    nofun, ⟨fun k mem => ?_, nofun, nofun⟩, fun d _ => reset_drives d, ⟨fun g mem used => ?_, fun p mem used => ?_, rfl⟩,
    nofun, fun place mem c here => ?_, nofun, nofun⟩
  · rw [reset_doors mem]
    exact ⟨rfl, rfl⟩
  · rw [reset_signs mem]
    rfl
  · rw [reset_strips mem] at lit
    cases lit
  · rw [reset_slots mem]
    decide
  · rw [reset_signs mem] at used
    cases used
  · rw [reset_strips mem] at used
    cases used
  · rw [reset_calls mem] at here
    cases here

end Sys2Proof.Machine
end

/-! ## The calls in an event's follow-up (R114, R115, R118) -/

section
namespace Sys2Proof.Machine

/-- What the other blocks leave to the call controller, and what it then does: `x` stands before the first fault member's press. -/
structure CallStages (old s t x : State) (pressed : List Nat) : Prop where
  ground : SameGround x t
  now : x.now = s.now
  queue : Extends s.ap.reports x.ap.reports
  calls : x.cc = { s.cc with calls := s.cc.calls.map (Option.map (followedCall old x)) }
  line : ∃ refresh, LineOffers { s.lc with refresh := refresh } x.lc
  done : t = announceFollow old (faultFollow old x) pressed

theorem faultFollow_ground (old x : State) : SameGround x (faultFollow old x) := by
  obtain ⟨_, _, _, h⟩ := faultFollow_changes old x
  rw [h]
  exact ⟨rfl, rfl, rfl, rfl, rfl, rfl, rfl, rfl, rfl⟩

theorem announceFollow_ground (old y : State) (pressed : List Nat) : SameGround y (announceFollow old y pressed) := by
  obtain ⟨_, _, h⟩ := announceFollow_changes old y pressed
  rw [h]
  exact ⟨rfl, rfl, rfl, rfl, rfl, rfl, rfl, rfl, rfl⟩

theorem followedCall_congr {old a b : State} (h : a.isEvacuating = b.isEvacuating) : followedCall old a = followedCall old b := by
  funext c
  unfold followedCall
  rw [h]

theorem settle_callStages (old s : State) (peer : Option Nat) (pressed : List Nat) :
    ∃ x, CallStages old s (settle old s peer pressed) x pressed := by
  unfold settle
  dsimp only
  have x1 := fireFollow_extends old s
  obtain ⟨v1, r1, h1⟩ := fireFollow_changes old s
  generalize fireFollow old s = s1 at h1 x1 ⊢
  have x2 := phaseFollow_extends old s1
  obtain ⟨_, _, _, _, h2⟩ := phaseFollow_changes old s1
  generalize phaseFollow old s1 = s2 at h2 x2 ⊢
  have x3 := routeFollow_extends old s2
  obtain ⟨r3, h3⟩ := routeFollow_changes old s2
  generalize routeFollow old s2 = s3 at h3 x3 ⊢
  have x4 := firstStateFollow_extends old s3
  have l4 := firstStateFollow_line old s3
  obtain ⟨v4, h4⟩ := firstStateFollow_changes old s3
  generalize firstStateFollow old s3 = s4 at h4 x4 l4 ⊢
  have x5 := latchFollow_extends old s4
  obtain ⟨v5, r5, h5⟩ := latchFollow_changes old s4
  generalize latchFollow old s4 = s5 at h5 x5 ⊢
  have x6 := doorsFollow_extends old s5
  obtain ⟨v6, h6⟩ := doorsFollow_changes old s5
  generalize doorsFollow old s5 = s6 at h6 x6 ⊢
  have x7 := callsFollow_extends old s6
  have h7 := callsFollow_eq old s6
  generalize callsFollow old s6 = s7 at h7 x7 ⊢
  have x8 := signalsFollow_extends old s7
  obtain ⟨v8, r8, n8, h8⟩ := signalsFollow_changes old s7
  generalize signalsFollow old s7 = s8 at h8 x8 ⊢
  have x9 := testFollow_extends old s8 peer
  obtain ⟨v9, m9, q9, n9, h9⟩ := testFollow_changes old s8 peer
  generalize testFollow old s8 peer = s9 at h9 x9 ⊢
  have x10 := stateFollow_extends old s9
  have l10 := stateFollow_line old s9
  obtain ⟨v10, h10⟩ := stateFollow_changes old s9
  generalize stateFollow old s9 = x at h10 x10 l10 ⊢
  have evac : s6.isEvacuating = x.isEvacuating := by rw [h10, h9, h8, h7]; rfl
  refine ⟨x, (faultFollow_ground old x).trans (announceFollow_ground old _ pressed), ?_,
    ((((((((x1.trans x2).trans x3).trans x4).trans x5).trans x6).trans x7).trans x8).trans x9).trans x10, ?_, ?_, rfl⟩
  · rw [h10, h9, h8, h7, h6, h5, h4, h3, h2, h1]
  · rw [← followedCall_congr evac, h10, h9, h8, h7]
    have cc : s6.cc = s.cc := by rw [h6, h5, h4, h3, h2, h1]
    rw [cc]
  · obtain ⟨refresh, first⟩ := l4
    have same4 : s3.lc = s.lc := by rw [h3, h2, h1]
    have same9 : s9.lc = s4.lc := by rw [h9, h8, h7, h6, h5]
    rw [same4] at first
    rw [same9] at l10
    exact ⟨refresh, first.trans l10⟩

end Sys2Proof.Machine
end

/-! ## The call table keeps its shape (R110, R112, R115) -/

section
namespace Sys2Proof.Machine

/-- Every priority of a call is one of the four levels. -/
def Call.Ranked (c : Call) : Prop := c.base ≤ 3 ∧ c.escalated ≤ 3 ∧ c.current ≤ 3

/-- The call controller's lists, with the priorities and rotation orders that they hold. -/
structure CallController.Shaped (cc : CallController) : Prop where
  points : cc.points.length = 8
  calls : cc.calls.length = 17
  serials : cc.serials.length = 17
  rotations : cc.rotations.length = 4
  orders : ∀ order ∈ cc.rotations, order.Perm (List.range 17)
  priorities : ∀ place ∈ cc.calls, ∀ c ∈ place, c.Ranked
  pointPriorities : ∀ p ∈ cc.points, p.kind ≠ .unused → p.priority ≤ 3

namespace CallController.Shaped

variable {cc : CallController}

theorem withCalls (h : cc.Shaped) {calls : List (Option Call)} (length : calls.length = 17)
    (ranked : ∀ place ∈ calls, ∀ c ∈ place, c.Ranked) : ({ cc with calls := calls } : CallController).Shaped :=
  { h with calls := length, priorities := ranked }

theorem setCall (h : cc.Shaped) (src : Nat) {v : Option Call} (ranked : ∀ c ∈ v, c.Ranked) :
    ({ cc with calls := cc.calls.set src v } : CallController).Shaped := by
  refine h.withCalls (by rw [List.length_set, h.calls]) fun place mem => ?_
  obtain mem | rfl := List.mem_or_eq_of_mem_set mem
  · exact h.priorities place mem
  · exact ranked

theorem setSerial (h : cc.Shaped) (src v : Nat) : ({ cc with serials := cc.serials.set src v } : CallController).Shaped :=
  { h with serials := by rw [List.length_set, h.serials] }

theorem setPoint (h : cc.Shaped) (p : Nat) {v : Point} (ranked : v.kind ≠ .unused → v.priority ≤ 3) :
    ({ cc with points := cc.points.set p v } : CallController).Shaped :=
  { h with
    points := by rw [List.length_set, h.points]
    pointPriorities := fun q mem => by
      obtain mem | rfl := List.mem_or_eq_of_mem_set mem
      · exact h.pointPriorities q mem
      · exact ranked }

theorem rotate (h : cc.Shaped) {level src : Nat} (low : level < 4) (source : src < 17) :
    ({ cc with rotations := cc.rotations.set level (rotate (cc.rotations.getD level []) src) } : CallController).Shaped :=
  { h with
    rotations := by rw [List.length_set, h.rotations]
    orders := fun order mem => by
      obtain mem | rfl := List.mem_or_eq_of_mem_set mem
      · exact h.orders order mem
      · have inside : level < cc.rotations.length := by rw [h.rotations]; exact low
        rw [List.getD_eq_getElem _ _ inside]
        have perm := h.orders _ (List.getElem_mem inside)
        have mem : src ∈ cc.rotations[level] := perm.mem_iff.2 (List.mem_range.2 source)
        unfold Machine.rotate
        exact (List.perm_append_comm.trans (List.perm_cons_erase mem).symm).trans perm }

end CallController.Shaped

theorem currentPriority_ranked {kind : CallKind} {escalated : Nat} (h : escalated ≤ 3) (evacuating : Bool) :
    currentPriority kind escalated evacuating ≤ 3 := currentPriority_le h kind evacuating

section
variable {s : State}

theorem State.call_ranked (h : s.cc.Shaped) {src : Nat} {c : Call} (present : s.call src = some c) : c.Ranked := by
  obtain ⟨place, mem, here⟩ := State.call_mem present
  exact h.priorities place mem c here

theorem State.call_source (h : s.cc.Shaped) {src : Nat} {c : Call} (present : s.call src = some c) : src < 17 := by
  by_contra outside
  have none_ : s.call src = none := List.getD_eq_default _ _ (by rw [h.calls]; omega)
  rw [none_] at present
  cases present

theorem State.setCall_shaped (h : s.cc.Shaped) (src : Nat) {c : Call} (ranked : c.Ranked) :
    (s.setCall src (some c)).cc.Shaped := h.setCall src fun d mem => by cases mem; exact ranked

theorem State.announce_shaped (h : s.cc.Shaped) (src : Nat) : (s.announce src).cc.Shaped := by
  unfold State.announce
  split
  · exact h
  · rename_i c present
    have ranked := State.call_ranked h present
    exact State.setCall_shaped (c := { c with reannounce := s.after c.reannounceTicks }) h src ranked

theorem State.announceEach_shaped (h : s.cc.Shaped) (l : List Nat) : (l.foldl State.announce s).cc.Shaped := by
  induction l generalizing s with
  | nil => exact h
  | cons src l ih => exact ih (State.announce_shaped h src)

theorem State.raise_shaped (h : s.cc.Shaped) (src : Nat) (kind : CallKind) {base : Nat} (low : base ≤ 3) :
    (s.raise src kind base).cc.Shaped := by
  refine (h.setCall src fun d mem => ?_).setSerial src _
  cases mem
  exact ⟨low, low, currentPriority_ranked low _⟩

theorem State.reportIf_cc (s : State) (c : Bool) (k : ReportKind) (a b : Nat) : (s.reportIf c k a b).cc = s.cc := by
  cases c <;> rfl

theorem State.press_shaped (h : s.cc.Shaped) (src : Nat) (kind : CallKind) {base : Nat} (low : base ≤ 3) :
    (s.press src kind base).cc.Shaped := by
  unfold State.press
  split
  · exact State.raise_shaped h src kind low
  · rename_i c present
    split
    · have ranked := State.call_ranked h present
      exact State.setCall_shaped (c := { c with reminder := true }) h src ranked
    · exact h

theorem State.doorAlarm_shaped (h : s.cc.Shaped) (src : Nat) (kind : CallKind) {priority : Nat} (low : priority ≤ 3) :
    (s.doorAlarm src kind priority).cc.Shaped := by
  unfold State.doorAlarm
  split
  · exact State.announce_shaped (State.raise_shaped h src kind low) src
  · rename_i c present
    obtain ⟨base, escalated, current⟩ := State.call_ranked h present
    dsimp only
    split
    · show (State.reportIf _ _ _ _ _).cc.Shaped
      rw [State.reportIf_cc]
      have esc : min c.escalated priority ≤ 3 := (Nat.min_le_left _ _).trans escalated
      exact State.announce_shaped (State.setCall_shaped h src ⟨low, esc, currentPriority_ranked esc _⟩) src
    · rw [State.reportIf_cc]
      refine State.announce_shaped (State.setCall_shaped h src ?_) src
      exact ⟨base, escalated, current⟩

theorem State.clearCall_shaped (h : s.cc.Shaped) (src by_ : Nat) : (s.clearCall src by_).cc.Shaped := by
  unfold State.clearCall
  split
  · exact h
  · rename_i c present
    obtain ⟨base, -, -⟩ := State.call_ranked h present
    exact (h.setCall (v := none) src nofun).rotate (by omega) (State.call_source h present)

theorem State.qualifyPoint_shaped (h : s.cc.Shaped) (p : Nat) (active : Bool) : (s.qualifyPoint p active).cc.Shaped := by
  refine h.setPoint p fun used => ?_
  have used' : (s.point p).kind ≠ .unused := used
  show (s.point p).priority ≤ 3
  unfold State.point at used' ⊢
  by_cases low : p < s.cc.points.length
  · rw [List.getD_eq_getElem _ _ low] at used' ⊢
    exact h.pointPriorities _ (List.getElem_mem low) used'
  · rw [List.getD_eq_default _ _ (by omega)] at used'
    exact absurd rfl used'

theorem State.point_ranked (h : s.cc.Shaped) {p : Nat} (used : (s.point p).kind ≠ .unused) : (s.point p).priority ≤ 3 := by
  unfold State.point at used ⊢
  by_cases low : p < s.cc.points.length
  · rw [List.getD_eq_getElem _ _ low] at used ⊢
    exact h.pointPriorities _ (List.getElem_mem low) used
  · rw [List.getD_eq_default _ _ (by omega)] at used
    exact absurd rfl used

theorem CallOp.shaped {v : State} (op : CallOp s v) (h : s.cc.Shaped) : v.cc.Shaped := by
  cases op with
  | @clearAsked sender src serial =>
    unfold State.decideClear
    split
    · exact h
    · split
      · split
        · exact State.announce_shaped h src
        · exact State.clearCall_shaped h src sender
      · exact State.announce_shaped h src
  | @take sender src serial =>
    unfold State.decideTake
    split
    · exact h
    · rename_i c present
      split
      · have ranked := State.call_ranked h present
        refine State.announce_shaped (State.setCall_shaped h src ?_) src
        exact ranked
      · exact State.announce_shaped h src
  | @giveup sender src serial =>
    unfold State.decideGiveup
    split
    · exact h
    · rename_i c present
      split
      · have ranked := State.call_ranked h present
        refine State.announce_shaped (State.setCall_shaped h src ?_) src
        exact ranked
      · exact h
  | @press p used =>
    have points : (s.qualifyPoint p true).cc.Shaped := State.qualifyPoint_shaped h p true
    have kept : (s.qualifyPoint p true).point p = { s.point p with input := some true } := by
      have inside : p.1 < s.cc.points.length := by rw [h.points]; exact p.2
      show (s.cc.points.set p _).getD p _ = _
      rw [List.getD_eq_getElem _ _ (by rw [List.length_set]; exact inside), List.getElem_set_self]
    refine State.press_shaped points p _ ?_
    rw [kept]
    exact State.point_ranked h used
  | qualify => exact State.qualifyPoint_shaped h _ _
  | key =>
    have turned : (s.setCc { s.cc with keyOn := some true }).cc.Shaped := { h with }
    unfold State.turnKey
    split
    · exact State.clearCall_shaped turned _ _
    · split
      · exact State.clearCall_shaped turned _ _
      · exact turned
  | @unanswered src c present =>
    obtain ⟨base, escalated, current⟩ := State.call_ranked h present
    have lowered : c.escalated - 1 ≤ 3 := (Nat.sub_le _ _).trans escalated
    refine State.announce_shaped (State.setCall_shaped h src ?_) src
    exact ⟨base, lowered, currentPriority_ranked lowered _⟩
  | @attend src c present =>
    have ranked := State.call_ranked h present
    refine State.announce_shaped (State.setCall_shaped h src ?_) src
    exact ranked
  | reannounce => exact State.announce_shaped h _

theorem DoorOp.calls_shaped {v : State} (op : DoorOp s v) (h : s.cc.Shaped) : v.cc.Shaped := by
  cases op with
  | @opening d =>
    unfold State.openDoor
    dsimp only
    split
    · unfold State.raiseForced
      refine State.doorAlarm_shaped ?_ _ _ ?_
      · exact h
      · split <;> omega
    · exact h
  | @hold d =>
    unfold State.holdDoor
    dsimp only
    split
    · refine State.doorAlarm_shaped ?_ _ _ (Nat.le_refl 3)
      exact h
    · exact h
  | @pulse src door =>
    unfold State.orderPulse
    split
    · exact h
    · exact h
  | _ => exact h

/-- The owners that touch the call controller. -/
theorem Footprint.cc_cases {c : Instr} {v : State} (op : Footprint c s v) :
    v.cc = s.cc ∨ DoorOp s v ∨ CallOp s v := by
  cases op with
  | run _ form => rw [form]; exact .inl rfl
  | confirm _ form =>
    obtain ⟨_, _, _, _, changed⟩ := s.confirmExpire_changes
    rw [form, changed]
    exact .inl rfl
  | @reset a b clears _ form =>
    obtain ⟨_, _, _, _, _, changed⟩ := s.decideReset_changes a b clears
    rw [form, changed]
    exact .inl rfl
  | detector op => obtain ⟨_, _, _, _, _, _, rfl⟩ := op.changes; exact .inl rfl
  | line op => obtain ⟨_, _, rfl⟩ := op.changes; exact .inl rfl
  | table op => obtain ⟨_, _, rfl⟩ := op.changes; exact .inl rfl
  | sent op => obtain ⟨_, _, _, _, rfl⟩ := op.changes; exact .inl rfl
  | doors _ op => exact .inr (.inl op)
  | calls op => exact .inr (.inr op)
  | list op => obtain ⟨_, _, rfl⟩ := op.changes; exact .inl rfl
  | signals op => obtain ⟨_, _, _, _, rfl⟩ := op.changes; exact .inl rfl
  | test op => obtain ⟨_, _, _, rfl⟩ := op.changes; exact .inl rfl

theorem Footprint.calls_shaped {c : Instr} {v : State} (op : Footprint c s v) (h : s.cc.Shaped) : v.cc.Shaped := by
  obtain same | op | op := op.cc_cases
  · rw [same]
    exact h
  · exact op.calls_shaped h
  · exact op.shaped h

theorem followedCall_ranked (old : State) {c : Call} (h : c.Ranked) : (followedCall old s c).Ranked := by
  unfold followedCall
  split
  · exact h
  · split
    · obtain ⟨base, escalated, -⟩ := h
      exact ⟨base, escalated, currentPriority_ranked escalated _⟩
    · exact h

theorem faultFollow_shaped (old : State) (h : s.cc.Shaped) : (faultFollow old s).cc.Shaped := by
  unfold faultFollow
  split
  · exact State.press_shaped h 16 .fault (by decide)
  · exact h

theorem settle_calls_shaped (old : State) (peer : Option Nat) (pressed : List Nat) (h : s.cc.Shaped) :
    (settle old s peer pressed).cc.Shaped := by
  obtain ⟨x, stages⟩ := settle_callStages old s peer pressed
  have followed : x.cc.Shaped := by
    rw [stages.calls]
    refine h.withCalls (by rw [List.length_map, h.calls]) fun place mem c here => ?_
    obtain ⟨before, stands, rfl⟩ := List.mem_map.1 mem
    obtain ⟨c, stood, rfl⟩ := Option.map_eq_some_iff.1 (Option.mem_def.1 here)
    exact followedCall_ranked old (h.priorities before stands c stood)
  rw [stages.done]
  exact State.announceEach_shaped (faultFollow_shaped old followed) _

end

theorem CallController.afterRestart_shaped {points : List Point} (length : points.length = 8)
    (ranked : ∀ p ∈ points, p.kind ≠ .unused → p.priority ≤ 3) : (CallController.afterRestart points).Shaped where
  points := length
  calls := rfl
  serials := rfl
  rotations := rfl
  orders order mem := by rw [List.eq_of_mem_replicate mem]
  priorities place mem c here := by
    rw [List.eq_of_mem_replicate mem] at here
    cases here
  pointPriorities := ranked

theorem State.leaveLoading_shaped (s : State) (img : List Byte) (strap : Mode) : (s.leaveLoading img strap).cc.Shaped := by
  have fresh := configOf_fresh img strap
  have start : (s.loaded img strap).reportConfig.cc.Shaped :=
    CallController.afterRestart_shaped fresh.points fun p mem => (fresh.point p mem).2
  exact State.announceEach_shaped (faultFollow_shaped _ start) _

theorem calls_kept : Kept fun s => s.cc.Shaped where
  answered a := by obtain ⟨_, _, rfl⟩ := a; exact id
  moment m := by obtain ⟨_, _, _, _, rfl⟩ := m; exact id
  pending _ := id
  restarts s phase port _ := CallController.afterRestart_shaped rfl fun p mem used => by
    rw [List.eq_of_mem_replicate mem] at used
    exact absurd rfl used
  loads s bytes strap := s.leaveLoading_shaped bytes strap
  follows _ owner h := settle_calls_shaped _ _ _ (owner.footprint.calls_shaped h)
  alone owner h := by
    obtain ⟨_, _, _, _, _, _, _, _, _, rfl⟩ := owner.changes
    exact h

end Sys2Proof.Machine
end

/-! ## The detector's lists and the walk test's keep their lengths (R14, R35, R36) -/

section
namespace Sys2Proof.Machine

/-! ### The ring of a channel -/

/-- R14: a ring holds eight values at most. -/
def Channel.Fits (ch : Channel) : Prop := ch.ring.length ≤ 8

section
variable {ch : Channel}

theorem Channel.Fits.of_ring {g : Channel} (h : ch.Fits) (kept : g.ring = ch.ring ∨ g.ring = []) : g.Fits := by
  obtain kept | kept := kept
  · exact (congrArg List.length kept).trans_le h
  · exact (congrArg List.length kept).trans_le (Nat.zero_le 8)

theorem Channel.goodSample_ring (ch : Channel) (code : Nat) (mode : Mode) (reduced : Bool) (v now : Nat) :
    (ch.goodSample code mode reduced v now).1.ring = ch.ring ∨ (ch.goodSample code mode reduced v now).1.ring = [] := by
  unfold Channel.goodSample
  dsimp only
  cases ch.state with
  | settle => dsimp only; split <;> exact .inl rfl
  | refill => dsimp only; split <;> exact .inl rfl
  | normal => dsimp only; split <;> exact .inl rfl
  | prealarm => dsimp only; split <;> exact .inl rfl
  | verify => dsimp only; split <;> exact .inl rfl
  | alarm => exact .inl rfl
  | fault =>
    dsimp only
    split
    · exact .inr rfl
    · exact .inl rfl
  | isolated => exact .inl rfl

theorem Channel.faultSample_ring (ch : Channel) (cls : SampleClass) :
    (ch.faultSample cls).1.ring = ch.ring ∨ (ch.faultSample cls).1.ring = [] := by
  unfold Channel.faultSample
  cases ch.state with
  | alarm => dsimp only; split <;> exact .inl rfl
  | fault => exact .inl rfl
  | isolated => exact .inl rfl
  | _ => exact .inr rfl

theorem Channel.Fits.sample (h : ch.Fits) (code : Nat) (mode : Mode) (reduced : Bool) (v now : Nat) :
    (ch.sample code mode reduced v now).1.Fits := by
  unfold Channel.sample
  split
  · exact h.of_ring (ch.goodSample_ring ..)
  · exact h.of_ring (ch.faultSample_ring _)

theorem Channel.Fits.driftStep (h : ch.Fits) : ch.driftStep.Fits := by
  obtain ⟨_, _, form⟩ := ch.driftStep_changes
  rw [form]
  exact h

theorem Channel.Fits.rateStep (h : ch.Fits) : ch.rateStep.Fits := by
  unfold Channel.rateStep
  split
  · show (pushRing ch.ring ch.m).length ≤ 8
    unfold pushRing
    split
    · rw [List.length_append, List.length_singleton]
      omega
    · rw [List.length_drop, List.length_append, List.length_singleton]
      omega
  · exact h

theorem Channel.Fits.holdExpire (h : ch.Fits) : ch.holdExpire.Fits := by
  unfold Channel.holdExpire
  split <;> exact h

theorem Channel.Fits.fireReset (h : ch.Fits) : ch.fireReset.Fits := by
  refine h.of_ring ?_
  unfold Channel.fireReset
  dsimp only
  split
  · exact .inr rfl
  · exact .inr rfl
  · exact .inr rfl
  · exact .inr rfl
  · exact .inl rfl
  · exact .inl rfl
  · exact .inl rfl
  · exact .inl rfl

end

/-! ### The lists -/

/-- The channels, with their rings, and the lists of the walk test. -/
structure State.Scanned (s : State) : Prop where
  channels : s.ds.channels.length = 16
  rings : ∀ ch ∈ s.ds.channels, ch.Fits
  tested : s.fl.tested.length = 16
  recorded : s.fl.lastRecorded.length = 16

section
variable {s : State}

theorem State.Scanned.of_parts (h : s.Scanned) {t : State} (channels : t.ds.channels = s.ds.channels)
    (tested : t.fl.tested = s.fl.tested) (recorded : t.fl.lastRecorded = s.fl.lastRecorded) : t.Scanned :=
  ⟨by rw [channels]; exact h.channels, by rw [channels]; exact h.rings, by rw [tested]; exact h.tested,
    by rw [recorded]; exact h.recorded⟩

theorem State.Scanned.channel (h : s.Scanned) (c : Nat) : (s.channel c).Fits := by
  unfold State.channel
  by_cases low : c < s.ds.channels.length
  · exact h.rings _ (getD_mem low _)
  · rw [List.getD_eq_default _ _ (by omega)]
    exact Nat.zero_le 8

theorem State.Scanned.setChannel (h : s.Scanned) (c : Nat) {v : Channel} (fits : v.Fits) : (s.setChannel c v).Scanned :=
  { h with
    channels := (List.length_set ..).trans h.channels
    rings := fun ch mem => by
      obtain mem | rfl := List.mem_or_eq_of_mem_set mem
      · exact h.rings ch mem
      · exact fits }

theorem State.Scanned.mapChannels (h : s.Scanned) {f : Channel → Channel} (fits : ∀ ch : Channel, ch.Fits → (f ch).Fits)
    {t : State} (channels : t.ds.channels = s.ds.channels.map f) (tested : t.fl.tested.length = 16)
    (recorded : t.fl.lastRecorded.length = 16) : t.Scanned :=
  ⟨by rw [channels, List.length_map, h.channels], fun ch mem => by
    rw [channels] at mem
    obtain ⟨before, stands, rfl⟩ := List.mem_map.1 mem
    exact fits before (h.rings before stands), tested, recorded⟩

theorem State.Scanned.report (h : s.Scanned) (k : ReportKind) (a b : Nat) : (s.report k a b).Scanned := { h with }

theorem State.Scanned.reportIf (h : s.Scanned) (c : Bool) (k : ReportKind) (a b : Nat) : (s.reportIf c k a b).Scanned := by
  cases c
  · exact h
  · exact h.report k a b

theorem State.Scanned.endWalk (h : s.Scanned) (why : WalkEnd) : (s.endWalk why).Scanned := by
  unfold State.endWalk
  split
  · exact { h with tested := List.length_replicate, recorded := List.length_replicate }
  · exact h

theorem State.Scanned.evaluate (h : s.Scanned) (out : Bool) : (s.evaluate out).Scanned := by
  obtain ⟨_, _, _, _, form⟩ := s.evaluate_changes out
  rw [form]
  exact { h with }

theorem State.Scanned.completeBurst (h : s.Scanned) (c : Nat) : (s.completeBurst c).Scanned := by
  unfold State.completeBurst
  split
  · refine State.Scanned.setChannel (s := State.report _ _ _ _) ?_ c (v := (s.channel c).refill) (Nat.zero_le 8)
    exact { h with
      tested := (List.length_set ..).trans h.tested
      recorded := (List.length_set ..).trans h.recorded }
  · have ended := h.endWalk .secondAlarm
    have fits := ended.channel c
    exact (ended.setChannel (v := ((s.endWalk .secondAlarm).channel c).toAlarm) c fits).report _ _ _

theorem State.Scanned.stepDrift (h : s.Scanned) (c : Nat) : (stepDrift s c).Scanned :=
  (h.setChannel c (h.channel c).driftStep).reportIf _ _ _ _

theorem State.Scanned.forEach {f : State → Nat → State} (keeps : ∀ {u : State} (k : Nat), u.Scanned → (f u k).Scanned)
    (h : s.Scanned) (n : Nat) : (s.forEach n f).Scanned := by
  induction n with
  | zero => exact h
  | succ n ih =>
    rw [State.forEach_succ]
    exact keeps n ih

theorem DetectorOp.scanned {v : State} (op : DetectorOp s v) (h : s.Scanned) : v.Scanned := by
  cases op with
  | @sample c code n taken =>
    have passed : (s.passSlot n).Scanned := { h with }
    have sampled := passed.setChannel c ((passed.channel c).sample code (s.passSlot n).nt.mode (s.passSlot n).slotHoldsFire
      (s.passSlot n).cl.node.v (s.passSlot n).now)
    unfold State.takeSample State.takeSampleEvent
    dsimp only
    split
    · exact sampled.reportIf _ _ _ _
    · exact sampled.report _ _ _
    · exact sampled.report _ _ _
    · exact sampled.report _ _ _
    · exact sampled.completeBurst c
  | drift =>
    have stepped := h.forEach (f := stepDrift) (fun k held => held.stepDrift k) 16
    generalize s.forEach 16 stepDrift = w at stepped
    exact { stepped with }
  | rates => exact h.mapChannels (f := Channel.rateStep) (fun _ => Channel.Fits.rateStep) rfl h.tested h.recorded
  | @hold c => exact h.setChannel c (h.channel c).holdExpire
  | @isolate c => exact ((h.setChannel (v := (s.channel c).isolate) c (Nat.zero_le 8)).reportIf _ _ _ _).report _ _ _
  | @restore c => exact (h.setChannel (v := (s.channel c).restore s.now) c (Nat.zero_le 8)).report _ _ _
  | endWalk => exact h.endWalk _
  | beginWalk active => exact { h with tested := List.length_replicate, recorded := List.length_replicate }

theorem State.Scanned.decideReset (h : s.Scanned) (source target : Nat) (clears : Bool) :
    (s.decideReset source target clears).Scanned := by
  unfold State.decideReset
  split
  · exact h.report _ _ _
  · have calmed : (s.setDs { s.ds with channels := s.ds.channels.map .fireReset }).Scanned :=
      h.mapChannels (f := Channel.fireReset) (fun _ => Channel.Fits.fireReset) rfl h.tested h.recorded
    have started : s.resetStart.Scanned := by
      unfold State.resetStart
      dsimp only
      have ended := State.Scanned.endWalk (s := (s.setDs { s.ds with channels := s.ds.channels.map .fireReset }).setFl
        { (s.setDs { s.ds with channels := s.ds.channels.map .fireReset }).fl with confirm := none, cause := .clear })
        { calmed with } .reset
      obtain ⟨_, _, form⟩ := State.clearLatch_changes (((s.setDs { s.ds with channels := s.ds.channels.map .fireReset }).setFl
        { (s.setDs { s.ds with channels := s.ds.channels.map .fireReset }).fl with confirm := none, cause := .clear }).endWalk
        .reset) .reset
      rw [form]
      exact { ended with }
    have cleared : (if clears then s.resetStart.clearHeld else s.resetStart).Scanned := by
      split
      · obtain ⟨_, form⟩ := s.resetStart.clearHeld_changes
        rw [form]
        exact { started with }
      · exact started
    rw [State.acceptReset_eq]
    generalize (if clears then s.resetStart.clearHeld else s.resetStart) = w at cleared ⊢
    unfold State.resetEnd
    obtain ⟨_, _, form⟩ := w.setGallery_changes w.derivedState
    rw [form]
    exact { cleared with }

/-- The owners that touch channels or the walk test's lists. -/
theorem Footprint.scanned {c : Instr} {v : State} (op : Footprint c s v) (h : s.Scanned) : v.Scanned := by
  cases op with
  | run _ form => rw [form]; exact { h with }
  | confirm _ form =>
    rw [form]
    exact State.Scanned.evaluate (s := s.setFl { s.fl with confirm := none }) { h with } true
  | reset _ form => rw [form]; exact h.decideReset _ _ _
  | detector op => exact op.scanned h
  | line op => obtain ⟨_, _, rfl⟩ := op.changes; exact { h with }
  | table op => obtain ⟨_, _, rfl⟩ := op.changes; exact { h with }
  | sent op => obtain ⟨_, _, _, _, rfl⟩ := op.changes; exact { h with }
  | doors _ op => obtain ⟨_, _, _, _, _, _, rfl⟩ := op.changes; exact { h with }
  | calls op => obtain ⟨_, _, _, rfl⟩ := op.changes; exact { h with }
  | list op => obtain ⟨_, _, rfl⟩ := op.changes; exact { h with }
  | signals op => obtain ⟨_, _, _, _, rfl⟩ := op.changes; exact { h with }
  | test op => obtain ⟨_, _, _, rfl⟩ := op.changes; exact { h with }

theorem fireFollow_scanned (old : State) (h : s.Scanned) : (fireFollow old s).Scanned := by
  have walked : (walkFollow old s).Scanned := by
    unfold walkFollow
    split
    · exact h.endWalk _
    · split
      · exact h.endWalk _
      · exact h
  unfold fireFollow
  dsimp only
  split
  · exact walked.evaluate _
  · exact walked

theorem settle_scanned (old : State) (peer : Option Nat) (pressed : List Nat) (h : s.Scanned) :
    (settle old s peer pressed).Scanned := by
  have followed := fireFollow_scanned old h
  have fl := settle_fl old s peer pressed
  exact ⟨by rw [(settle_keeps_detector old s peer pressed).1]; exact h.channels,
    by rw [(settle_keeps_detector old s peer pressed).1]; exact h.rings, by rw [fl]; exact followed.tested,
    by rw [fl]; exact followed.recorded⟩

end

theorem Scanner.afterRestart_fits {cfgs : List ChannelConfig} {ch : Channel} (mem : ch ∈ (Scanner.afterRestart cfgs).channels) :
    ch.Fits := by
  obtain ⟨cfg, -, rfl⟩ := List.mem_map.1 mem
  exact Nat.zero_le 8

theorem scanned_kept : Kept State.Scanned where
  answered a h := by obtain ⟨_, _, rfl⟩ := a; exact { h with }
  moment m h := by obtain ⟨_, _, _, _, rfl⟩ := m; exact { h with }
  pending _ h := { h with }
  restarts s phase port _ := ⟨rfl, fun ch => Scanner.afterRestart_fits, rfl, rfl⟩
  loads s bytes strap := by
    obtain ⟨_, _, _, form⟩ := s.leaveLoading_changes bytes strap
    rw [form]
    exact ⟨(List.length_map ..).trans (configOf_fresh bytes strap).channels, fun ch => Scanner.afterRestart_fits, rfl, rfl⟩
  follows _ owner h := settle_scanned _ _ _ (owner.footprint.scanned h)
  alone owner h := by
    cases owner with
    | @grant _ n choice =>
      cases choice with
      | none => exact { h with }
      | some c => exact (h.setChannel c (v := { State.channel _ c with lastOdd := slotStart n }) (h.channel c)).of_parts rfl rfl rfl
    | stuckEnd =>
      unfold State.stuckEnd
      split <;> exact { h with }
    | clearLamps =>
      rw [State.clearLamps]
      refine State.Scanned.reportIf ?_ _ _ _ _
      exact { h with }
    | still | contend | lose | readNode | readReport | offer | relist | extendWalk | pulse => exact { h with }

end Sys2Proof.Machine
end

/-! ## Signs, strips and sounder at a change of the route record (R145, R149, R155) -/

section
namespace Sys2Proof.Machine

/-! ### A mode entered -/

/-- A strip at its entry to mode `m`, phase and flash count from the start (R150, R151). -/
def Strip.begun (p : Strip) (m : StripMode × Option Dir) : Strip :=
  { p with mode := m.1, dir := m.2, phase := 0, flash := if m.1 = .noRoute then some 0 else none }

/-- The strip that has entered mode `m` at `now`, with the latch that the step so begun leaves (R149, R152). -/
def Strip.entered (p : Strip) (m : StripMode × Option Dir) (now : Nat) (latch : Option Nat) : Strip :=
  { p.begun m with
    lit := (p.begun m).litSegments
    timer := if m.1 = .off then none else some (now + p.step * 5000)
    latch := latch }

/-- The latch after an entry to mode `m`; no step is sensed in OFF. -/
def Strip.sensed (p : Strip) (m : StripMode × Option Dir) (sense : BitVec 32) : Option Nat :=
  if m.1 = .off then p.latch else (p.begun m).latched sense

theorem Strip.sensed_held {p : Strip} {i : Nat} (h : p.latch = some i) (m : StripMode × Option Dir) (sense : BitVec 32) :
    p.sensed m sense = some i := by
  unfold Strip.sensed
  split
  · exact h
  · exact Strip.latched_of_some (p := p.begun m) h sense

theorem Strip.sensed_taken {p : Strip} (h : p.latch = none) {m : StripMode × Option Dir} {sense : BitVec 32} {i : Nat}
    (taken : p.sensed m sense = some i) : i < p.n ∧ (p.begun m).litSegments.getD i false = true := by
  unfold Strip.sensed at taken
  split at taken
  · rw [h] at taken
    cases taken
  · obtain ⟨below, lit, -⟩ := (Strip.latched_of_none (p := p.begun m) h sense i).1 taken
    exact ⟨below, by rw [(p.begun m).litSegments_getD i below]; exact lit⟩

theorem State.enterMode_eq (s : State) (k : Nat) (p : Strip) (m : StripMode × Option Dir) (sense : BitVec 32) :
    s.enterMode k p m sense = (s.setStrip k (p.entered m s.now (p.sensed m sense))).reportIf
      (p.latch.isNone && (p.sensed m sense).isSome) .stripLampFault k ((p.sensed m sense).getD 0) := by
  by_cases off : m.1 = .off
  · have silent : (p.latch.isNone && p.latch.isSome) = false := by cases p.latch <;> rfl
    rw [Strip.sensed, if_pos off, silent, Strip.entered, if_pos off]
    unfold State.enterMode
    dsimp only
    rw [if_pos off]
    rfl
  · rw [Strip.sensed, if_neg off, Strip.entered, if_neg off]
    unfold State.enterMode
    dsimp only
    rw [if_neg off]
    exact State.beginStep_eq s k (p.begun m) sense

/-- From `u` to `v` strip `k`, taken as `p`, entered mode `m`; an empty latch takes only a segment lit at the step, and that is
reported (R152). -/
structure StripEnters (u : State) (k : Nat) (p : Strip) (m : StripMode × Option Dir) (latch : Option Nat) (v : State) : Prop where
  strips : v.sd.strips = u.sd.strips.set k (p.entered m u.now latch)
  held : ∀ i, p.latch = some i → latch = some i
  taken : p.latch = none → ∀ i, latch = some i →
    i < p.n ∧ (p.begun m).litSegments.getD i false = true ∧ Reported u .stripLampFault k i v

theorem State.enterMode_enters (s : State) (k : Nat) (p : Strip) (m : StripMode × Option Dir) (sense : BitVec 32) :
    StripEnters s k p m (p.sensed m sense) (s.enterMode k p m sense) := by
  have form := s.enterMode_eq k p m sense
  obtain ⟨r, changes⟩ := State.reportIf_changes (s.setStrip k (p.entered m s.now (p.sensed m sense)))
    (p.latch.isNone && (p.sensed m sense).isSome) .stripLampFault k ((p.sensed m sense).getD 0)
  refine ⟨by rw [form, changes]; rfl, fun i held => Strip.sensed_held held m sense, fun empty i taken => ?_⟩
  obtain ⟨below, lit⟩ := Strip.sensed_taken empty taken
  refine ⟨below, lit, ?_⟩
  rw [form, taken, empty]
  exact ⟨s.ap.reports, .refl _, .refl _⟩

theorem State.enterModeFreely_enters (s : State) (k : Nat) (p : Strip) (m : StripMode × Option Dir) :
    ∃ latch, StripEnters s k p m latch (s.enterModeFreely k p m) := by
  obtain ⟨strips, held, taken⟩ := (s.setFreeCount (s.freeCount + 1)).enterMode_enters k p m (Config.freeSense s.freeCount)
  exact ⟨_, strips, held, taken⟩

theorem State.strip_of_set {s t : State} {k : Nat} {v : Strip} (strips : t.sd.strips = s.sd.strips.set k v)
    (low : k < s.sd.strips.length) (i : Nat) : t.strip i = if i = k then v else s.strip i := by
  unfold State.strip
  rw [strips, List.getD_eq_getElem?_getD, List.getElem?_set]
  by_cases same : i = k
  · simp [same, low]
  · simp [same, Ne.symm same]

/-! ### The strips at a change of the route record -/

/-- The strip enters a mode under route record `r`: another than it has, or CHASE again at a change of via (R149, R150). -/
def Strip.turns (p : Strip) (r : Route) (viaChanged : Bool) : Bool :=
  p.used && (p.mode != (p.modeFor r).1 || ((p.modeFor r).1 = .chase && viaChanged))

theorem followStrip_turns {viaChanged : Bool} {s : State} {k : Nat} (h : (s.strip k).turns s.ru viaChanged = true) :
    followStrip viaChanged s k = s.enterModeFreely k (s.strip k) ((s.strip k).modeFor s.ru) := by
  unfold Strip.turns at h
  obtain ⟨used, turns⟩ := (Bool.and_eq_true _ _).mp h
  unfold followStrip
  dsimp only
  rw [if_neg (by rw [used]; decide), if_pos turns]

theorem followStrip_stays {viaChanged : Bool} {s : State} {k : Nat} (h : (s.strip k).turns s.ru viaChanged = false) :
    followStrip viaChanged s k = s := by
  unfold Strip.turns at h
  unfold followStrip
  dsimp only
  cases used : (s.strip k).used
  · rfl
  · rw [used, Bool.true_and] at h
    rw [if_neg (by decide), if_neg (by rw [h]; decide)]

/-- What a strip taken as `p` is after a change of the route record to `r` at `now`; `reported i` says that segment i was reported. -/
structure StripFollowed (p : Strip) (r : Route) (viaChanged : Bool) (now : Nat) (reported : Nat → Prop) (q : Strip) : Prop where
  stays : p.turns r viaChanged = false → q = p
  turns : p.turns r viaChanged = true → ∃ latch, q = p.entered (p.modeFor r) now latch ∧
    (∀ i, p.latch = some i → latch = some i) ∧
    (p.latch = none → ∀ i, latch = some i → i < p.n ∧ (p.begun (p.modeFor r)).litSegments.getD i false = true ∧ reported i)

theorem StripFollowed.mono {p q : Strip} {r : Route} {viaChanged : Bool} {now : Nat} {reported reported' : Nat → Prop}
    (h : StripFollowed p r viaChanged now reported q) (le : ∀ i, reported i → reported' i) :
    StripFollowed p r viaChanged now reported' q where
  stays := h.stays
  turns t := by
    obtain ⟨latch, form, held, taken⟩ := h.turns t
    refine ⟨latch, form, held, fun empty i some_ => ?_⟩
    obtain ⟨below, lit, known⟩ := taken empty i some_
    exact ⟨below, lit, le i known⟩

theorem followStrip_followed (viaChanged : Bool) {s : State} {k : Nat} (low : k < s.sd.strips.length) :
    StripFollowed (s.strip k) s.ru viaChanged s.now (fun i => Reported s .stripLampFault k i (followStrip viaChanged s k))
      ((followStrip viaChanged s k).strip k) where
  stays h := by rw [followStrip_stays h]
  turns h := by
    rw [followStrip_turns h]
    obtain ⟨latch, strips, held, taken⟩ := s.enterModeFreely_enters k (s.strip k) ((s.strip k).modeFor s.ru)
    exact ⟨latch, by rw [State.strip_of_set strips low, if_pos rfl], held, taken⟩

theorem followStrip_strips (viaChanged : Bool) (s : State) (k : Nat) :
    ∃ q, (followStrip viaChanged s k).sd.strips = s.sd.strips.set k q ∨ (followStrip viaChanged s k).sd.strips = s.sd.strips := by
  cases h : (s.strip k).turns s.ru viaChanged
  · exact ⟨s.strip k, .inr (by rw [followStrip_stays h])⟩
  · rw [followStrip_turns h]
    obtain ⟨latch, strips, -, -⟩ := s.enterModeFreely_enters k (s.strip k) ((s.strip k).modeFor s.ru)
    exact ⟨_, .inl strips⟩

theorem followStrip_length (viaChanged : Bool) (s : State) (k : Nat) :
    (followStrip viaChanged s k).sd.strips.length = s.sd.strips.length := by
  obtain ⟨q, h | h⟩ := followStrip_strips viaChanged s k
  · rw [h, List.length_set]
  · rw [h]

theorem followStrip_other (viaChanged : Bool) (s : State) {k i : Nat} (other : i ≠ k) :
    (followStrip viaChanged s k).strip i = s.strip i := by
  unfold State.strip
  obtain ⟨q, h | h⟩ := followStrip_strips viaChanged s k
  · rw [h, List.getD_eq_getElem?_getD, List.getElem?_set_ne (Ne.symm other), List.getD_eq_getElem?_getD]
  · rw [h]

/-- Both strips, one after the other. -/
theorem followBoth_followed (viaChanged : Bool) {s : State} (len : s.sd.strips.length = 2) {k : Nat} (low : k < 2) :
    StripFollowed (s.strip k) s.ru viaChanged s.now
      (fun i => Reported s .stripLampFault k i (s.forEach 2 (followStrip viaChanged))) ((s.forEach 2 (followStrip viaChanged)).strip k) := by
  have form : s.forEach 2 (followStrip viaChanged) = followStrip viaChanged (followStrip viaChanged s 0) 1 := rfl
  obtain ⟨v, first⟩ := followStrip_changes viaChanged s 0
  obtain ⟨w, second⟩ := followStrip_changes viaChanged (followStrip viaChanged s 0) 1
  have ru : (followStrip viaChanged s 0).ru = s.ru := by rw [first]; rfl
  have now : (followStrip viaChanged s 0).now = s.now := by rw [first]; rfl
  have now' : (followStrip viaChanged (followStrip viaChanged s 0) 1).now = (followStrip viaChanged s 0).now := by
    rw [second]; rfl
  have before := followStrip_extends viaChanged s 0
  have after := followStrip_extends viaChanged (followStrip viaChanged s 0) 1
  rw [form]
  obtain rfl | rfl : k = 0 ∨ k = 1 := by omega
  · rw [followStrip_other viaChanged _ (by decide)]
    exact (followStrip_followed viaChanged (by omega)).mono fun i known => known.through (.refl _) after now'
  · have done := followStrip_followed viaChanged (s := followStrip viaChanged s 0) (k := 1)
      (by rw [followStrip_length]; omega)
    rw [ru, now, followStrip_other viaChanged s (by decide)] at done
    exact done.mono fun i known => known.through before (.refl _) rfl

/-! ### The signal driver's part of an event -/

/-- The strip as an evacuation that ends a lamp check leaves it (R153). -/
def Strip.unchecked (p : Strip) (ends : Bool) : Strip := if ends then { p with check := none } else p

theorem State.dropChecks_strip (s : State) (k : Nat) : s.dropChecks.strip k = (s.strip k).unchecked true := by
  unfold State.strip State.dropChecks
  show (s.sd.strips.map _).getD k Strip.unused = _
  rw [show Strip.unused = (fun p : Strip => { p with check := none }) Strip.unused from rfl, List.getD_map]
  rfl

/-- An evacuation begins or lasts while a lamp check runs. -/
def State.checksEnd (s : State) : Bool := s.lampChecking && s.isEvacuating

theorem followStrips_followed (old : State) {s : State} (len : s.sd.strips.length = 2) {k : Nat} (low : k < 2) :
    StripFollowed ((s.strip k).unchecked s.checksEnd) s.ru (old.ru.via != s.ru.via) s.now
      (fun i => Reported s .stripLampFault k i (followStrips old s)) ((followStrips old s).strip k) := by
  unfold followStrips
  dsimp only
  rw [← State.checksEnd]
  have last (u : State) (c : Bool) : (u.reportIf c .lampCheckEnd noSubject 0xFFFE).strip k = u.strip k ∧
      Extends u.ap.reports (u.reportIf c .lampCheckEnd noSubject 0xFFFE).ap.reports ∧
      (u.reportIf c .lampCheckEnd noSubject 0xFFFE).now = u.now := by
    obtain ⟨r, form⟩ := State.reportIf_changes u c .lampCheckEnd noSubject 0xFFFE
    exact ⟨by rw [form]; rfl, State.reportIf_extends _ _ _ _ _, by rw [form]⟩
  cases ends : s.checksEnd
  · rw [if_neg Bool.false_ne_true]
    obtain ⟨strip, queue, now⟩ := last (s.forEach 2 (followStrip (old.ru.via != s.ru.via))) false
    rw [strip]
    exact (followBoth_followed _ len low).mono fun i known => known.through (.refl _) queue now
  · rw [if_pos rfl]
    obtain ⟨strip, queue, now⟩ := last (s.dropChecks.forEach 2 (followStrip (old.ru.via != s.ru.via))) true
    rw [strip, ← s.dropChecks_strip]
    exact (followBoth_followed (old.ru.via != s.ru.via) (s := s.dropChecks) ((List.length_map ..).trans len) low).mono
      fun i known => known.through (.refl _) queue now

end Sys2Proof.Machine
end

/-! ## Every step keeps the signals (R145, R149, R155) -/

section
namespace Sys2Proof.Machine

/-! ### The signal driver's part of an event -/

theorem signalsFollow_same {old s : State} (h : old.ru = s.ru) : signalsFollow old s = s := if_pos h

theorem signalsFollow_moved {old s : State} (h : old.ru ≠ s.ru) :
    signalsFollow old s = (followStrips old s.followSigns).followSounder := if_neg h

theorem State.followSounder_same {s : State} (h : s.sd.sounder = s.ru.sounderMode) : s.followSounder = s := if_pos h

/-- R155: the sounder at a change of the route record. -/
structure SounderFollowed (s t : State) : Prop where
  mode : t.sd.sounder = s.ru.sounderMode
  same : s.sd.sounder = s.ru.sounderMode → t.sd.cadence = s.sd.cadence ∧ t.sd.cadenceTimer = s.sd.cadenceTimer
  alert : s.sd.sounder ≠ s.ru.sounderMode → s.ru.sounderMode = .alert →
    t.sd.cadence = some true ∧ t.sd.cadenceTimer = some (s.now + Config.second)
  silent : s.sd.sounder ≠ s.ru.sounderMode → s.ru.sounderMode ≠ .alert → t.sd.cadence = none ∧ t.sd.cadenceTimer = none

theorem State.followSounder_followed (s : State) : SounderFollowed s s.followSounder := by
  unfold State.followSounder
  dsimp only
  by_cases same : s.sd.sounder = s.ru.sounderMode
  · rw [if_pos same]
    exact ⟨same, fun _ => ⟨rfl, rfl⟩, fun other => absurd same other, fun other => absurd same other⟩
  · rw [if_neg same]
    by_cases alert : s.ru.sounderMode = .alert
    · rw [if_pos alert]
      exact ⟨rfl, fun h => absurd h same, fun _ _ => ⟨rfl, rfl⟩, fun _ other => absurd alert other⟩
    · rw [if_neg alert]
      exact ⟨rfl, fun h => absurd h same, fun _ h => absurd h alert, fun _ _ => ⟨rfl, rfl⟩⟩

section
variable {old s : State}

theorem followStrips_signs (old s : State) : (followStrips old s).sd.signs = s.sd.signs := by
  obtain ⟨_, form⟩ := followStrips_changes old s
  rw [form]
  rfl

theorem signalsFollow_signs (h : old.ru ≠ s.ru) : (signalsFollow old s).sd.signs = s.sd.signs.map (·.choose s.ru) := by
  rw [signalsFollow_moved h]
  obtain ⟨_, _, _, form⟩ := (followStrips old s.followSigns).followSounder_changes
  rw [form]
  exact followStrips_signs old s.followSigns

theorem signalsFollow_strip (h : old.ru ≠ s.ru) (len : s.sd.strips.length = 2) {k : Nat} (low : k < 2) :
    StripFollowed ((s.strip k).unchecked s.checksEnd) s.ru (old.ru.via != s.ru.via) s.now
      (fun i => Reported s .stripLampFault k i (signalsFollow old s)) ((signalsFollow old s).strip k) := by
  rw [signalsFollow_moved h]
  obtain ⟨_, _, _, form⟩ := (followStrips old s.followSigns).followSounder_changes
  rw [form]
  exact followStrips_followed old (s := s.followSigns) len low

theorem signalsFollow_sounder (h : old.ru ≠ s.ru) : SounderFollowed s (signalsFollow old s) := by
  rw [signalsFollow_moved h]
  obtain ⟨_, form⟩ := followStrips_changes old s.followSigns
  have done := (followStrips old s.followSigns).followSounder_followed
  rw [form] at done ⊢
  exact ⟨done.mode, done.same, done.alert, done.silent⟩

theorem followStrips_length (old s : State) : (followStrips old s).sd.strips.length = s.sd.strips.length := by
  unfold followStrips
  dsimp only
  have both (u : State) : (u.forEach 2 (followStrip (old.ru.via != s.ru.via))).sd.strips.length = u.sd.strips.length := by
    show (followStrip _ (followStrip _ u 0) 1).sd.strips.length = _
    rw [followStrip_length, followStrip_length]
  obtain ⟨_, form⟩ := State.reportIf_changes
    ((if s.lampChecking && s.isEvacuating then s.dropChecks else s).forEach 2 (followStrip (old.ru.via != s.ru.via)))
    (s.lampChecking && s.isEvacuating) .lampCheckEnd noSubject 0xFFFE
  rw [form]
  refine (both _).trans ?_
  split
  · exact List.length_map ..
  · rfl

theorem signalsFollow_lengths (old s : State) : (signalsFollow old s).sd.signs.length = s.sd.signs.length ∧
    (signalsFollow old s).sd.strips.length = s.sd.strips.length := by
  by_cases h : old.ru = s.ru
  · rw [signalsFollow_same h]
    exact ⟨rfl, rfl⟩
  · refine ⟨by rw [signalsFollow_signs h, List.length_map], ?_⟩
    rw [signalsFollow_moved h]
    obtain ⟨_, _, _, form⟩ := (followStrips old s.followSigns).followSounder_changes
    rw [form]
    exact followStrips_length old s.followSigns

end

/-! ### The numbers of signs and strips -/

/-- Four signs and two strips. -/
structure State.Signed (s : State) : Prop where
  signs : s.sd.signs.length = 4
  strips : s.sd.strips.length = 2

/-- What a step of a strip leaves in the strips' list. -/
theorem State.beginStep_strips (s : State) (k : Nat) (p : Strip) (sense : BitVec 32) :
    (s.beginStep k p sense).sd.strips =
      s.sd.strips.set k { p with lit := p.litSegments, timer := some (s.now + p.step * 5000), latch := p.latched sense } := by
  have form := s.beginStep_eq k p sense
  obtain ⟨r, changes⟩ := State.reportIf_changes (s.setStrip k { p with
      lit := p.litSegments
      timer := some (s.now + p.step * 5000)
      latch := p.latched sense }) (p.latch.isNone && (p.latched sense).isSome) .stripLampFault k ((p.latched sense).getD 0)
  rw [form, changes]
  rfl

theorem State.enterMode_strips (s : State) (k : Nat) (p : Strip) (m : StripMode × Option Dir) (sense : BitVec 32) :
    (s.enterMode k p m sense).sd.strips = s.sd.strips.set k (p.entered m s.now (p.sensed m sense)) :=
  (s.enterMode_enters k p m sense).strips

/-- What a strip is after its step: a step begun in the mode it had, or the mode entered at the end of its check. -/
inductive StripStepped (p : Strip) (r : Route) (now : Nat) : Strip → Prop
  | begun {phase : Nat} {flash check latch : Option Nat} (running : p.mode ≠ .off) (same : check.isSome = p.check.isSome) :
      StripStepped p r now
        { p with
          phase := phase
          flash := flash
          check := check
          lit := Strip.litSegments { p with phase := phase, flash := flash, check := check }
          timer := some (now + p.step * 5000)
          latch := latch }
  | ended {latch : Option Nat} (mode : p.mode = .check) : StripStepped p r now
      (Strip.entered { p with check := none } (Strip.modeFor { p with check := none } r) now latch)

theorem State.stepStrip_strips (s : State) (k : Nat) {p : Strip} (running : p.mode ≠ .off) (sense : BitVec 32) :
    ∃ q, (s.stepStrip k p sense).sd.strips = s.sd.strips.set k q ∧ StripStepped p s.ru s.now q := by
  unfold State.stepStrip
  split
  case h_1 off => exact absurd off running
  case h_2 => exact ⟨_, s.beginStep_strips _ _ _, .begun running rfl⟩
  case h_3 => exact ⟨_, s.beginStep_strips _ _ _, .begun running rfl⟩
  case h_4 => exact ⟨_, s.beginStep_strips _ _ _, .begun running rfl⟩
  case h_5 mode =>
    split
    · rename_i check
      exact ⟨_, s.beginStep_strips _ _ _, .begun running (by rw [check]; rfl)⟩
    · obtain ⟨r, changes⟩ := State.reportIf_changes
        (s.enterMode k { p with check := none } (Strip.modeFor { p with check := none } s.ru) sense)
        (!(s.enterMode k { p with check := none } (Strip.modeFor { p with check := none } s.ru) sense).lampChecking)
        .lampCheckEnd noSubject
        (s.enterMode k { p with check := none } (Strip.modeFor { p with check := none } s.ru) sense).latches
      dsimp only
      rw [changes]
      exact ⟨_, s.enterMode_strips _ _ _ _, .ended mode⟩

theorem State.stepStrip_length (s : State) (k : Nat) (p : Strip) (sense : BitVec 32) :
    (s.stepStrip k p sense).sd.strips.length = s.sd.strips.length := by
  by_cases off : p.mode = .off
  · unfold State.stepStrip
    rw [off]
  · obtain ⟨q, strips, -⟩ := s.stepStrip_strips k off sense
    rw [strips, List.length_set]

theorem checkStrip_used {s : State} {k : Nat} (used : (s.strip k).used = true) :
    checkStrip s k = s.enterModeFreely k { s.strip k with check := some 4 } (.check, none) := if_pos used

theorem checkStrip_unused {s : State} {k : Nat} (unused : (s.strip k).used = false) : checkStrip s k = s :=
  if_neg (by rw [unused]; decide)

theorem checkStrip_length (s : State) (k : Nat) : (checkStrip s k).sd.strips.length = s.sd.strips.length := by
  cases used : (s.strip k).used
  · rw [checkStrip_unused used]
  · rw [checkStrip_used used]
    obtain ⟨_, strips, -, -⟩ := s.enterModeFreely_enters k { s.strip k with check := some 4 } (.check, none)
    rw [strips, List.length_set]

theorem checkBoth_length (s : State) : (s.forEach 2 checkStrip).sd.strips.length = s.sd.strips.length := by
  show (checkStrip (checkStrip s 0) 1).sd.strips.length = _
  rw [checkStrip_length, checkStrip_length]

theorem stepSigns_length (s : State) : (s.forEach 4 State.stepSign).sd.signs.length = s.sd.signs.length := by
  have each (n : Nat) : (s.forEach n State.stepSign).sd.signs.length = s.sd.signs.length := by
    induction n with
    | zero => rfl
    | succ n ih => rw [State.forEach_succ, State.stepSign_signs, List.length_set, ih]
  exact each 4

theorem SignalOp.signed {c : Instr} {u v : State} (op : SignalOp c u v) (h : u.Signed) : v.Signed := by
  cases op with
  | @signs sense row =>
    obtain ⟨_, form⟩ := State.stepSigns_changes (u.setPins { u.pins with signSense := sense }) 4
    have len := stepSigns_length (u.setPins { u.pins with signSense := sense })
    rw [form] at len ⊢
    exact ⟨len.trans h.signs, h.strips⟩
  | @strip k sense row running =>
    have len := State.stepStrip_length (u.setPins { u.pins with stripSense := u.pins.stripSense.set k sense }) k (u.strip k) sense
    obtain ⟨_, _, form⟩ := State.stepStrip_changes (u.setPins { u.pins with stripSense := u.pins.stripSense.set k sense }) k
      (u.strip k) sense
    rw [form] at len ⊢
    exact ⟨h.signs, len.trans h.strips⟩
  | cadence => exact { h with }
  | lampCheck =>
    have len := checkBoth_length u
    obtain ⟨_, form⟩ := State.eachStrip_changes checkStrip checkStrip_changes 2 u
    rw [form] at len ⊢
    exact ⟨h.signs, len.trans h.strips⟩

/-- Signs, strips, sounder and the lamps' currents are changed by the signal driver alone. -/
theorem Footprint.signals_or_same {c : Instr} {u v : State} (op : Footprint c u v) :
    SignalOp c u v ∨ (v.sd = u.sd ∧ v.pins = u.pins) := by
  cases op with
  | signals op => exact .inl op
  | run _ form => rw [form]; exact .inr ⟨rfl, rfl⟩
  | confirm _ form => obtain ⟨_, _, _, _, e⟩ := u.confirmExpire_changes; rw [form, e]; exact .inr ⟨rfl, rfl⟩
  | @reset a b c _ form =>
    obtain ⟨_, _, _, _, _, e⟩ := u.decideReset_changes a b c
    rw [form, e]
    exact .inr ⟨rfl, rfl⟩
  | detector op => obtain ⟨_, _, _, _, _, _, rfl⟩ := op.changes; exact .inr ⟨rfl, rfl⟩
  | line op => obtain ⟨_, _, rfl⟩ := op.changes; exact .inr ⟨rfl, rfl⟩
  | table op => obtain ⟨_, _, rfl⟩ := op.changes; exact .inr ⟨rfl, rfl⟩
  | sent op => obtain ⟨_, _, _, _, rfl⟩ := op.changes; exact .inr ⟨rfl, rfl⟩
  | doors _ op => obtain ⟨_, _, _, _, _, _, rfl⟩ := op.changes; exact .inr ⟨rfl, rfl⟩
  | calls op => obtain ⟨_, _, _, rfl⟩ := op.changes; exact .inr ⟨rfl, rfl⟩
  | list op => obtain ⟨_, _, rfl⟩ := op.changes; exact .inr ⟨rfl, rfl⟩
  | test op => obtain ⟨_, _, _, rfl⟩ := op.changes; exact .inr ⟨rfl, rfl⟩

/-- Alone LAMP_CLEAR changes the signals, in the faults and latches. -/
theorem Alone.signals {c : Instr} {u v : State} (h : Alone c u v) :
    v.sd = u.sd ∨ v.sd = { u.sd with
      signs := u.sd.signs.map fun g => { g with fault := false }
      strips := u.sd.strips.map fun p => { p with latch := none } } := by
  cases h with
  | @grant _ n choice => cases choice <;> exact .inl rfl
  | stuckEnd =>
    unfold State.stuckEnd
    split <;> exact .inl rfl
  | clearLamps =>
    obtain ⟨r, e⟩ := State.reportIf_changes (u.setSd { u.sd with
      signs := u.sd.signs.map fun g => { g with fault := false }
      strips := u.sd.strips.map fun p => { p with latch := none } }) (0 < u.lampFaults) .lampCleared noSubject u.lampFaults
    rw [State.clearLamps, e]
    exact .inr rfl
  | _ => exact .inl rfl

theorem Alone.pins {c : Instr} {u v : State} (h : Alone c u v) : v.pins = u.pins := by
  obtain ⟨_, _, _, _, _, _, _, _, _, form⟩ := h.changes
  rw [form]

theorem Footprint.signed {c : Instr} {u v : State} (op : Footprint c u v) (h : u.Signed) : v.Signed := by
  obtain signals | ⟨sd, -⟩ := op.signals_or_same
  · exact signals.signed h
  · exact ⟨by rw [sd]; exact h.signs, by rw [sd]; exact h.strips⟩

theorem settle_pins (old s : State) (peer : Option Nat) (pressed : List Nat) : (settle old s peer pressed).pins = s.pins := by
  obtain ⟨-, -, -, pins, -, -⟩ := settle_keeps old s peer pressed
  exact pins

theorem settle_signed (old : State) {s : State} (peer : Option Nat) (pressed : List Nat) (h : s.Signed) :
    (settle old s peer pressed).Signed := by
  obtain ⟨w, -, same, sd⟩ := (settle_stages old s peer pressed).signals
  obtain ⟨signs, strips⟩ := signalsFollow_lengths old w
  exact ⟨by rw [sd, signs, same]; exact h.signs, by rw [sd, strips, same]; exact h.strips⟩

theorem signed_kept : Kept State.Signed where
  answered a h := by obtain ⟨_, _, rfl⟩ := a; exact { h with }
  moment m h := by obtain ⟨_, _, _, _, rfl⟩ := m; exact { h with }
  pending _ h := { h with }
  restarts _ _ _ _ := ⟨rfl, rfl⟩
  loads s bytes strap := by
    obtain ⟨_, _, _, form⟩ := s.leaveLoading_changes bytes strap
    rw [form]
    exact ⟨(configOf_fresh bytes strap).signs, (configOf_fresh bytes strap).strips⟩
  follows _ owner h := settle_signed _ _ _ (owner.footprint.signed h)
  alone owner h := by
    obtain same | cleared := owner.signals
    · exact ⟨by rw [same]; exact h.signs, by rw [same]; exact h.strips⟩
    · exact ⟨by rw [cleared]; exact (List.length_map ..).trans h.signs, by rw [cleared]; exact (List.length_map ..).trans h.strips⟩

theorem SignalOp.stripSense {c : Instr} {u v : State} (op : SignalOp c u v) :
    v.pins.stripSense.length = u.pins.stripSense.length := by
  cases op with
  | @signs sense row =>
    obtain ⟨_, form⟩ := State.stepSigns_changes (u.setPins { u.pins with signSense := sense }) 4
    rw [form]
    rfl
  | @strip k sense row running =>
    obtain ⟨_, _, form⟩ := State.stepStrip_changes (u.setPins { u.pins with stripSense := u.pins.stripSense.set k sense }) k
      (u.strip k) sense
    rw [form]
    exact List.length_set ..
  | cadence => rfl
  | lampCheck =>
    obtain ⟨_, form⟩ := State.eachStrip_changes checkStrip checkStrip_changes 2 u
    rw [form]
    rfl

theorem AtEvent.pins {s u : State} (h : AtEvent s u) : u.pins = s.pins := by
  obtain ⟨_, _, _, _, rfl⟩ := h
  rfl

theorem Answered.pins {s t : State} (h : Answered s t) : t.pins = s.pins := by
  obtain ⟨_, _, rfl⟩ := h
  rfl

/-- The strips of which the pins give the current are as many after every command. -/
theorem exec_stripSense {c : Instr} {s t : State} (h : exec c s = .next t) :
    t.pins.stripSense.length = s.pins.stripSense.length := by
  cases exec_moves h with
  | restarts _ a => rw [a.pins]; rfl
  | @loads bytes strap _ _ form =>
    obtain ⟨_, _, _, changes⟩ := s.leaveLoading_changes bytes strap
    rw [form, changes]
    rfl
  | follows _ m owner a =>
    rw [a.pins, settle_pins, ← m.pins]
    obtain op | ⟨-, pins⟩ := owner.footprint.signals_or_same
    · exact op.stripSense
    · rw [pins]
  | alone m owner a => rw [a.pins, owner.pins, m.pins]

theorem step_stripSense {s t : State} (h : step s = .next t) : t.pins.stripSense.length = s.pins.stripSense.length := by
  rcases step_cases h with rfl | ⟨c, rest, -, h⟩
  · unfold State.tick
    split <;> rfl
  · exact (exec_stripSense h).trans rfl

end Sys2Proof.Machine
end

/-! ## What the route record gives to signs, strips and sounder (R145, R149, R153, R155) -/

section
namespace Sys2Proof.Machine

/-! ### One sign, one strip -/

/-- A used sign's display and arrow are those of route record `r` (R145). -/
def Sign.Follows (g : Sign) (r : Route) : Prop := g.used = true → g.display = r.display ∧ g.shown = g.arrowFor r

/-- A used strip's mode, direction, check and timer are those of route record `r` (R149, R153). -/
def Strip.Follows (p : Strip) (r : Route) : Prop :=
  p.used = true → (p.mode, p.dir) = p.modeFor r ∧ (p.check ≠ none → r.evacuating = none) ∧ (p.timer = none ↔ p.mode = .off)

/-- The signals are those of route record `r`. -/
structure Signals.Follow (sd : Signals) (r : Route) : Prop where
  signs : ∀ g ∈ sd.signs, g.Follows r
  strips : ∀ p ∈ sd.strips, p.Follows r
  sounder : sd.sounder = r.sounderMode

theorem State.signalsFollow_iff (s : State) : s.SignalsFollow ↔ s.sd.Follow s.ru :=
  ⟨fun ⟨signs, strips, sounder⟩ => ⟨signs, strips, sounder⟩, fun ⟨signs, strips, sounder⟩ => ⟨signs, strips, sounder⟩⟩

theorem Sign.choose_used (g : Sign) (r : Route) : (g.choose r).used = g.used := by
  unfold Sign.choose
  split <;> rfl

/-- R145, R146: what a used sign is after its display is chosen. -/
structure SignChosen (g : Sign) (r : Route) (q : Sign) : Prop where
  display : q.display = r.display
  shown : q.shown = g.arrowFor r
  arrowFor : q.arrowFor r = g.arrowFor r
  changed : g.display ≠ r.display ∨ g.shown ≠ g.arrowFor r → q.flash = if r.display = .plain then none else some 0
  same : g.display = r.display → g.shown = g.arrowFor r → q = g

theorem Sign.choose_chosen {g : Sign} (used : g.used = true) (r : Route) : SignChosen g r (g.choose r) := by
  unfold Sign.choose
  by_cases same : g.display = r.display ∧ g.shown = g.arrowFor r
  · obtain ⟨display, shown⟩ := same
    rw [if_pos (by simp [display, shown])]
    exact ⟨display, shown, rfl, fun changed => changed.elim (absurd display) (absurd shown), fun _ _ => rfl⟩
  · have other : ¬((!g.used || (decide (g.display = r.display) && decide (g.shown = g.arrowFor r))) = true) := by
      rw [used, Bool.not_true, Bool.false_or, Bool.and_eq_true, decide_eq_true_iff, decide_eq_true_iff]
      exact same
    rw [if_neg other]
    exact ⟨rfl, rfl, rfl, fun _ => rfl, fun display shown => absurd ⟨display, shown⟩ same⟩

theorem Sign.choose_follows (g : Sign) (r : Route) : (g.choose r).Follows r := by
  intro used
  have chosen := Sign.choose_chosen ((g.choose_used r).symm.trans used) r
  exact ⟨chosen.display, chosen.shown.trans chosen.arrowFor.symm⟩

/-- A strip has a direction in CHASE alone, the one of its map (R149). -/
theorem Strip.modeFor_dir (p : Strip) (r : Route) : (p.modeFor r).2 =
    if (p.modeFor r).1 = .chase then some (p.map.getD r.via.code .steady) else none := by
  unfold Strip.modeFor
  split
  · rfl
  · split
    · rfl
    · split
      · cases p.map.getD r.via.code .steady <;> rfl
      · rfl

theorem Strip.modeFor_checked {p : Strip} (checked : p.check ≠ none) (r : Route) : p.modeFor r = (.check, none) :=
  if_pos (Option.isSome_iff_ne_none.2 checked)

theorem Strip.modeFor_unchecked {p : Strip} (unchecked : p.check = none) (r : Route) : (p.modeFor r).1 ≠ .check := by
  unfold Strip.modeFor
  rw [if_neg (by rw [unchecked]; decide)]
  split
  · nofun
  · split
    · cases p.map.getD r.via.code .steady <;> nofun
    · nofun

theorem Strip.modeFor_congr {p q : Strip} (check : q.check.isSome = p.check.isSome) (map : q.map = p.map) (r : Route) :
    q.modeFor r = p.modeFor r := by
  unfold Strip.modeFor
  rw [check, map]

theorem Strip.entered_follows {p : Strip} {r : Route} (calm : p.check ≠ none → r.evacuating = none) (now : Nat)
    (latch : Option Nat) : (p.entered (p.modeFor r) now latch).Follows r := by
  intro _
  refine ⟨rfl, calm, ?_⟩
  show (if (p.modeFor r).1 = .off then none else some (now + p.step * 5000)) = none ↔ (p.modeFor r).1 = .off
  by_cases off : (p.modeFor r).1 = .off
  · rw [if_pos off]
    exact ⟨fun _ => off, fun _ => rfl⟩
  · rw [if_neg off]
    exact ⟨nofun, fun h => absurd h off⟩

/-! ### One strip at a change of the route record -/

theorem Strip.turns_false {p : Strip} {r : Route} {viaChanged : Bool} (used : p.used = true)
    (h : p.turns r viaChanged = false) : p.mode = (p.modeFor r).1 ∧ ((p.modeFor r).1 = .chase → viaChanged = false) := by
  unfold Strip.turns at h
  rw [used, Bool.true_and, Bool.or_eq_false_iff, bne_eq_false_iff_eq, Bool.and_eq_false_iff, decide_eq_false_iff_not] at h
  obtain ⟨mode, via⟩ := h
  exact ⟨mode, fun chase => via.resolve_left (absurd chase)⟩

theorem Strip.turns_true {p : Strip} {r : Route} {viaChanged : Bool} (h : p.turns r viaChanged = true) :
    p.used = true ∧ (p.mode ≠ (p.modeFor r).1 ∨ ((p.modeFor r).1 = .chase ∧ viaChanged = true)) := by
  unfold Strip.turns at h
  rw [Bool.and_eq_true, Bool.or_eq_true, bne_iff_ne, Bool.and_eq_true, decide_eq_true_iff] at h
  exact h

theorem Strip.unchecked_of_none {p : Strip} (h : p.check = none) (ends : Bool) : p.unchecked ends = p := by
  unfold Strip.unchecked
  split
  · rw [← h]
  · rfl

theorem Strip.unchecked_mode (p : Strip) (ends : Bool) : (p.unchecked ends).mode = p.mode := by
  unfold Strip.unchecked
  split <;> rfl

section
variable {p q : Strip} {before after : Route} {ends viaChanged : Bool} {now : Nat} {reported : Nat → Prop}

/-- A strip in step with the record before is in step with the record after. -/
theorem StripFollowed.follows (h : StripFollowed (p.unchecked ends) after viaChanged now reported q)
    (was : p.Follows before) (via : viaChanged = (before.via != after.via))
    (dropped : p.used = true → p.check ≠ none → after.evacuating ≠ none → ends = true) : q.Follows after := by
  intro used
  have calm (used : p.used = true) : (p.unchecked ends).check ≠ none → after.evacuating = none := by
    intro checked
    by_contra evacuating
    have running : p.check ≠ none := by
      intro none_
      rw [Strip.unchecked_of_none none_] at checked
      exact checked none_
    rw [dropped used running evacuating] at checked
    exact checked rfl
  have fields : (p.unchecked ends).used = p.used ∧ (p.unchecked ends).dir = p.dir ∧ (p.unchecked ends).timer = p.timer ∧
      (p.unchecked ends).map = p.map := by
    unfold Strip.unchecked
    split <;> exact ⟨rfl, rfl, rfl, rfl⟩
  obtain ⟨usedEq, dirEq, timerEq, mapEq⟩ := fields
  cases turns : (p.unchecked ends).turns after viaChanged
  · obtain rfl := h.stays turns
    rw [usedEq] at used
    obtain ⟨modeDir, -, timer⟩ := was used
    obtain ⟨mode, chase⟩ := Strip.turns_false (usedEq.trans used) turns
    refine ⟨Prod.ext mode ?_, calm used, ?_⟩
    · have dir : p.dir = (p.modeFor before).2 := congrArg Prod.snd modeDir
      have was : p.mode = (p.modeFor before).1 := congrArg Prod.fst modeDir
      show (p.unchecked ends).dir = ((p.unchecked ends).modeFor after).2
      rw [dirEq, dir, Strip.modeFor_dir, Strip.modeFor_dir, ← was, ← mode, Strip.unchecked_mode, mapEq]
      by_cases chasing : p.mode = .chase
      · have same := chase (mode.symm.trans ((Strip.unchecked_mode p ends).trans chasing))
        rw [via, bne_eq_false_iff_eq] at same
        rw [same]
      · rw [if_neg chasing, if_neg chasing]
    · rw [timerEq, Strip.unchecked_mode]
      exact timer
  · obtain ⟨latch, rfl, -, -⟩ := h.turns turns
    exact Strip.entered_follows (calm (usedEq.symm.trans used)) now latch used

end

/-! ### The signal driver's part of an event -/

theorem State.strip_mem {s : State} {k : Nat} (low : k < s.sd.strips.length) : s.strip k ∈ s.sd.strips := getD_mem low _

/-- A check that runs while the node evacuates is one that ends. -/
theorem State.checksEnd_of {s : State} {p : Strip} (mem : p ∈ s.sd.strips) (used : p.used = true) (checked : p.check ≠ none)
    (evacuating : s.ru.evacuating ≠ none) : s.checksEnd = true := by
  unfold State.checksEnd State.lampChecking State.isEvacuating
  rw [Bool.and_eq_true]
  exact ⟨List.any_eq_true.2 ⟨p, mem, by rw [used, Option.isSome_iff_ne_none.2 checked]; rfl⟩,
    Option.isSome_iff_ne_none.2 evacuating⟩

theorem signalsFollow_follow {old s : State} (len : s.sd.strips.length = 2) (h : s.sd.Follow old.ru) :
    (signalsFollow old s).sd.Follow s.ru := by
  by_cases same : old.ru = s.ru
  · rw [signalsFollow_same same, ← same]
    exact h
  · refine ⟨fun g mem => ?_, fun p mem => ?_, (signalsFollow_sounder same).mode⟩
    · rw [signalsFollow_signs same] at mem
      obtain ⟨before, -, rfl⟩ := List.mem_map.1 mem
      exact before.choose_follows s.ru
    · obtain ⟨k, low, rfl⟩ := mem_getD mem Strip.unused
      rw [(signalsFollow_lengths old s).2, len] at low
      have here : s.strip k ∈ s.sd.strips := State.strip_mem (by omega)
      exact (signalsFollow_strip same len low).follows (h.strips _ here) rfl fun used => State.checksEnd_of here used

/-! ### The signal driver's own steps -/

theorem Sign.stepped_follows {g : Sign} {r : Route} (h : g.Follows r) (current : Bool) : (g.stepped current).Follows r := by
  have fields : (g.stepped current).used = g.used ∧ (g.stepped current).display = g.display ∧
      (g.stepped current).shown = g.shown ∧ (g.stepped current).arrowFor r = g.arrowFor r := by
    have sensed : (g.sense current).used = g.used ∧ (g.sense current).display = g.display ∧
        (g.sense current).shown = g.shown ∧ (g.sense current).arrowFor r = g.arrowFor r := by
      unfold Sign.sense
      repeat' split
      all_goals exact ⟨rfl, rfl, rfl, rfl⟩
    have counted (g : Sign) : g.count.used = g.used ∧ g.count.display = g.display ∧ g.count.shown = g.shown ∧
        g.count.arrowFor r = g.arrowFor r := by
      unfold Sign.count
      repeat' split
      all_goals exact ⟨rfl, rfl, rfl, rfl⟩
    obtain ⟨used, display, shown, arrow⟩ := counted (g.sense current)
    exact ⟨used.trans sensed.1, display.trans sensed.2.1, shown.trans sensed.2.2.1, arrow.trans sensed.2.2.2⟩
  obtain ⟨used, display, shown, arrow⟩ := fields
  unfold Sign.Follows
  rw [used, display, shown, arrow]
  exact h

theorem stepSigns_follow {s : State} {r : Route} (h : ∀ g ∈ s.sd.signs, g.Follows r) (n : Nat) :
    ∀ g ∈ (s.forEach n State.stepSign).sd.signs, g.Follows r := by
  induction n with
  | zero => exact h
  | succ n ih =>
    rw [State.forEach_succ, State.stepSign_signs]
    intro g mem
    obtain mem | rfl := List.mem_or_eq_of_mem_set mem
    · exact ih g mem
    · unfold State.sign
      by_cases low : n < (s.forEach n State.stepSign).sd.signs.length
      · exact Sign.stepped_follows (ih _ (getD_mem low _)) _
      · rw [List.getD_eq_default _ _ (by omega)]
        exact Sign.stepped_follows (g := .unused) nofun _

/-- A strip's step keeps what the route record gives. -/
theorem StripStepped.follows {p q : Strip} {r : Route} {now : Nat} (h : StripStepped p r now q) (was : p.Follows r) :
    q.Follows r := by
  cases h with
  | begun running same =>
    intro used
    obtain ⟨mode, calm, -⟩ := was used
    refine ⟨mode.trans (Strip.modeFor_congr ?_ ?_ r).symm, fun checked => calm fun none_ => ?_, nofun,
      fun off => absurd off running⟩
    · exact same
    · rfl
    rw [none_, Option.isSome_none, Option.isSome_eq_false_iff, Option.isNone_iff_eq_none] at same
    exact checked same
  | ended => exact Strip.entered_follows (p := { p with check := none }) (absurd rfl) now _

theorem Signals.Follow.setStrip {sd sd' : Signals} {r : Route} (h : sd.Follow r) {k : Nat} {q : Strip}
    (strips : sd'.strips = sd.strips.set k q) (signs : sd'.signs = sd.signs) (sounder : sd'.sounder = sd.sounder)
    (follows : q.Follows r) : sd'.Follow r where
  signs g mem := h.signs g (by rw [← signs]; exact mem)
  strips p mem := by
    rw [strips] at mem
    obtain mem | rfl := List.mem_or_eq_of_mem_set mem
    · exact h.strips p mem
    · exact follows
  sounder := sounder.trans h.sounder

/-- A lamp check begins in step with the record of a node that is not evacuating (R153). -/
theorem checkStrip_follow {s : State} {k : Nat} (calm : s.ru.evacuating = none) (h : s.sd.Follow s.ru) :
    (checkStrip s k).sd.Follow s.ru := by
  cases used : (s.strip k).used
  · rw [checkStrip_unused used]
    exact h
  · rw [checkStrip_used used]
    obtain ⟨latch, strips, -, -⟩ := s.enterModeFreely_enters k { s.strip k with check := some 4 } (.check, none)
    obtain ⟨_, _, form⟩ := s.enterModeFreely_changes k { s.strip k with check := some 4 } (.check, none)
    refine h.setStrip strips (by rw [form]) (by rw [form]) ?_
    have mode : Strip.modeFor { s.strip k with check := some 4 } s.ru = (.check, none) := Strip.modeFor_checked (Option.some_ne_none 4) _
    have done := Strip.entered_follows (p := { s.strip k with check := some 4 }) (r := s.ru) (fun _ => calm) s.now latch
    rw [mode] at done
    exact done

/-- The signal driver's own steps keep the signals as the route record gives them. -/
theorem SignalOp.follow {c : Instr} {u v : State} (op : SignalOp c u v) (len : u.sd.strips.length = 2) (h : u.sd.Follow u.ru) :
    v.sd.Follow u.ru := by
  cases op with
  | @signs sense row =>
    obtain ⟨_, form⟩ := State.stepSigns_changes (u.setPins { u.pins with signSense := sense }) 4
    have signs := stepSigns_follow (s := u.setPins { u.pins with signSense := sense }) (r := u.ru) h.signs 4
    rw [form] at signs ⊢
    exact ⟨signs, h.strips, h.sounder⟩
  | @strip k sense row running =>
    have was := h.strips _ (State.strip_mem (s := u) (k := k) (by omega))
    by_cases off : (u.strip k).mode = .off
    · have still : (u.setPins { u.pins with stripSense := u.pins.stripSense.set k sense }).stepStrip k (u.strip k) sense =
          u.setPins { u.pins with stripSense := u.pins.stripSense.set k sense } := by
        unfold State.stepStrip
        rw [off]
      rw [still]
      exact h
    · obtain ⟨q, strips, stepped⟩ := State.stepStrip_strips
        (u.setPins { u.pins with stripSense := u.pins.stripSense.set k sense }) k off sense
      obtain ⟨_, _, form⟩ := State.stepStrip_changes
        (u.setPins { u.pins with stripSense := u.pins.stripSense.set k sense }) k (u.strip k) sense
      exact h.setStrip strips (by rw [form]; rfl) (by rw [form]; rfl) (stepped.follows was)
  | cadence => exact ⟨h.signs, h.strips, h.sounder⟩
  | lampCheck row calm =>
    have none_ : u.ru.evacuating = none := by simpa [State.isEvacuating] using calm
    have first := checkStrip_follow (k := 0) none_ h
    obtain ⟨_, form⟩ := checkStrip_changes u 0
    have ru : (checkStrip u 0).ru = u.ru := by rw [form]; rfl
    have second := checkStrip_follow (s := checkStrip u 0) (k := 1) (by rw [ru]; exact none_) (by rw [ru]; exact first)
    rw [ru] at second
    exact second

end Sys2Proof.Machine
end

/-! ## The signals after every command -/

section
namespace Sys2Proof.Machine

/-! ### Every step keeps them -/

theorem SignalOp.pinned {c : Instr} {u v : State} (op : Footprint c u v) (signed : u.Signed) (h : u.sd.Follow u.ru) :
    v.sd.Follow u.ru := by
  obtain signals | ⟨sd, -⟩ := op.signals_or_same
  · exact signals.follow signed.strips h
  · rw [sd]
    exact h

/-- Four signs and two strips, in step with the route record. -/
structure State.SignalsSettled (s : State) : Prop where
  signed : s.Signed
  follow : s.sd.Follow s.ru

theorem Strip.afterRestart_follows (n w pp step offset : Nat) (map : List Dir) :
    (Strip.afterRestart n w pp step offset map).Follows .afterRestart := fun _ =>
  ⟨rfl, fun h => absurd rfl h, fun _ => rfl, fun _ => rfl⟩

theorem Sign.afterRestart_follows (used : Bool) (default : Arrow) (map : List Arrow) :
    (Sign.afterRestart used default map).Follows .afterRestart := fun _ => ⟨rfl, rfl⟩

theorem signalsSettled_kept : Kept State.SignalsSettled where
  answered a h := ⟨signed_kept.answered a h.signed, by obtain ⟨_, _, rfl⟩ := a; exact h.follow⟩
  moment m h := ⟨signed_kept.moment m h.signed, by obtain ⟨_, _, _, _, rfl⟩ := m; exact h.follow⟩
  pending _ h := ⟨{ h.signed with }, h.follow⟩
  restarts s phase port asleep := by
    refine ⟨signed_kept.restarts s port asleep, fun g mem => ?_, fun p mem => ?_, rfl⟩
    · rw [mem_replicate_eq mem]
      exact Sign.afterRestart_follows _ _ _
    · rw [mem_replicate_eq mem]
      exact Strip.afterRestart_follows _ _ _ _ _ _
  loads s bytes strap := by
    refine ⟨signed_kept.loads s bytes strap, ?_⟩
    have fresh := configOf_fresh bytes strap
    obtain ⟨_, _, _, form⟩ := s.leaveLoading_changes bytes strap
    rw [form]
    refine ⟨fun g mem => ?_, fun p mem => ?_, rfl⟩
    · obtain ⟨_, _, _, rfl⟩ := fresh.sign g mem
      exact Sign.afterRestart_follows _ _ _
    · obtain ⟨_, _, _, _, _, _, rfl⟩ := fresh.strip p mem
      exact Strip.afterRestart_follows _ _ _ _ _ _
  follows {c u v peer pressed} awake owner h := by
    refine ⟨signed_kept.follows awake owner h.signed, ?_⟩
    have before := SignalOp.pinned owner.footprint h.signed h.follow
    have signed := owner.footprint.signed h.signed
    obtain ⟨w, ⟨ground, -, -⟩, same, sd⟩ := (settle_stages u v peer pressed).signals
    rw [sd, ground.ru]
    exact signalsFollow_follow (by rw [same]; exact signed.strips) (by rw [same]; exact before)
  alone {c u v} owner h := by
    refine ⟨signed_kept.alone owner h.signed, ?_⟩
    obtain ⟨_, ru, _, _⟩ := owner.routeInputs
    rw [ru]
    obtain same | cleared := owner.signals
    · rw [same]
      exact h.follow
    · rw [cleared]
      refine ⟨fun g mem => ?_, fun p mem => ?_, h.follow.sounder⟩
      · obtain ⟨before, stands, rfl⟩ := List.mem_map.1 mem
        exact h.follow.signs before stands
      · obtain ⟨before, stands, rfl⟩ := List.mem_map.1 mem
        exact h.follow.strips before stands

/-! ### One event -/

theorem Sign.choose_unused (r : Route) : Sign.unused.choose r = .unused := rfl

theorem State.sign_map {s t : State} {r : Route} (h : t.sd.signs = s.sd.signs.map (·.choose r)) (n : Nat) :
    t.sign n = (s.sign n).choose r := by
  unfold State.sign
  rw [h, ← Sign.choose_unused r, List.getD_map, Sign.choose_unused]

theorem State.sign_congr {s t : State} (h : t.sd.signs = s.sd.signs) (n : Nat) : t.sign n = s.sign n := by
  unfold State.sign
  rw [h]

theorem State.strip_congr {s t : State} (h : t.sd.strips = s.sd.strips) (k : Nat) : t.strip k = s.strip k := by
  unfold State.strip
  rw [h]

section
variable {u v : State}

/-- The signs after an event that is no step of theirs. -/
theorem settle_sign (signs : v.sd.signs = u.sd.signs) (peer : Option Nat) (pressed : List Nat) (n : Nat) :
    (u.ru = (settle u v peer pressed).ru → (settle u v peer pressed).sign n = u.sign n) ∧
      (u.ru ≠ (settle u v peer pressed).ru →
        (settle u v peer pressed).sign n = (u.sign n).choose (settle u v peer pressed).ru) := by
  obtain ⟨w, ⟨ground, -, -⟩, same, sd⟩ := (settle_stages u v peer pressed).signals
  rw [ground.ru]
  have before : w.sd.signs = u.sd.signs := by rw [same, signs]
  refine ⟨fun still => ?_, fun moved => ?_⟩
  · exact State.sign_congr (by rw [sd, signalsFollow_same still, before]) n
  · exact State.sign_map (by rw [sd, signalsFollow_signs moved, before]) n

/-- The strips after an event that is neither a step nor a check of theirs. -/
theorem settle_strip (strips : v.sd.strips = u.sd.strips) (len : u.sd.strips.length = 2)
    (queue : Extends u.ap.reports v.ap.reports) (peer : Option Nat) (pressed : List Nat) {k : Nat} (low : k < 2) :
    (u.ru = (settle u v peer pressed).ru → (settle u v peer pressed).strip k = u.strip k) ∧
      (u.ru ≠ (settle u v peer pressed).ru →
        StripFollowed ((u.strip k).unchecked (u.lampChecking && (settle u v peer pressed).isEvacuating))
          (settle u v peer pressed).ru (u.ru.via != (settle u v peer pressed).ru.via) (settle u v peer pressed).now
          (fun i => Reported u .stripLampFault k i (settle u v peer pressed)) ((settle u v peer pressed).strip k)) := by
  obtain ⟨w, ⟨ground, before, after⟩, same, sd⟩ := (settle_stages u v peer pressed).signals
  generalize settle u v peer pressed = t at *
  have held : w.sd.strips = u.sd.strips := by rw [same, strips]
  rw [ground.ru]
  refine ⟨fun still => ?_, fun moved => ?_⟩
  · exact State.strip_congr (by rw [sd, signalsFollow_same still, held]) k
  · have done := signalsFollow_strip moved (by rw [held]; exact len) low
    have checking : w.lampChecking = u.lampChecking := by unfold State.lampChecking; rw [held]
    have now : t.now = (signalsFollow u w).now := by
      obtain ⟨_, _, _, form⟩ := signalsFollow_changes u w
      rw [form]
      exact ground.now
    rw [State.checksEnd, checking, ← ground.isEvacuating, State.strip_congr held k, ← ground.now] at done
    rw [State.strip_congr (congrArg (·.strips) sd) k]
    exact done.mono fun i known => known.through (queue.trans before) after now

/-- R153: an evacuation that begins while a lamp check runs ends it, and that is reported. -/
theorem settle_checkEnds (strips : v.sd.strips = u.sd.strips) (queue : Extends u.ap.reports v.ap.reports) (peer : Option Nat)
    (pressed : List Nat) (moved : u.ru ≠ (settle u v peer pressed).ru) (checking : u.lampChecking = true)
    (evacuating : (settle u v peer pressed).isEvacuating = true) :
    Reported u .lampCheckEnd 0xFFFF 0xFFFE (settle u v peer pressed) := by
  obtain ⟨w, ⟨ground, before, after⟩, same, sd⟩ := (settle_stages u v peer pressed).signals
  generalize settle u v peer pressed = t at *
  rw [ground.ru] at moved
  have ends : (w.lampChecking && w.isEvacuating) = true := by
    have held : w.lampChecking = u.lampChecking := by unfold State.lampChecking; rw [same, strips]
    rw [held, checking, ← ground.isEvacuating, evacuating]
    rfl
  obtain ⟨_, _, _, form⟩ := signalsFollow_changes u w
  have now : t.now = (signalsFollow u w).now := by
    rw [form]
    exact ground.now
  refine Reported.through (s := w) (t := signalsFollow u w) ?_ (queue.trans before) after now
  rw [signalsFollow_moved moved]
  obtain ⟨_, _, _, sounder⟩ := (followStrips u w.followSigns).followSounder_changes
  rw [sounder]
  have strips := State.forEach_extends (fun x i => followStrip_extends (u.ru.via != w.ru.via) x i) 2 w.followSigns.dropChecks
  have done : followStrips u w.followSigns =
      (w.followSigns.dropChecks.forEach 2 (followStrip (u.ru.via != w.ru.via))).report .lampCheckEnd 0xFFFF 0xFFFE := by
    unfold followStrips
    have ends' : (w.followSigns.lampChecking && w.followSigns.isEvacuating) = true := ends
    dsimp only
    rw [ends', if_pos rfl]
    rfl
  rw [done]
  exact ⟨_, strips, .refl _⟩

/-- The sounder at the end of an event. -/
theorem settle_sounder (u v : State) (peer : Option Nat) (pressed : List Nat) :
    ((settle u v peer pressed).sd.sounder = v.sd.sounder → (settle u v peer pressed).sd.cadence = v.sd.cadence ∧
        (settle u v peer pressed).sd.cadenceTimer = v.sd.cadenceTimer) ∧
      ((settle u v peer pressed).sd.sounder ≠ v.sd.sounder →
        ((settle u v peer pressed).sd.sounder = .alert → (settle u v peer pressed).sd.cadence = some true ∧
          (settle u v peer pressed).sd.cadenceTimer = some ((settle u v peer pressed).now + Config.second)) ∧
        ((settle u v peer pressed).sd.sounder ≠ .alert → (settle u v peer pressed).sd.cadence = none ∧
          (settle u v peer pressed).sd.cadenceTimer = none)) := by
  obtain ⟨w, ⟨ground, -, -⟩, same, final⟩ := (settle_stages u v peer pressed).signals
  generalize settle u v peer pressed = t at *
  rw [final, ground.now, ← same]
  by_cases still : u.ru = w.ru
  · rw [signalsFollow_same still]
    exact ⟨fun _ => ⟨rfl, rfl⟩, fun changed => absurd rfl changed⟩
  · have done := signalsFollow_sounder still
    generalize signalsFollow u w = x at done ⊢
    rw [done.mode]
    refine ⟨fun kept => done.same kept.symm, fun changed => ⟨fun alert => ?_, fun other => ?_⟩⟩
    · exact done.alert (Ne.symm changed) alert
    · exact done.silent (Ne.symm changed) other

end

end Sys2Proof.Machine
end

/-! ## Signs, strips and sounder at every command -/

section
namespace Sys2Proof.Machine

/-! ### What the statement asks of one sign and one strip -/

/-- The flash count of a sign begins again at a change of display or arrow, and stays without one (R146). -/
def SignTurned (g g' : Sign) : Prop :=
  let changed := g'.display ≠ g.display ∨ g'.shown ≠ g.shown
  (changed → g'.flash = if g'.display = .plain then none else some 0) ∧ (¬changed → g'.flash = g.flash)

theorem SignTurned.of_same {g g' : Sign} (display : g'.display = g.display) (shown : g'.shown = g.shown)
    (flash : g'.flash = g.flash) : SignTurned g g' :=
  ⟨fun changed => changed.elim (absurd display) (absurd shown), fun _ => flash⟩

theorem SignTurned.of_chosen {g g' : Sign} {r : Route} (h : SignChosen g r g') : SignTurned g g' := by
  refine ⟨fun changed => ?_, fun same => ?_⟩
  · rw [h.display, h.shown] at changed
    rw [h.display]
    exact h.changed (changed.imp Ne.symm Ne.symm)
  · rw [not_or, not_ne_iff, not_ne_iff] at same
    obtain ⟨display, shown⟩ := same
    rw [h.same (display.symm.trans h.display) (shown.symm.trans h.shown)]

/-- Segment `i` of a strip at the first step of a mode (R150, R151, R152). -/
def Strip.firstLit (p q : Strip) (i : Nat) : Bool :=
  match q.mode, q.dir with
  | .off, _ => false
  | .chase, some .forward => decide ((i + p.offset) % p.pp < p.w)
  | .chase, some .reverse => decide ((i + p.offset + p.pp) % p.pp < p.w)
  | .chase, _ => false
  | _, _ => true

/-- A strip that enters a mode, or chases on under another via, begins a step; else it is as it was but for its latch (R149 to R151). -/
def StripTurned (p q : Strip) (viaMoved : Prop) (now : Nat) : Prop :=
  let begins := q.mode ≠ p.mode ∨ (q.mode = .chase ∧ viaMoved)
  (begins → q = { p with
    mode := q.mode
    dir := q.dir
    phase := 0
    flash := if q.mode = .noRoute then some 0 else none
    check := none
    lit := (List.range p.n).map (p.firstLit q)
    timer := if q.mode = .off then none else some (now + p.step * 5000)
    latch := q.latch }) ∧
  (¬begins → q = { p with latch := q.latch })

theorem StripTurned.of_same {p q : Strip} {viaMoved : Prop} (latch : q = { p with latch := q.latch }) (via : ¬viaMoved)
    (now : Nat) : StripTurned p q viaMoved now := by
  have mode : q.mode = p.mode := by rw [latch]
  exact ⟨fun begins => begins.elim (absurd mode) fun chase => absurd chase.2 via, fun _ => latch⟩

theorem Strip.begun_segmentLit (p : Strip) (m : StripMode × Option Dir) (now : Nat) (latch : Option Nat) (i : Nat) :
    (p.begun m).segmentLit i = p.firstLit (p.entered m now latch) i := by
  obtain ⟨mode, dir⟩ := m
  cases mode with
  | off | steady | noRoute | check => rfl
  | chase =>
    cases dir with
    | none => rfl
    | some d => cases d <;> rfl

theorem StripTurned.of_entered {p : Strip} {m : StripMode × Option Dir} {viaMoved : Prop} (now : Nat)
    (latch : Option Nat) (turns : p.mode ≠ m.1 ∨ (m.1 = .chase ∧ viaMoved)) :
    StripTurned p (Strip.entered { p with check := none } m now latch) viaMoved now := by
  refine ⟨fun _ => ?_, fun still => absurd (turns.imp Ne.symm id) still⟩
  have lit : (Strip.begun { p with check := none } m).litSegments =
      (List.range p.n).map (p.firstLit (Strip.entered { p with check := none } m now latch)) :=
    List.map_congr_left fun i _ => Strip.begun_segmentLit { p with check := none } m now latch i
  rw [← lit]
  rfl

/-- A strip in step with the record before it, at a change of the record. -/
theorem StripFollowed.turned {p q : Strip} {before after : Route} {ends : Bool} {now : Nat} {reported : Nat → Prop}
    (h : StripFollowed (p.unchecked ends) after (before.via != after.via) now reported q) (was : p.Follows before)
    (used : p.used = true) (calm : ends = true → p.check ≠ none → after.evacuating ≠ none) :
    StripTurned p q (after.via ≠ before.via) now := by
  obtain ⟨modeDir, -, -⟩ := was used
  by_cases check : p.check = none
  · rw [Strip.unchecked_of_none check] at h
    cases turns : p.turns after (before.via != after.via)
    · obtain ⟨mode, chase⟩ := Strip.turns_false used turns
      obtain rfl := h.stays turns
      refine ⟨fun begins => ?_, fun _ => rfl⟩
      obtain changed | ⟨chasing, moved⟩ := begins
      · exact absurd rfl changed
      · have same := chase (mode.symm.trans chasing)
        rw [bne_eq_false_iff_eq] at same
        exact absurd same.symm moved
    · obtain ⟨latch, rfl, -, -⟩ := h.turns turns
      obtain ⟨-, turned⟩ := Strip.turns_true turns
      have done := StripTurned.of_entered (p := p) now latch
        (turned.imp id fun ⟨chase, moved⟩ => ⟨chase, Ne.symm (bne_iff_ne.1 moved)⟩)
      rw [← check] at done
      exact done
  · have mode : p.mode = .check := congrArg Prod.fst (modeDir.trans (Strip.modeFor_checked check before))
    cases ends
    · have lasts : p.turns after (before.via != after.via) = false := by
        unfold Strip.turns
        rw [Strip.modeFor_checked check, mode]
        simp
      obtain rfl := h.stays lasts
      refine ⟨fun begins => ?_, fun _ => rfl⟩
      obtain changed | ⟨chasing, -⟩ := begins
      · exact absurd rfl changed
      · cases Eq.trans (Eq.symm chasing) mode
    · have leaves : p.mode ≠ ((p.unchecked true).modeFor after).1 := by
        rw [mode]
        exact (Strip.modeFor_unchecked rfl after).symm
      have turns : (p.unchecked true).turns after (before.via != after.via) = true := by
        unfold Strip.turns
        rw [Bool.and_eq_true, Bool.or_eq_true, bne_iff_ne, Strip.unchecked_mode]
        exact ⟨used, .inl leaves⟩
      obtain ⟨latch, rfl, -, -⟩ := h.turns turns
      exact .of_entered now latch (.inl leaves)

/-! ### Every command -/

theorem Answered.signals {s t : State} (h : Answered s t) : t.sd = s.sd ∧ t.ru = s.ru ∧ t.now = s.now := by
  obtain ⟨_, _, rfl⟩ := h
  exact ⟨rfl, rfl, rfl⟩

theorem AtEvent.signals {s u : State} (h : AtEvent s u) : u.sd = s.sd ∧ u.ru = s.ru := by
  obtain ⟨_, _, _, _, rfl⟩ := h
  exact ⟨rfl, rfl⟩

/-- What another command than a step, a check or a cadence changes of the signals. -/
theorem SignalOp.elsewhere {c : Instr} {u v : State} (op : SignalOp c u v) :
    ((∀ sense, c ≠ .signStepExpiry sense) → v.sd.signs = u.sd.signs) ∧
      (c ≠ .lampCheck → (∀ k sense, c ≠ .stripStepExpiry k sense) → v.sd.strips = u.sd.strips) ∧
      v.sd.sounder = u.sd.sounder ∧
      (c ≠ .cadenceTimerExpiry → v.sd.cadence = u.sd.cadence ∧ v.sd.cadenceTimer = u.sd.cadenceTimer) := by
  cases op with
  | @signs sense row =>
    obtain ⟨_, form⟩ := State.stepSigns_changes (u.setPins { u.pins with signSense := sense }) 4
    rw [form]
    exact ⟨fun own => absurd row (own sense), fun _ _ => rfl, rfl, fun _ => ⟨rfl, rfl⟩⟩
  | @strip k sense row running =>
    obtain ⟨_, _, form⟩ := State.stepStrip_changes (u.setPins { u.pins with stripSense := u.pins.stripSense.set k sense }) k
      (u.strip k) sense
    rw [form]
    exact ⟨fun _ => rfl, fun _ own => absurd row (own k sense), rfl, fun _ => ⟨rfl, rfl⟩⟩
  | cadence row => exact ⟨fun _ => rfl, fun _ _ => rfl, rfl, fun own => absurd row own⟩
  | lampCheck row =>
    obtain ⟨_, form⟩ := State.eachStrip_changes checkStrip checkStrip_changes 2 u
    rw [form]
    exact ⟨fun _ => rfl, fun own => absurd row own, rfl, fun _ => ⟨rfl, rfl⟩⟩

theorem Footprint.elsewhere {c : Instr} {u v : State} (op : Footprint c u v) :
    ((∀ sense, c ≠ .signStepExpiry sense) → v.sd.signs = u.sd.signs) ∧
      (c ≠ .lampCheck → (∀ k sense, c ≠ .stripStepExpiry k sense) → v.sd.strips = u.sd.strips) ∧
      v.sd.sounder = u.sd.sounder ∧
      (c ≠ .cadenceTimerExpiry → v.sd.cadence = u.sd.cadence ∧ v.sd.cadenceTimer = u.sd.cadenceTimer) := by
  obtain op | ⟨sd, -⟩ := op.signals_or_same
  · exact op.elsewhere
  · rw [sd]
    exact ⟨fun _ => rfl, fun _ _ => rfl, rfl, fun _ => ⟨rfl, rfl⟩⟩

section
variable {c : Instr} {s t : State}

/-- The signs at an event that is no step of theirs (R145, R146). -/
theorem exec_signs (a : s.awake = true) (a' : t.awake = true) (h : exec c s = .next t) (own : ∀ sense, c ≠ .signStepExpiry sense)
    {n : Nat} (used : (s.sign n).used = true) : SignTurned (s.sign n) (t.sign n) := by
  obtain ⟨u, v, peer, pressed, moment, owner, answered⟩ | ⟨u, v, moment, owner, answered⟩ := exec_awake a a' h
  · obtain ⟨sd, -, -⟩ := answered.signals
    obtain ⟨sd', -⟩ := moment.signals
    obtain ⟨signs, -, -, -⟩ := owner.footprint.elsewhere
    obtain ⟨still, moved⟩ := settle_sign (signs own) peer pressed n
    rw [State.sign_congr (congrArg (·.signs) sd)]
    rw [← State.sign_congr (congrArg (·.signs) sd')] at used ⊢
    by_cases same : u.ru = (settle u v peer pressed).ru
    · rw [still same]
      exact .of_same rfl rfl rfl
    · rw [moved same]
      exact .of_chosen (Sign.choose_chosen used _)
  · obtain ⟨sd, -, -⟩ := answered.signals
    obtain ⟨sd', -⟩ := moment.signals
    rw [State.sign_congr (congrArg (·.signs) sd), ← State.sign_congr (congrArg (·.signs) sd')]
    obtain same | cleared := owner.signals
    · rw [State.sign_congr (congrArg (·.signs) same)]
      exact .of_same rfl rfl rfl
    · have sign : v.sign n = { u.sign n with fault := false } := by
        unfold State.sign
        rw [cleared]
        exact List.getD_map (f := fun g : Sign => { g with fault := false }) (d := Sign.unused) ..
      rw [sign]
      exact .of_same rfl rfl rfl

/-- The strips at an event that is neither a step nor a check of theirs (R149 to R151). -/
theorem exec_strips (a : s.awake = true) (a' : t.awake = true) (h : exec c s = .next t) (settled : s.SignalsSettled)
    (check : c ≠ .lampCheck) (own : ∀ k sense, c ≠ .stripStepExpiry k sense) {k : Nat} (low : k < 2)
    (used : (s.strip k).used = true) : StripTurned (s.strip k) (t.strip k) (t.ru.via ≠ s.ru.via) t.now := by
  obtain ⟨u, v, peer, pressed, moment, owner, answered⟩ | ⟨u, v, moment, owner, answered⟩ := exec_awake a a' h
  · obtain ⟨sd, ru, now⟩ := answered.signals
    obtain ⟨sd', ru'⟩ := moment.signals
    have before := signalsSettled_kept.moment moment settled
    obtain ⟨-, strips, -, -⟩ := owner.footprint.elsewhere
    obtain ⟨still, moved⟩ := settle_strip (strips check own) before.signed.strips owner.footprint.extends peer pressed low
    rw [State.strip_congr (congrArg (·.strips) sd), ru, now, ← ru']
    rw [← State.strip_congr (congrArg (·.strips) sd')] at used ⊢
    by_cases same : u.ru = (settle u v peer pressed).ru
    · rw [still same, ← same]
      exact .of_same rfl (fun other => other rfl) _
    · have here := State.strip_mem (s := u) (k := k) (by rw [before.signed.strips]; exact low)
      refine (moved same).turned (before.follow.strips _ here) used fun ends _ => ?_
      rw [Bool.and_eq_true] at ends
      exact Option.isSome_iff_ne_none.1 ends.2
  · obtain ⟨sd, ru, now⟩ := answered.signals
    obtain ⟨sd', ru'⟩ := moment.signals
    obtain ⟨-, route, -, -⟩ := owner.routeInputs
    rw [State.strip_congr (congrArg (·.strips) sd), ru, route, ← ru', ← State.strip_congr (congrArg (·.strips) sd')]
    obtain same | cleared := owner.signals
    · rw [State.strip_congr (congrArg (·.strips) same)]
      exact .of_same rfl (fun other => other rfl) _
    · have strip : v.strip k = { u.strip k with latch := none } := by
        unfold State.strip
        rw [cleared]
        exact List.getD_map (f := fun p : Strip => { p with latch := none }) (d := Strip.unused) ..
      rw [strip]
      exact .of_same rfl (fun other => other rfl) _

/-- The sounder at an event that is not its cadence's (R155). -/
theorem exec_sounder (a : s.awake = true) (a' : t.awake = true) (h : exec c s = .next t) :
    (t.sd.sounder ≠ s.sd.sounder →
        (t.sd.sounder = .alert → t.sd.cadence = some true ∧ t.sd.cadenceTimer = some (t.now + Config.second)) ∧
          (t.sd.sounder ≠ .alert → t.sd.cadence = none ∧ t.sd.cadenceTimer = none)) ∧
      (t.sd.sounder = s.sd.sounder → c ≠ .cadenceTimerExpiry →
        t.sd.cadence = s.sd.cadence ∧ t.sd.cadenceTimer = s.sd.cadenceTimer) := by
  obtain ⟨u, v, peer, pressed, moment, owner, answered⟩ | ⟨u, v, moment, owner, answered⟩ := exec_awake a a' h
  · obtain ⟨sd, -, now⟩ := answered.signals
    obtain ⟨sd', -⟩ := moment.signals
    obtain ⟨-, -, sounder, cadence⟩ := owner.footprint.elsewhere
    obtain ⟨same, changed⟩ := settle_sounder u v peer pressed
    rw [sd, now, ← sd', ← sounder]
    refine ⟨changed, fun kept own => ?_⟩
    obtain ⟨beat, timer⟩ := cadence own
    rw [← beat, ← timer]
    exact same kept
  · obtain ⟨sd, -, -⟩ := answered.signals
    obtain ⟨sd', -⟩ := moment.signals
    have kept : v.sd.sounder = u.sd.sounder ∧ v.sd.cadence = u.sd.cadence ∧ v.sd.cadenceTimer = u.sd.cadenceTimer := by
      obtain same | cleared := owner.signals
      · rw [same]
        exact ⟨rfl, rfl, rfl⟩
      · rw [cleared]
        exact ⟨rfl, rfl, rfl⟩
    obtain ⟨sounder, cadence, timer⟩ := kept
    rw [sd, ← sd', sounder, cadence, timer]
    exact ⟨fun changed => absurd rfl changed, fun _ _ => ⟨rfl, rfl⟩⟩

end

/-! ### The tables -/

theorem Route.isNone_iff (r : Route) : r.evacuating.isNone = true ↔ ¬r.evacuating ≠ none := by
  rw [Option.isNone_iff_eq_none, not_ne_iff]

theorem Route.display_plain {r : Route} (calm : ¬r.evacuating ≠ none) : r.display = .plain :=
  if_pos (r.isNone_iff.2 calm)

theorem Route.display_arrow {r : Route} (evacuating : r.evacuating ≠ none) (exit_ : r.xLocal < 15) : r.display = .arrow := by
  unfold Route.display
  rw [if_neg (by rw [r.isNone_iff]; exact not_not_intro evacuating), if_pos exit_]

theorem Route.display_cross {r : Route} (evacuating : r.evacuating ≠ none) (exit_ : ¬r.xLocal < 15) : r.display = .cross := by
  unfold Route.display
  rw [if_neg (by rw [r.isNone_iff]; exact not_not_intro evacuating), if_neg exit_]

section
variable {p : Strip} {r : Route}

theorem Strip.modeFor_calm (check : p.check = none) (calm : ¬r.evacuating ≠ none) : p.modeFor r = (.off, none) := by
  unfold Strip.modeFor
  rw [if_neg (by rw [check]; decide), if_pos (r.isNone_iff.2 calm)]

theorem Strip.modeFor_lost (check : p.check = none) (evacuating : r.evacuating ≠ none) (exit_ : ¬r.xLocal < 15) :
    p.modeFor r = (.noRoute, none) := by
  unfold Strip.modeFor
  rw [if_neg (by rw [check]; decide), if_neg (by rw [r.isNone_iff]; exact not_not_intro evacuating), if_neg exit_]

theorem Strip.modeFor_steady (check : p.check = none) (evacuating : r.evacuating ≠ none) (exit_ : r.xLocal < 15)
    (way : p.map.getD r.via.code .steady = .steady) : p.modeFor r = (.steady, none) := by
  unfold Strip.modeFor
  rw [if_neg (by rw [check]; decide), if_neg (by rw [r.isNone_iff]; exact not_not_intro evacuating), if_pos exit_, way]

theorem Strip.modeFor_chase (check : p.check = none) (evacuating : r.evacuating ≠ none) (exit_ : r.xLocal < 15)
    (way : p.map.getD r.via.code .steady ≠ .steady) : p.modeFor r = (.chase, some (p.map.getD r.via.code .steady)) := by
  unfold Strip.modeFor
  rw [if_neg (by rw [check]; decide), if_neg (by rw [r.isNone_iff]; exact not_not_intro evacuating), if_pos exit_]
  cases turn : p.map.getD r.via.code .steady with
  | steady => exact absurd turn way
  | forward | reverse => rfl

end

/-- R145: the sign table. -/
theorem Sign.Follows.table {g : Sign} {r : Route} (h : g.Follows r) (used : g.used = true) :
    (¬r.evacuating ≠ none → g.display = .plain ∧ g.shown = some g.default) ∧
      (r.evacuating ≠ none → r.xLocal < 15 → g.display = .arrow ∧ g.shown = some (g.map.getD r.via.code .ahead)) ∧
      (r.evacuating ≠ none → ¬r.xLocal < 15 → g.display = .cross ∧ g.shown = none) := by
  obtain ⟨display, shown⟩ := h used
  unfold Sign.arrowFor at shown
  refine ⟨fun calm => ?_, fun evacuating exit_ => ?_, fun evacuating exit_ => ?_⟩
  · rw [Route.display_plain calm] at display shown
    exact ⟨display, shown⟩
  · rw [Route.display_arrow evacuating exit_] at display shown
    exact ⟨display, shown⟩
  · rw [Route.display_cross evacuating exit_] at display shown
    exact ⟨display, shown⟩

/-- R149, R153: the strip table. -/
theorem Strip.Follows.table {p : Strip} {r : Route} (h : p.Follows r) (used : p.used = true) :
    let way := p.map.getD r.via.code .steady
    (p.check ≠ none → ¬r.evacuating ≠ none ∧ p.mode = .check ∧ p.dir = none) ∧
      (p.check = none → ¬r.evacuating ≠ none → p.mode = .off ∧ p.dir = none) ∧
      (p.check = none → r.evacuating ≠ none → r.xLocal < 15 → way = .forward ∨ way = .reverse →
        p.mode = .chase ∧ p.dir = some way) ∧
      (p.check = none → r.evacuating ≠ none → r.xLocal < 15 → way = .steady → p.mode = .steady ∧ p.dir = none) ∧
      (p.check = none → r.evacuating ≠ none → ¬r.xLocal < 15 → p.mode = .noRoute ∧ p.dir = none) := by
  intro way
  obtain ⟨modeDir, calm, -⟩ := h used
  refine ⟨fun check => ?_, fun check still => ?_, fun check evacuating exit_ turns => ?_, fun check evacuating exit_ on => ?_,
    fun check evacuating exit_ => ?_⟩
  · rw [Strip.modeFor_checked check, Prod.mk.injEq] at modeDir
    exact ⟨not_not_intro (calm check), modeDir⟩
  · rw [Strip.modeFor_calm check still, Prod.mk.injEq] at modeDir
    exact modeDir
  · have other : p.map.getD r.via.code .steady ≠ .steady := by
      obtain forward | reverse := turns
      · exact fun steady => absurd (Eq.trans (Eq.symm forward) steady) nofun
      · exact fun steady => absurd (Eq.trans (Eq.symm reverse) steady) nofun
    rw [Strip.modeFor_chase check evacuating exit_ other, Prod.mk.injEq] at modeDir
    exact modeDir
  · rw [Strip.modeFor_steady check evacuating exit_ on, Prod.mk.injEq] at modeDir
    exact modeDir
  · rw [Strip.modeFor_lost check evacuating exit_, Prod.mk.injEq] at modeDir
    exact modeDir

/-- R155: the sounder table. -/
theorem Route.sounderMode_table (r : Route) : (r.evacuating ≠ none → r.sounderMode = .evac) ∧
    (¬r.evacuating ≠ none → r.f < 15 → r.sounderMode = .alert) ∧
    (¬r.evacuating ≠ none → ¬r.f < 15 → r.sounderMode = .off) := by
  simp only [← Option.isSome_iff_ne_none]
  exact ⟨fun evacuating => if_pos evacuating, fun calm near => (if_neg calm).trans (if_pos near),
    fun calm far => (if_neg calm).trans (if_neg far)⟩

/-- A place beyond the list reads as unused. -/
theorem State.used_sign_mem {s : State} {n : Nat} (used : (s.sign n).used = true) : s.sign n ∈ s.sd.signs := by
  unfold State.sign at used ⊢
  by_cases low : n < s.sd.signs.length
  · exact getD_mem low _
  · rw [List.getD_eq_default _ _ (by omega)] at used
    cases used

theorem State.used_strip_mem {s : State} {k : Nat} (used : (s.strip k).used = true) : s.strip k ∈ s.sd.strips := by
  unfold State.strip at used ⊢
  by_cases low : k < s.sd.strips.length
  · exact getD_mem low _
  · rw [List.getD_eq_default _ _ (by omega)] at used
    cases used

/-- Settles O8: the two invariants, what an event makes of each signal, and the three tables. -/
theorem stepKeepsSignals : Obligations.StepKeepsSignals := by
  refine ⟨fun s t shaped follows h => ?_, fun s t follows h => State.latchFollows_kept.step follows h,
    fun c s t a a' shaped follows h => ⟨fun own n _ used => exec_signs a a' h own used, fun check own k low used => ?_, ?_, ?_⟩,
    fun s follows => ?_⟩
  · have settled : s.SignalsSettled := ⟨⟨shaped.signs, shaped.strips⟩, s.signalsFollow_iff.1 follows⟩
    exact t.signalsFollow_iff.2 (signalsSettled_kept.step settled h).follow
  · have settled : s.SignalsSettled := ⟨⟨shaped.signs, shaped.strips⟩, s.signalsFollow_iff.1 follows⟩
    exact exec_strips a a' h settled check own low (bne_iff_ne.2 used)
  · exact (exec_sounder a a' h).1
  · exact (exec_sounder a a' h).2
  · obtain ⟨signs, strips, sounder⟩ := s.signalsFollow_iff.1 follows
    intro evacuating entry
    have code : s.ru.via.code = entry := rfl
    rw [← code, sounder]
    refine ⟨fun n _ used => ?_, fun k _ used => ?_, s.ru.sounderMode_table⟩
    · exact (signs _ (State.used_sign_mem used)).table used
    · exact (strips _ (State.used_strip_mem (bne_iff_ne.2 used))).table (bne_iff_ne.2 used)

end Sys2Proof.Machine
end

/-! ## The lamp check and the cadence (R152, R153, R155) -/

section
namespace Sys2Proof.Machine

/-! ### An empty latch takes a lit segment -/

/-- Where `p`'s latch is empty and `q`'s is not, it holds a segment lit at the step, and from `s` to `t` that was reported (R152). -/
def StripTakes (s : State) (k : Nat) (p q : Strip) (t : State) : Prop :=
  p.latch = none → ∀ i, q.latch = some i → i < q.n ∧ q.lit.getD i false = true ∧ Reported s .stripLampFault k i t

theorem StripTakes.of_same {p q : Strip} (h : q.latch = p.latch) (s : State) (k : Nat) (t : State) : StripTakes s k p q t :=
  fun empty _ taken => absurd ((h.symm.trans taken).symm.trans empty) nofun

theorem StripTakes.through {r s t u : State} {k : Nat} {p q : Strip} (h : StripTakes s k p q t)
    (before : Extends r.ap.reports s.ap.reports) (after : Extends t.ap.reports u.ap.reports) (now : u.now = t.now) :
    StripTakes r k p q u := fun empty i taken => by
  obtain ⟨below, lit, reported⟩ := h empty i taken
  exact ⟨below, lit, reported.through before after now⟩

theorem State.beginStep_takes (s : State) (k : Nat) (p : Strip) (sense : BitVec 32) :
    ∃ q, (s.beginStep k p sense).sd.strips = s.sd.strips.set k q ∧ StripTakes s k p q (s.beginStep k p sense) := by
  refine ⟨_, s.beginStep_strips k p sense, fun empty i taken => ?_⟩
  obtain ⟨below, lit, -⟩ := (Strip.latched_of_none empty sense i).1 taken
  refine ⟨below, (p.litSegments_getD i below).trans lit, ?_⟩
  rw [State.beginStep_eq, show p.latched sense = some i from taken, empty]
  exact ⟨s.ap.reports, .refl _, .refl _⟩

theorem State.enterMode_takes (s : State) (k : Nat) (p : Strip) (m : StripMode × Option Dir) (sense : BitVec 32) :
    ∃ q, (s.enterMode k p m sense).sd.strips = s.sd.strips.set k q ∧ StripTakes s k p q (s.enterMode k p m sense) := by
  obtain ⟨strips, -, taken⟩ := s.enterMode_enters k p m sense
  exact ⟨_, strips, taken⟩

theorem State.stepStrip_takes (s : State) (k : Nat) (p : Strip) (sense : BitVec 32) :
    (s.stepStrip k p sense).sd.strips = s.sd.strips ∨
      ∃ q, (s.stepStrip k p sense).sd.strips = s.sd.strips.set k q ∧ StripTakes s k p q (s.stepStrip k p sense) := by
  unfold State.stepStrip
  split
  case h_1 => exact .inl rfl
  case h_2 => exact .inr (s.beginStep_takes k p sense)
  case h_3 => exact .inr (s.beginStep_takes k { p with phase := (p.phase + 1) % p.pp } sense)
  case h_4 => exact .inr (s.beginStep_takes k { p with flash := p.flash.map fun n => (n + 1) % 65536 } sense)
  case h_5 =>
    split
    · rename_i n _
      exact .inr (s.beginStep_takes k { p with check := some (n + 1) } sense)
    · obtain ⟨q, strips, takes⟩ := s.enterMode_takes k { p with check := none } (Strip.modeFor { p with check := none } s.ru) sense
      dsimp only
      generalize s.enterMode k { p with check := none } (Strip.modeFor { p with check := none } s.ru) sense = w at strips takes ⊢
      have queue := State.reportIf_extends w (!w.lampChecking) .lampCheckEnd noSubject w.latches
      obtain ⟨_, form⟩ := State.reportIf_changes w (!w.lampChecking) .lampCheckEnd noSubject w.latches
      refine .inr ⟨q, by rw [form]; exact strips, takes.through (.refl _) queue (by rw [form])⟩

theorem StripFollowed.takes {s t : State} {k : Nat} {p q : Strip} {r : Route} {ends viaChanged : Bool} {now : Nat}
    (h : StripFollowed (p.unchecked ends) r viaChanged now (fun i => Reported s .stripLampFault k i t) q) :
    StripTakes s k p q t := by
  have latch : (p.unchecked ends).latch = p.latch := by
    unfold Strip.unchecked
    split <;> rfl
  cases turns : (p.unchecked ends).turns r viaChanged
  · rw [h.stays turns]
    exact .of_same latch s k t
  · obtain ⟨latch', rfl, -, taken⟩ := h.turns turns
    intro empty
    exact taken (latch.trans empty)

/-! ### The check of both strips -/

/-- What a strip is after LAMP_CHECK at `now` (R153). -/
structure StripChecked (p : Strip) (now : Nat) (reported : Nat → Prop) (q : Strip) : Prop where
  unused : p.used = false → q = p
  used : p.used = true → ∃ latch, q = Strip.entered { p with check := some 4 } (.check, none) now latch ∧
    (∀ i, p.latch = some i → latch = some i) ∧
    (p.latch = none → ∀ i, latch = some i →
      i < p.n ∧ (Strip.begun { p with check := some 4 } (.check, none)).litSegments.getD i false = true ∧ reported i)

theorem StripChecked.mono {p q : Strip} {now : Nat} {reported reported' : Nat → Prop} (h : StripChecked p now reported q)
    (le : ∀ i, reported i → reported' i) : StripChecked p now reported' q where
  unused := h.unused
  used u := by
    obtain ⟨latch, form, held, taken⟩ := h.used u
    refine ⟨latch, form, held, fun empty i some_ => ?_⟩
    obtain ⟨below, lit, known⟩ := taken empty i some_
    exact ⟨below, lit, le i known⟩

theorem checkStrip_checked {s : State} {k : Nat} (low : k < s.sd.strips.length) :
    StripChecked (s.strip k) s.now (fun i => Reported s .stripLampFault k i (checkStrip s k)) ((checkStrip s k).strip k) where
  unused h := by rw [checkStrip_unused h]
  used h := by
    rw [checkStrip_used h]
    obtain ⟨latch, strips, held, taken⟩ := s.enterModeFreely_enters k { s.strip k with check := some 4 } (.check, none)
    exact ⟨latch, by rw [State.strip_of_set strips low, if_pos rfl], held, taken⟩

theorem checkStrip_other (s : State) {k i : Nat} (other : i ≠ k) : (checkStrip s k).strip i = s.strip i := by
  cases h : (s.strip k).used
  · rw [checkStrip_unused h]
  · rw [checkStrip_used h]
    obtain ⟨_, strips, -, -⟩ := s.enterModeFreely_enters k { s.strip k with check := some 4 } (.check, none)
    unfold State.strip at strips ⊢
    rw [strips, List.getD_eq_getElem?_getD, List.getElem?_set_ne (Ne.symm other), List.getD_eq_getElem?_getD]

theorem checkBoth_checked {s : State} (len : s.sd.strips.length = 2) {k : Nat} (low : k < 2) :
    StripChecked (s.strip k) s.now (fun i => Reported s .stripLampFault k i (s.forEach 2 checkStrip))
      ((s.forEach 2 checkStrip).strip k) := by
  have form : s.forEach 2 checkStrip = checkStrip (checkStrip s 0) 1 := rfl
  obtain ⟨v, first⟩ := checkStrip_changes s 0
  obtain ⟨w, second⟩ := checkStrip_changes (checkStrip s 0) 1
  have now : (checkStrip s 0).now = s.now := by rw [first]; rfl
  have now' : (checkStrip (checkStrip s 0) 1).now = (checkStrip s 0).now := by rw [second]; rfl
  have before := checkStrip_extends s 0
  have after := checkStrip_extends (checkStrip s 0) 1
  rw [form]
  obtain rfl | rfl : k = 0 ∨ k = 1 := by omega
  · rw [checkStrip_other _ (by decide)]
    exact (checkStrip_checked (by omega)).mono fun i known => known.through (.refl _) after now'
  · have done := checkStrip_checked (s := checkStrip s 0) (k := 1) (by rw [checkStrip_length]; omega)
    rw [now, checkStrip_other s (by decide)] at done
    exact done.mono fun i known => known.through before (.refl _) rfl

theorem StripChecked.takes {s t : State} {k now : Nat} {p q : Strip}
    (h : StripChecked p now (fun i => Reported s .stripLampFault k i t) q) : StripTakes s k p q t := by
  cases used : p.used
  · rw [h.unused used]
    exact .of_same rfl s k t
  · obtain ⟨latch, rfl, -, taken⟩ := h.used used
    exact taken

/-- What the statement asks of a strip after LAMP_CHECK. -/
theorem StripChecked.table {p q : Strip} {now : Nat} {reported : Nat → Prop} (h : StripChecked p now reported q) :
    (p.n = 0 → q = p) ∧
      (p.n ≠ 0 → ∃ latch, (∀ i, p.latch = some i → latch = some i) ∧
        (p.latch = none → ∀ i, latch = some i → i < p.n) ∧
        q = { p with
          mode := .check
          dir := none
          phase := 0
          flash := none
          check := some 4
          lit := List.replicate p.n true
          timer := some (now + p.step * 5000)
          latch := latch }) := by
  refine ⟨fun none_ => h.unused (by unfold Strip.used; rw [none_]; rfl), fun some_ => ?_⟩
  obtain ⟨latch, form, held, taken⟩ := h.used (bne_iff_ne.2 some_)
  refine ⟨latch, held, fun empty i known => (taken empty i known).1, ?_⟩
  have lit : (Strip.begun { p with check := some 4 } (.check, none)).litSegments = List.replicate p.n true := by
    show (List.range p.n).map (fun _ => true) = _
    rw [List.map_const', List.length_range]
  rw [form, Strip.entered, lit]
  rfl

/-! ### The commands -/

theorem SignalOp.command {c : Instr} {u v : State} (op : SignalOp c u v) :
    (∃ sense, c = .signStepExpiry sense) ∨ (∃ k sense, c = .stripStepExpiry k sense) ∨ c = .cadenceTimerExpiry ∨
      c = .lampCheck := by
  cases op with
  | signs row => exact .inl ⟨_, row⟩
  | strip row => exact .inr (.inl ⟨_, _, row⟩)
  | cadence row => exact .inr (.inr (.inl row))
  | lampCheck row => exact .inr (.inr (.inr row))

/-- A neighbour's id is handed on at a STATE alone, a source at a press alone. -/
theorem Owns.hands {c : Instr} {u v : State} {peer : Option Nat} {pressed : List Nat} (h : Owns c u v peer pressed) :
    ((∀ src p, c ≠ .stateArrival src p) → peer = none) ∧
      ((∀ p, c ≠ .callPointPress p ∧ c ≠ .firePointLevelChange p true) → pressed = []) := by
  cases h with
  | state => exact ⟨fun other => absurd rfl (other _ _), fun _ => rfl⟩
  | @press _ _ p used row =>
    refine ⟨fun _ => rfl, fun other => ?_⟩
    obtain ⟨press, level⟩ := other p
    exact absurd row (not_or_intro press level)
  | _ => exact ⟨fun _ => rfl, fun _ => rfl⟩

theorem Owns.signals_alone {c : Instr} {u v : State} {peer : Option Nat} {pressed : List Nat} (h : Owns c u v peer pressed)
    (op : SignalOp c u v) : peer = none ∧ pressed = [] := by
  obtain ⟨peer, pressed⟩ := h.hands
  obtain ⟨_, rfl⟩ | ⟨_, _, rfl⟩ | rfl | rfl := op.command <;> exact ⟨peer nofun, pressed fun _ => ⟨nofun, nofun⟩⟩

theorem SignalOp.sameInputs {c : Instr} {u v : State} (op : SignalOp c u v) : SameInputs u v := by
  obtain ⟨_, _, _, _, rfl⟩ := op.changes
  exact ⟨rfl, rfl, rfl, rfl, rfl, rfl, rfl, rfl, rfl⟩

/-- A step or a check of the signal driver's own is followed by calls alone. -/
theorem Owns.signals_settled {c : Instr} {u v : State} {peer : Option Nat} {pressed : List Nat} (h : Owns c u v peer pressed)
    (op : SignalOp c u v) : (settle u v peer pressed).sd = v.sd ∧ (settle u v peer pressed).ru = u.ru := by
  obtain ⟨rfl, rfl⟩ := h.signals_alone op
  have ru := (Footprint.signals op).ru
  have follows := settle_callConsequent op.sameInputs
  generalize settle u v none [] = t at follows ⊢
  obtain ⟨_, _, _, _, _, rfl⟩ := follows
  exact ⟨rfl, ru⟩

theorem SignalOp.takes {c : Instr} {u v : State} (op : SignalOp c u v) (len : u.sd.strips.length = 2) {k : Nat} (low : k < 2) :
    StripTakes u k (u.strip k) (v.strip k) v := by
  cases op with
  | @signs sense row =>
    obtain ⟨_, form⟩ := State.stepSigns_changes (u.setPins { u.pins with signSense := sense }) 4
    rw [form]
    exact .of_same rfl u k _
  | @strip d sense row running =>
    have takes := State.stepStrip_takes (u.setPins { u.pins with stripSense := u.pins.stripSense.set d sense }) d (u.strip d) sense
    generalize (u.setPins { u.pins with stripSense := u.pins.stripSense.set d sense }).stepStrip d (u.strip d) sense = w at takes ⊢
    obtain same | ⟨q, strips, takes⟩ := takes
    · exact .of_same (by rw [State.strip_congr (s := u) same]) u k w
    · have strip : w.strip k = if k = d.1 then q else u.strip k := State.strip_of_set (s := u) strips (by omega) k
      rw [strip]
      by_cases here : k = d.1
      · rw [if_pos here, here]
        exact takes
      · rw [if_neg here]
        exact .of_same rfl u k w
  | cadence => exact .of_same rfl u k _
  | lampCheck => exact (checkBoth_checked len low).takes

theorem Answered.queue {s t : State} (h : Answered s t) : Extends s.ap.reports t.ap.reports := by
  obtain ⟨_, _, rfl⟩ := h
  exact .refl _

theorem AtEvent.queue {s u : State} (h : AtEvent s u) : Extends s.ap.reports u.ap.reports := by
  obtain ⟨_, _, _, _, rfl⟩ := h
  exact .refl _

section
variable {c : Instr} {s t : State}

/-- An empty latch takes a segment lit at the step, whatever the command (R152). -/
theorem exec_latches (a : s.awake = true) (a' : t.awake = true) (len : s.sd.strips.length = 2)
    (h : exec c s = .next t) {k : Nat} (low : k < 2) : StripTakes s k (s.strip k) (t.strip k) t := by
  obtain ⟨u, v, peer, pressed, moment, owner, answered⟩ | ⟨u, v, moment, owner, answered⟩ := exec_awake a a' h
  · obtain ⟨sd, -, now⟩ := answered.signals
    obtain ⟨sd', -⟩ := moment.signals
    rw [← sd'] at len
    rw [State.strip_congr (congrArg (·.strips) sd), ← State.strip_congr (congrArg (·.strips) sd')]
    refine StripTakes.through (s := u) (t := settle u v peer pressed) ?_ moment.queue answered.queue now
    obtain op | ⟨same, -⟩ := owner.footprint.signals_or_same
    · obtain ⟨final, -⟩ := owner.signals_settled op
      have takes := op.takes len low
      rw [State.strip_congr (congrArg (·.strips) final)]
      exact takes.through (.refl _) (settle_extends u v peer pressed) (settle_now u v peer pressed)
    · obtain ⟨still, moved⟩ := settle_strip (congrArg (·.strips) same) len owner.footprint.extends peer pressed low
      by_cases route : u.ru = (settle u v peer pressed).ru
      · exact .of_same (by rw [still route]) u k _
      · exact (moved route).takes
  · obtain ⟨sd, -, -⟩ := answered.signals
    obtain ⟨sd', -⟩ := moment.signals
    rw [State.strip_congr (congrArg (·.strips) sd), ← State.strip_congr (congrArg (·.strips) sd')]
    obtain same | cleared := owner.signals
    · exact .of_same (by rw [State.strip_congr (congrArg (·.strips) same)]) s k t
    · have strip : v.strip k = { u.strip k with latch := none } := by
        unfold State.strip
        rw [cleared]
        exact List.getD_map (f := fun p : Strip => { p with latch := none }) (d := Strip.unused) ..
      rw [strip]
      exact fun _ _ => nofun

/-- An evacuation that begins ends a check at every strip (R153). -/
theorem exec_checkEnds (a : s.awake = true) (a' : t.awake = true) (len : s.sd.strips.length = 2)
    (h : exec c s = .next t) (calm : s.ru.evacuating = none) (evacuating : t.ru.evacuating ≠ none)
    (checking : s.lampChecking = true) :
    (∀ k < 2, (t.strip k).check = none) ∧ Reported s .lampCheckEnd 0xFFFF 0xFFFE t := by
  obtain ⟨u, v, peer, pressed, moment, owner, answered⟩ | ⟨u, v, moment, owner, answered⟩ := exec_awake a a' h
  · obtain ⟨sd, ru, now⟩ := answered.signals
    obtain ⟨sd', ru'⟩ := moment.signals
    rw [← ru'] at calm
    rw [ru] at evacuating
    rw [State.lampChecking, ← sd', ← State.lampChecking] at checking
    have moved : u.ru ≠ (settle u v peer pressed).ru := fun same => evacuating (by rw [← same]; exact calm)
    obtain op | ⟨same, -⟩ := owner.footprint.signals_or_same
    · obtain ⟨-, final⟩ := owner.signals_settled op
      exact absurd final.symm moved
    · have begun : (settle u v peer pressed).isEvacuating = true := Option.isSome_iff_ne_none.2 evacuating
      have ends := settle_checkEnds (congrArg (·.strips) same) owner.footprint.extends peer pressed moved checking begun
      refine ⟨fun k low => ?_, ends.through moment.queue answered.queue now⟩
      obtain ⟨-, follows⟩ := settle_strip (congrArg (·.strips) same) (by rw [sd']; exact len) owner.footprint.extends peer pressed low
      have done := follows moved
      rw [checking, begun] at done
      rw [State.strip_congr (congrArg (·.strips) sd)]
      cases turns : ((u.strip k).unchecked true).turns (settle u v peer pressed).ru (u.ru.via != (settle u v peer pressed).ru.via)
      · rw [done.stays turns]
        rfl
      · obtain ⟨_, form, -, -⟩ := done.turns turns
        rw [form]
        rfl
  · obtain ⟨-, ru, -⟩ := answered.signals
    obtain ⟨-, ru'⟩ := moment.signals
    obtain ⟨-, route, -, -⟩ := owner.routeInputs
    rw [ru, route, ru'] at evacuating
    exact absurd calm evacuating

end

/-! ### The requests -/

theorem exec_cadence {s : State} {deadline : Nat} (a : s.awake = true) (timer : s.sd.cadenceTimer = some deadline) :
    exec .cadenceTimerExpiry s = .next { s with
      now := max s.now deadline
      sd := { s.sd with
        cadence := s.sd.cadence.map (!·), cadenceTimer := some (max s.now deadline + Config.second) } } := by
  have row : exec .cadenceTimerExpiry s = s.expiry s.sd.cadenceTimer State.turnCadence := rfl
  rw [row, State.expiry_running a timer]
  exact congrArg Host.Outcome.next
    (settle_idle (s := s.reach deadline) ⟨rfl, rfl, rfl, rfl, rfl, rfl, rfl, rfl, rfl⟩ rfl id)

section
variable {s : State} (hears : s.listens = true) (run : s.running = true)
include hears run

theorem exec_lampCheck_barred (evacuating : s.ru.evacuating ≠ none) :
    exec .lampCheck s = .next (s.respond (.errState .none)) := by
  have begun : s.isEvacuating = true := Option.isSome_iff_ne_none.2 evacuating
  simp only [exec, execLampCheck, State.request_taken hears (State.portBar_change run), if_pos begun]

theorem exec_lampCheck (calm : s.ru.evacuating = none) :
    exec .lampCheck s = .next ((settle s (s.forEach 2 checkStrip) none []).respond .ok) := by
  have still : s.isEvacuating = false := by unfold State.isEvacuating; rw [calm]; rfl
  simp only [exec, execLampCheck, State.request_taken hears (State.portBar_change run), still]
  rfl

end

/-- Settles O52: the check of both strips, the cadence, and what any command does to latches and checks. -/
theorem lampCheckAndCadence : Obligations.LampCheckAndCadence := by
  refine fun s => ⟨fun hears run => ⟨exec_lampCheck_barred hears run, fun calm shaped => ?_⟩, fun deadline a timer =>
    exec_cadence a timer, fun c t a a' shaped h => ⟨fun k low => exec_latches a a' shaped.strips h low,
    fun calm evacuating ⟨k, low, used, checked⟩ => ?_⟩⟩
  · rw [Completes, exec_lampCheck hears run calm]
    have checked {k : Nat} (low : k < 2) := checkBoth_checked shaped.strips low
    have queue := State.forEach_extends (f := checkStrip) checkStrip_extends 2 s
    obtain ⟨⟨strips, r, free⟩, form⟩ := State.eachStrip_changes checkStrip checkStrip_changes 2 s
    generalize s.forEach 2 checkStrip = w at checked queue form
    have same : SameInputs s w := by rw [form]; exact ⟨rfl, rfl, rfl, rfl, rfl, rfl, rfl, rfl, rfl⟩
    have follows := settle_callConsequent same
    generalize settle s w none [] = t at follows
    have sd : t.sd = w.sd := by obtain ⟨_, _, _, _, _, rfl⟩ := follows; rfl
    have reported : CallConsequent { s with sd := { s.sd with strips := strips }, freeCount := free } w := by
      rw [form] at queue ⊢
      exact .of_reports { s with sd := { s.sd with strips := strips }, freeCount := free } queue
    refine ⟨_, rfl, ⟨strips, free, (reported.trans follows).respond .ok⟩, fun k => ?_⟩
    have strip : (t.respond .ok).strip k = w.strip k := State.strip_congr (s := w) (congrArg (·.strips) sd) k
    rw [strip]
    exact (checked k.2).table
  · refine exec_checkEnds a a' shaped.strips h calm evacuating (List.any_eq_true.2 ⟨s.strip k, ?_, ?_⟩)
    · exact State.strip_mem (by rw [shaped.strips]; exact low)
    · rw [Bool.and_eq_true, Option.isSome_iff_ne_none]
      exact ⟨bne_iff_ne.2 used, checked⟩

end Sys2Proof.Machine
end

/-! ## The transmit queue and the noise window after every command (R47, R54, R55) -/

section
namespace Sys2Proof.Machine

/-- The transmit queue in its order, within its bound, and the noise window within its own. -/
structure LineController.Queued (lc : LineController) : Prop where
  length : lc.queue.length ≤ 8
  order : lc.queue.Pairwise fun a b => a.cls < b.cls ∨ (a.cls = b.cls ∧ a.age < b.age)
  apart : lc.queue.Pairwise fun a b => a.age ≠ b.age ∧ collapsesInto a.body b = false
  young : ∀ e ∈ lc.queue, e.age < lc.nextAge
  noise : lc.noise.length ≤ 9

theorem State.queueOrdered_iff (s : State) : s.lc.Queued ↔ s.QueueOrdered ∧ s.lc.queue.length ≤ 8 ∧ s.lc.noise.length ≤ 9 :=
  ⟨fun h => ⟨⟨h.order, h.apart, h.young⟩, h.length, h.noise⟩, fun ⟨⟨order, apart, young⟩, length, noise⟩ =>
    ⟨length, order, apart, young, noise⟩⟩

/-! ### An offer -/

/-- Neither of two entries stands for the other. -/
def TxEntry.Apart (a b : TxEntry) : Prop := a.age ≠ b.age ∧ collapsesInto a.body b = false

theorem TxEntry.Apart.symm {a b : TxEntry} (h : a.Apart b) : b.Apart a :=
  ⟨h.1.symm, Bool.eq_false_iff.2 fun back => by
    rw [TxEntry.Apart, collapsesInto_symm back] at h
    exact Bool.noConfusion h.2⟩

theorem insertEntry_order {e : TxEntry} {q : List TxEntry}
    (order : q.Pairwise fun a b => a.cls < b.cls ∨ (a.cls = b.cls ∧ a.age < b.age)) (fresh : ∀ x ∈ q, e.age ≠ x.age) :
    (insertEntry e q).Pairwise fun a b => a.cls < b.cls ∨ (a.cls = b.cls ∧ a.age < b.age) := by
  induction q with
  | nil => exact List.pairwise_singleton _ _
  | cons x xs ih =>
    obtain ⟨first, rest⟩ := List.pairwise_cons.1 order
    unfold insertEntry
    split
    · rename_i before
      rw [TxEntry.before_iff] at before
      refine List.pairwise_cons.2 ⟨fun y mem => ?_, order⟩
      obtain rfl | later := List.mem_cons.1 mem
      · exact before
      · have := first y later
        omega
    · rename_i after
      rw [TxEntry.before_iff] at after
      refine List.pairwise_cons.2 ⟨fun y mem => ?_, ih rest fun z later => fresh z (List.mem_cons_of_mem _ later)⟩
      obtain rfl | later := List.mem_cons.1 ((insertEntry_perm e xs).mem_iff.1 mem)
      · have := fresh x List.mem_cons_self
        omega
      · exact first y later

theorem insertEntry_apart {e : TxEntry} {q : List TxEntry} (apart : q.Pairwise TxEntry.Apart) (fresh : ∀ x ∈ q, e.Apart x) :
    (insertEntry e q).Pairwise TxEntry.Apart :=
  ((insertEntry_perm e q).pairwise_iff fun h => h.symm).2 (List.pairwise_cons.2 ⟨fresh, apart⟩)

/-- An entry put in its place into a part of an ordered queue. -/
theorem LineController.Queued.insert {lc lc' : LineController} (h : lc.Queued) {e : TxEntry} {rest : List TxEntry}
    (part : rest.Sublist lc.queue) (fresh : ∀ x ∈ rest, e.Apart x) (room : rest.length < 8) (young : e.age < lc'.nextAge)
    (later : lc.nextAge ≤ lc'.nextAge) (queue : lc'.queue = insertEntry e rest) (noise : lc'.noise = lc.noise) : lc'.Queued where
  length := by rw [queue, insertEntry_length]; exact room
  order := by
    rw [queue]
    exact insertEntry_order (h.order.sublist part) fun x mem => (fresh x mem).1
  apart := by
    rw [queue]
    exact insertEntry_apart (List.Pairwise.sublist part h.apart) fresh
  young x mem := by
    rw [queue] at mem
    obtain rfl | mem := List.mem_cons.1 ((insertEntry_perm e rest).mem_iff.1 mem)
    · exact young
    · exact Nat.lt_of_lt_of_le (h.young x (part.subset mem)) later
  noise := by rw [noise]; exact h.noise

/-- Of entries that stand apart, a body collapses into one at most, and the others keep apart from it. -/
theorem LineController.Queued.collapsed {lc : LineController} (h : lc.Queued) {body : Payload} {e : TxEntry}
    (found : lc.queue.find? (collapsesInto body) = some e) :
    ∀ x ∈ lc.queue.eraseP (collapsesInto body), e.age ≠ x.age ∧ collapsesInto body x = false := by
  obtain ⟨takes, before, after, is, first⟩ := List.find?_eq_some_iff_append.1 found
  have erased : lc.queue.eraseP (collapsesInto body) = before ++ after := by
    rw [is, List.eraseP_append_right _ fun b mem => by simpa using first b mem, List.eraseP_cons_of_pos takes]
  have apart : (e :: (before ++ after)).Pairwise TxEntry.Apart := by
    refine (List.Perm.pairwise_iff (fun h => h.symm) ?_).1 h.apart
    rw [is]
    exact List.perm_middle
  intro x mem
  rw [erased] at mem
  obtain ⟨age, other⟩ := (List.pairwise_cons.1 apart).1 x mem
  refine ⟨age, Bool.eq_false_iff.2 fun too => ?_⟩
  rw [collapsesInto_both takes too] at other
  exact Bool.noConfusion other

theorem LineController.Queued.offer {lc : LineController} (h : lc.Queued) (open_ : Bool) (body : Payload) (cls : Nat) :
    (lc.offer open_ body cls).1.Queued := by
  unfold LineController.offer
  split
  · exact h
  · split
    · rename_i e found
      have mem := List.mem_of_find?_eq_some found
      have takes := List.find?_some found
      have erased : (lc.queue.eraseP (collapsesInto body)).length < 8 := by
        rw [List.length_eraseP_of_mem mem takes]
        have := List.length_pos_of_mem mem
        have := h.length
        omega
      refine h.insert (e := e.collapse body cls) List.eraseP_sublist (fun x mem => ?_) erased ?_ (Nat.le_refl _) rfl rfl
      · exact h.collapsed found x mem
      · exact h.young e mem
    · rename_i apart
      have fresh (x : TxEntry) (mem : x ∈ lc.queue) : TxEntry.Apart ⟨body, cls, lc.nextAge, 0, false, false⟩ x :=
        ⟨(h.young x mem).ne', by simpa using List.find?_eq_none.1 apart x mem⟩
      dsimp only
      split
      · rename_i room
        exact h.insert (List.Sublist.refl _) fresh room (Nat.lt_succ_self _) (Nat.le_succ _) rfl rfl
      · split
        · rename_i v least
          split
          · have mem := victim_mem least
            have room : (lc.queue.eraseP (· = v)).length < 8 := by
              rw [List.length_eraseP_of_mem mem (by simp)]
              have := List.length_pos_of_mem mem
              have := h.length
              omega
            exact h.insert List.eraseP_sublist (fun x mem => fresh x (List.mem_of_mem_eraseP mem)) room (Nat.lt_succ_self _)
              (Nat.le_succ _) rfl rfl
          · exact { h with }
        · exact { h with }

theorem LineController.Queued.offers {a b : LineController} (h : a.Queued) (offers : LineOffers a b) : b.Queued := by
  obtain ⟨offered, last, rfl⟩ := offers
  suffices (a.offerAll offered).Queued from { this with }
  unfold LineController.offerAll
  induction offered generalizing a with
  | nil => exact h
  | cons o offered ih => exact ih (h.offer _ _ _)

/-! ### The line controller's own operations -/

/-- What the queue's order reads of an entry. -/
def TxEntry.key (e : TxEntry) : Nat × Nat × Payload := (e.cls, e.age, e.body)

/-- A queue whose keys are a part of the keys of an ordered one is in order. -/
theorem LineController.Queued.of_keys {a b : LineController} (h : a.Queued)
    (keys : (b.queue.map TxEntry.key).Sublist (a.queue.map TxEntry.key)) (next : b.nextAge = a.nextAge)
    (noise : b.noise.length ≤ 9) : b.Queued where
  length := by
    have shorter := keys.length_le
    rw [List.length_map, List.length_map] at shorter
    exact Nat.le_trans shorter h.length
  order := by
    have order : (a.queue.map TxEntry.key).Pairwise fun x y => x.1 < y.1 ∨ (x.1 = y.1 ∧ x.2.1 < y.2.1) := List.pairwise_map.2 h.order
    exact List.pairwise_map.1 (order.sublist keys)
  apart := by
    have apart : (a.queue.map TxEntry.key).Pairwise fun x y =>
        x.2.1 ≠ y.2.1 ∧ collapsesInto x.2.2 ⟨y.2.2, y.1, y.2.1, 0, false, false⟩ = false := List.pairwise_map.2 h.apart
    exact List.pairwise_map.1 (apart.sublist keys)
  young e mem := by
    obtain ⟨x, stands, same⟩ := List.mem_map.1 (keys.subset (List.mem_map.2 ⟨e, mem, rfl⟩))
    have age : x.age = e.age := congrArg (·.2.1) same
    rw [next, ← age]
    exact h.young x stands
  noise := noise

theorem LineController.Queued.same {a b : LineController} (h : a.Queued) (queue : b.queue = a.queue) (next : b.nextAge = a.nextAge)
    (noise : b.noise.length ≤ 9) : b.Queued := h.of_keys (by rw [queue]) next noise

theorem completeEntries_keys (q : List TxEntry) : ((completeEntries q).map TxEntry.key).Sublist (q.map TxEntry.key) := by
  induction q with
  | nil => exact .refl _
  | cons e es ih =>
    unfold completeEntries
    split
    · split
      · exact .refl _
      · exact List.sublist_cons_self _ _
    · exact ih.cons_cons e.key

theorem map_keys {f : TxEntry → TxEntry} (kept : ∀ e, (f e).key = e.key) (q : List TxEntry) :
    (q.map f).map TxEntry.key = q.map TxEntry.key := by
  rw [List.map_map]
  exact List.map_congr_left fun e _ => kept e

theorem TxEntry.collide_key (e : TxEntry) : e.collide.key = e.key := by
  unfold TxEntry.collide
  split <;> rfl

theorem LineController.begin_keys (lc : LineController) (id : Nat) :
    (lc.begin id).queue.map TxEntry.key = lc.queue.map TxEntry.key ∧ (lc.begin id).nextAge = lc.nextAge ∧
      (lc.begin id).noise = lc.noise := by
  unfold LineController.begin
  cases queue : lc.queue with
  | nil => exact ⟨by rw [queue], rfl, rfl⟩
  | cons e es => exact ⟨rfl, rfl, rfl⟩

theorem pushNoise_length (window : List Nat) (t : Nat) : (pushNoise window t).length ≤ 9 := by
  unfold pushNoise
  split
  · rw [List.length_append, List.length_singleton]
    omega
  · rw [List.length_drop, List.length_append, List.length_singleton]
    omega

theorem State.reportIf_lc (s : State) (c : Bool) (k : ReportKind) (a b : Nat) : (s.reportIf c k a b).lc = s.lc := by
  obtain ⟨_, form⟩ := State.reportIf_changes s c k a b
  rw [form]

section
variable {u v : State}

theorem LineOp.queued (op : LineOp u v) (h : u.lc.Queued) : v.lc.Queued := by
  cases op with
  | collide =>
    have abandoned : LineController.Queued { u.lc with queue := u.lc.queue.map .collide, sending := none, deaf := some u.now } :=
      h.of_keys (by rw [map_keys TxEntry.collide_key]) rfl h.noise
    unfold State.collide
    dsimp only
    split
    · split
      · exact { abandoned with }
      · exact abandoned
    · exact abandoned
  | stuckBegin => rw [State.stuckBegin, State.reportIf_lc]; exact { h with }
  | stuckExpire => rw [State.stuckExpire, State.reportIf_lc]; exact { h with }
  | checkError =>
    have aged : u.dropAged.lc.Queued := by
      rw [State.dropAged, State.reportIf_lc]
      exact h.same rfl rfl (Nat.le_trans (List.length_filter_le ..) h.noise)
    rw [State.noteCheckError, State.reportIf_lc]
    exact aged.same rfl rfl (pushNoise_length ..)
  | ageNoise =>
    rw [State.ageNoise, State.reportIf_lc]
    refine h.same rfl rfl ?_
    have := h.noise
    show u.lc.noise.tail.length ≤ 9
    rw [List.length_tail]
    omega
  | duplicate => rw [State.noteDuplicate, State.reportIf_lc]; exact { h with }
  | refresh =>
    have offered := h.offers (u.offerState_line u.refreshClass)
    exact { offered with }

/-! ### The other blocks' offers -/

theorem State.offerClear_line (s : State) (src serial by_ : Nat) : LineOffers s.lc (s.offerClear src serial by_).lc := s.offer_line _ _

theorem State.clearCall_line (s : State) (src by_ : Nat) : LineOffers s.lc (s.clearCall src by_).lc := by
  unfold State.clearCall
  split
  · exact .refl _
  · exact State.offerClear_line (s.setCc _) _ _ _

theorem State.press_lc (s : State) (src : Nat) (kind : CallKind) (base : Nat) : (s.press src kind base).lc = s.lc := by
  obtain ⟨_, _, _, form⟩ := s.press_changes src kind base
  rw [form]

theorem CallOp.line (op : CallOp u v) : LineOffers u.lc v.lc := by
  cases op with
  | clearAsked =>
    unfold State.decideClear
    split
    · exact u.offerClear_line _ _ _
    · split
      · split
        · exact u.announce_line _
        · exact u.clearCall_line _ _
      · exact u.announce_line _
  | @take _ src =>
    unfold State.decideTake
    split
    · exact u.offerClear_line _ _ _
    · split
      · exact State.announce_line (u.setCall src _) src
      · exact u.announce_line _
  | @giveup _ src =>
    unfold State.decideGiveup
    split
    · exact .refl _
    · split
      · exact State.announce_line (u.setCall src _) src
      · exact .refl _
  | @press p =>
    rw [State.pressPoint, State.press_lc]
    exact .refl _
  | qualify => exact .refl _
  | key =>
    unfold State.turnKey
    split
    · exact State.clearCall_line (u.setCc _) _ _
    · split
      · exact State.clearCall_line (u.setCc _) _ _
      · exact .refl _
  | @unanswered src => exact State.announce_line (u.setCall src _) src
  | @attend src => exact State.announce_line (u.setCall src _) src
  | reannounce => exact u.announce_line _

theorem DoorOp.line (op : DoorOp u v) : LineOffers u.lc v.lc := by
  cases op with
  | @opening d =>
    unfold State.openDoor
    dsimp only
    split
    · exact State.doorAlarm_line (State.report _ _ _ _) _ _ _
    · exact .refl _
  | @hold d =>
    unfold State.holdDoor
    dsimp only
    split
    · exact State.doorAlarm_line (State.report _ _ _ _) _ _ _
    · exact .refl _
  | pulse =>
    unfold State.orderPulse
    split <;> exact .refl _
  | _ => exact .refl _

theorem State.applyOwnOrder_lc (s : State) (code : Nat) : (s.applyOwnOrder code).lc = s.lc := by
  obtain ⟨_, _, form⟩ := s.applyOwnOrder_changes code
  rw [form]

theorem State.takeCompleted_lc (s : State) (origin source serial : Nat) : (s.takeCompleted origin source serial).lc = s.lc := by
  unfold State.takeCompleted
  split
  · split <;> rfl
  · rfl

theorem State.handCompletion_lc (s : State) (body : Payload) :
    ∃ refresh, (s.handCompletion body).lc = { s.lc with refresh := refresh } := by
  cases body with
  | take p => exact ⟨s.lc.refresh, s.takeCompleted_lc _ _ _⟩
  | order p => exact ⟨s.lc.refresh, s.applyOwnOrder_lc _⟩
  | state => exact ⟨s.startRefresh.lc.refresh, rfl⟩
  | call | clear | giveup => exact ⟨s.lc.refresh, rfl⟩

theorem SentOp.queued {c : Instr} (op : SentOp c u v) (h : u.lc.Queued) : v.lc.Queued := by
  cases op with
  | @complete sent =>
    obtain ⟨_, form⟩ := u.completeSending.handCompletion_lc sent.body
    rw [form, State.completeSending, State.reportIf_lc]
    exact h.of_keys (completeEntries_keys _) rfl h.noise
  | @order body =>
    rw [State.applyOwnOrder_lc]
    exact h.offers (u.offer_line body 0)

theorem Footprint.queued {c : Instr} (op : Footprint c u v) (h : u.lc.Queued) : v.lc.Queued := by
  cases op with
  | line op => exact op.queued h
  | sent op => exact op.queued h
  | doors _ op => exact h.offers op.line
  | calls op => exact h.offers op.line
  | run _ form => rw [form]; exact h
  | confirm _ form => obtain ⟨_, _, _, _, e⟩ := u.confirmExpire_changes; rw [form, e]; exact h
  | @reset a b c _ form =>
    obtain ⟨_, _, _, _, _, e⟩ := u.decideReset_changes a b c
    rw [form, e]
    exact h
  | detector op => obtain ⟨_, _, _, _, _, _, rfl⟩ := op.changes; exact h
  | table op => obtain ⟨_, _, rfl⟩ := op.changes; exact h
  | list op => obtain ⟨_, _, rfl⟩ := op.changes; exact h
  | signals op => obtain ⟨_, _, _, _, rfl⟩ := op.changes; exact h
  | test op => obtain ⟨_, _, _, rfl⟩ := op.changes; exact h

end

theorem settle_queued (old : State) {s : State} (peer : Option Nat) (pressed : List Nat) (h : s.lc.Queued) :
    (settle old s peer pressed).lc.Queued := by
  obtain ⟨refresh, offers⟩ := settle_line old s peer pressed
  exact LineController.Queued.offers (a := { s.lc with refresh := refresh }) { h with } offers

theorem LineController.afterRestart_queued : LineController.afterRestart.Queued where
  length := Nat.zero_le _
  order := .nil
  apart := .nil
  young := nofun
  noise := Nat.zero_le _

theorem queued_kept : Kept fun s => s.lc.Queued where
  answered a h := by obtain ⟨_, _, rfl⟩ := a; exact h
  moment m h := by obtain ⟨_, _, _, _, rfl⟩ := m; exact { h with }
  pending _ h := h
  restarts _ _ _ _ := LineController.afterRestart_queued
  loads s bytes strap := by
    obtain ⟨_, _, _, form⟩ := s.leaveLoading_changes bytes strap
    rw [form]
    exact LineController.afterRestart_queued
  follows _ owner h := settle_queued _ _ _ (owner.footprint.queued h)
  alone {c u v} owner h := by
    cases owner with
    | @grant _ n choice => cases choice <;> exact h
    | contend =>
      obtain ⟨keys, next, noise⟩ := u.lc.begin_keys u.nodeId
      exact h.of_keys (by rw [← keys]; exact .refl _) next (by rw [State.setLc, noise]; exact h.noise)
    | lose =>
      have keys := map_keys (f := .offLine) (fun _ => rfl) u.lc.queue
      exact h.of_keys (by rw [← keys]; exact .refl _) rfl h.noise
    | stuckEnd =>
      unfold State.stuckEnd
      split
      · exact { h with }
      · exact h
    | @offer _ _ body cls => exact h.offers (u.offer_line body cls)
    | @relist _ _ body cls => exact h.offers (u.offer_line body cls)
    | clearLamps => rw [State.clearLamps, State.reportIf_lc]; exact h
    | readNode => exact { h with }
    | still | readReport | extendWalk | pulse => exact h

end Sys2Proof.Machine
end

/-! ## The attention list after every command (R129, R130, R133) -/

section
namespace Sys2Proof.Machine

/-! ### The order of keys -/

theorem keysBefore_trans {a b c : List Nat} (h : keysBefore a b = true) (k : keysBefore b c = true) : keysBefore a c = true := by
  induction a generalizing b c with
  | nil => cases h
  | cons x xs ih =>
    cases b with
    | nil => cases h
    | cons y ys =>
      cases c with
      | nil => cases k
      | cons z zs =>
        simp only [keysBefore, Bool.or_eq_true, decide_eq_true_eq, Bool.and_eq_true] at h k ⊢
        obtain below | ⟨rfl, rest⟩ := h
        · obtain below' | ⟨rfl, -⟩ := k
          · exact .inl (Nat.lt_trans below below')
          · exact .inl below
        · obtain below' | ⟨rfl, rest'⟩ := k
          · exact .inl below'
          · exact .inr ⟨rfl, ih rest rest'⟩

/-- Keys of one length that differ stand in order one way or the other. -/
theorem keysBefore_total {a b : List Nat} (len : a.length = b.length) (differ : a ≠ b) (h : keysBefore a b = false) :
    keysBefore b a = true := by
  induction a generalizing b with
  | nil =>
    cases b with
    | nil => exact absurd rfl differ
    | cons => cases len
  | cons x xs ih =>
    cases b with
    | nil => cases len
    | cons y ys =>
      simp only [keysBefore, Bool.or_eq_true, decide_eq_true_eq, Bool.and_eq_true, Bool.or_eq_false_iff, decide_eq_false_iff_not,
        Bool.and_eq_false_iff] at h ⊢
      obtain ⟨above, rest⟩ := h
      by_cases same : y = x
      · subst same
        have different : xs ≠ ys := fun eq => differ (by rw [eq])
        exact .inr ⟨rfl, ih (Nat.succ.inj len) different (rest.resolve_left (not_not_intro rfl))⟩
      · exact .inl (by omega)

theorem Entry.keys_apart {a b : Entry} (h : (a.origin, a.source) ≠ (b.origin, b.source)) : a.keys ≠ b.keys := fun same => by
  simp only [Entry.keys, List.cons.injEq] at same
  obtain ⟨-, -, -, origin, source, -⟩ := same
  exact h (by rw [origin, source])

/-- R130 written out. -/
theorem keysBefore_iff (a b : Entry) : keysBefore a.keys b.keys = true ↔
    a.priority < b.priority ∨ a.priority = b.priority ∧
      (a.state.rank < b.state.rank ∨ a.state.rank = b.state.rank ∧
        (a.inserted < b.inserted ∨ a.inserted = b.inserted ∧
          (a.origin < b.origin ∨ a.origin = b.origin ∧ a.source < b.source))) := by
  simp [keysBefore, Entry.keys]

/-! ### The list -/

/-- Two entries of different identities, the first in its place before the second. -/
def Entry.Before (a b : Entry) : Prop := keysBefore a.keys b.keys = true ∧ (a.origin, a.source) ≠ (b.origin, b.source)

/-- The attention list in R130's order, of at most 24 entries. -/
structure Listed (l : List Entry) : Prop where
  order : l.Pairwise Entry.Before
  length : l.length ≤ 24

section
variable {l : List Entry}

theorem Listed.sublist (h : Listed l) {l' : List Entry} (part : l'.Sublist l) : Listed l' :=
  ⟨h.order.sublist part, Nat.le_trans part.length_le h.length⟩

theorem listInsert_length (e : Entry) (l : List Entry) : (listInsert e l).length = l.length + 1 := (listInsert_perm e l).length_eq

theorem Listed.insert (h : Listed l) {e : Entry} (fresh : ∀ x ∈ l, (e.origin, e.source) ≠ (x.origin, x.source))
    (room : l.length < 24) : Listed (listInsert e l) := by
  refine ⟨?_, by rw [listInsert_length]; exact room⟩
  replace h := h.order
  clear room
  induction l with
  | nil => exact List.pairwise_singleton _ _
  | cons x xs ih =>
    obtain ⟨first, rest⟩ := List.pairwise_cons.1 h
    have apart := fresh x List.mem_cons_self
    unfold listInsert
    split
    · rename_i before
      refine List.pairwise_cons.2 ⟨fun y mem => ⟨?_, fresh y mem⟩, h⟩
      obtain rfl | later := List.mem_cons.1 mem
      · exact before
      · exact keysBefore_trans before (first y later).1
    · rename_i after
      refine List.pairwise_cons.2 ⟨fun y mem => ?_, ih (fun z later => fresh z (List.mem_cons_of_mem _ later)) rest⟩
      obtain rfl | later := List.mem_cons.1 ((listInsert_perm e xs).mem_iff.1 mem)
      · exact ⟨keysBefore_total rfl (Entry.keys_apart apart) (by simpa using after), apart.symm⟩
      · exact first y later

theorem Entry.has_iff {origin source : Nat} {e : Entry} : Entry.has origin source e = true ↔ (origin, source) = (e.origin, e.source) := by
  rw [Entry.has, Bool.and_eq_true, decide_eq_true_iff, decide_eq_true_iff, Prod.mk.injEq]
  exact ⟨fun ⟨o, t⟩ => ⟨o.symm, t.symm⟩, fun ⟨o, t⟩ => ⟨o.symm, t.symm⟩⟩

/-- After an identity has left the list, none of it is there. -/
theorem Listed.unlisted (h : Listed l) (origin source : Nat) :
    ∀ x ∈ l.eraseP (Entry.has origin source), (origin, source) ≠ (x.origin, x.source) := by
  intro x mem same
  have takes : Entry.has origin source x = true := Entry.has_iff.2 same
  obtain ⟨y, before, after, first, is, form, erased⟩ := List.exists_of_eraseP (List.mem_of_mem_eraseP mem) takes
  rw [erased] at mem
  obtain mem | mem := List.mem_append.1 mem
  · exact first x mem takes
  · have order := h.order
    rw [form] at order
    obtain ⟨-, apart⟩ := (List.pairwise_cons.1 (List.pairwise_append.1 order).2.1).1 x mem
    exact apart ((Entry.has_iff.1 is).symm.trans same)

end

section
variable {s : State}

theorem State.listed_iff (s : State) : Listed s.al ↔ s.ListOrdered ∧ s.al.length ≤ 24 :=
  ⟨fun h => ⟨h.order, h.length⟩, fun ⟨order, length⟩ => ⟨order, length⟩⟩

theorem State.unlist_listed (h : Listed s.al) (origin source : Nat) : Listed (s.unlist origin source).al :=
  h.sublist List.eraseP_sublist

/-- The entry of an identity that stands in the list leaves a place. -/
theorem State.unlist_room (h : Listed s.al) {origin source : Nat} {e : Entry} (listed : s.entry origin source = some e) :
    (s.unlist origin source).al.length < 24 := by
  have mem := List.mem_of_find?_eq_some listed
  have here := List.find?_some listed
  show (s.al.eraseP _).length < 24
  rw [List.length_eraseP_of_mem mem here]
  have := List.length_pos_of_mem mem
  have := h.length
  omega

theorem State.relist_listed (h : Listed s.al) {e : Entry} {old : Entry} (listed : s.entry e.origin e.source = some old) :
    Listed (s.relist e).al :=
  (State.unlist_listed h e.origin e.source).insert (h.unlisted e.origin e.source) (State.unlist_room h listed)

theorem State.relist_entry_listed (h : Listed s.al) {origin source : Nat} {e new : Entry} (listed : s.entry origin source = some e)
    (same : new.origin = e.origin ∧ new.source = e.source) : Listed (s.relist new).al := by
  obtain ⟨origin', source'⟩ := State.entry_identity listed
  obtain ⟨o, t⟩ := same
  refine State.relist_listed h (old := e) ?_
  rw [o, t, origin', source']
  exact listed

theorem State.reportIf_al (s : State) (c : Bool) (k : ReportKind) (a b : Nat) : (s.reportIf c k a b).al = s.al := by
  obtain ⟨_, form⟩ := State.reportIf_changes s c k a b
  rw [form]

theorem displaced_mem {list : List Entry} {priority : Nat} {d : Entry} (h : displaced list priority = some d) : d ∈ list := by
  unfold displaced at h
  split at h
  · rename_i e found
    cases h
    exact List.mem_reverse.1 (List.mem_of_find?_eq_some found)
  · exact List.mem_reverse.1 (List.mem_of_find?_eq_some h)

theorem State.newCall_listed (h : Listed s.al) {e : Entry} (fresh : s.entry e.origin e.source = none) :
    Listed (s.newCall e).al := by
  have apart (x : Entry) (mem : x ∈ s.al) : (e.origin, e.source) ≠ (x.origin, x.source) := fun same =>
    List.find?_eq_none.1 fresh x mem (Entry.has_iff.2 same)
  unfold State.newCall
  split
  · rename_i room
    exact h.insert apart room
  · split
    · rename_i d found
      have mem := displaced_mem found
      have room : (s.al.eraseP (Entry.has d.origin d.source)).length < 24 := by
        rw [List.length_eraseP_of_mem mem (Entry.has_iff.2 rfl)]
        have := List.length_pos_of_mem mem
        have := h.length
        omega
      exact (State.unlist_listed h d.origin d.source).insert (fun x mem => apart x (List.mem_of_mem_eraseP mem)) room
    · exact h

theorem State.hearCall_listed (h : Listed s.al) (origin : Nat) (p : CallPayload) : Listed (s.hearCall origin p).al := by
  unfold State.hearCall
  split
  · rename_i fresh
    exact State.newCall_listed h fresh
  · rename_i e listed
    obtain ⟨origin', source'⟩ := State.entry_identity listed
    split
    · unfold State.updateCall State.reportUpdate
      have updated : Listed (s.relist (e.update p s)).al := State.relist_entry_listed h listed ⟨rfl, rfl⟩
      split
      · exact updated
      · split
        · exact updated
        · rw [State.reportIf_al]
          exact updated
    · unfold State.replaceCall State.insertCall
      have left := State.unlist_listed h e.origin e.source
      rw [← origin', ← source'] at listed
      have room := State.unlist_room h listed
      have apart := h.unlisted e.origin e.source
      show Listed (listInsert _ (State.reportIf _ _ _ _ _).al)
      rw [State.reportIf_al]
      refine left.insert (fun x mem => ?_) room
      have other := apart x mem
      rw [origin', source'] at other
      exact other

theorem State.takeCompleted_listed (h : Listed s.al) (origin source serial : Nat) : Listed (s.takeCompleted origin source serial).al := by
  unfold State.takeCompleted
  split
  · rename_i e listed
    split
    · exact State.relist_entry_listed h listed ⟨rfl, rfl⟩
    · exact h
  · exact h

theorem ListOp.listed {v : State} (op : ListOp s v) (h : Listed s.al) : Listed v.al := by
  cases op with
  | call => exact State.hearCall_listed h _ _
  | @clear origin source =>
    unfold State.hearClear
    split
    · split
      · exact State.unlist_listed h origin source
      · exact h
    · exact h
  | @expire _ _ e => exact State.unlist_listed h e.origin e.source
  | takeTimeout listed => exact State.relist_entry_listed h listed ⟨rfl, rfl⟩

theorem State.handCompletion_listed (h : Listed s.al) (body : Payload) : Listed (s.handCompletion body).al := by
  cases body with
  | take p => exact State.takeCompleted_listed h _ _ _
  | order p =>
    obtain ⟨_, _, form⟩ := s.applyOwnOrder_changes p.code.toNat
    show Listed (s.applyOwnOrder p.code.toNat).al
    rw [form]
    exact h
  | state | call | clear | giveup => exact h

theorem SentOp.listed {c : Instr} {v : State} (op : SentOp c s v) (h : Listed s.al) : Listed v.al := by
  cases op with
  | complete =>
    refine State.handCompletion_listed ?_ _
    rw [State.completeSending, State.reportIf_al]
    exact h
  | @order _ code =>
    obtain ⟨_, _, form⟩ := State.applyOwnOrder_changes (s.offer _ 0).1 code.toNat
    rw [form]
    exact h

theorem Footprint.listed {c : Instr} {v : State} (op : Footprint c s v) (h : Listed s.al) : Listed v.al := by
  cases op with
  | list op => exact op.listed h
  | sent op => exact op.listed h
  | run _ form => rw [form]; exact h
  | confirm _ form => obtain ⟨_, _, _, _, e⟩ := s.confirmExpire_changes; rw [form, e]; exact h
  | @reset a b c _ form =>
    obtain ⟨_, _, _, _, _, e⟩ := s.decideReset_changes a b c
    rw [form, e]
    exact h
  | detector op => obtain ⟨_, _, _, _, _, _, rfl⟩ := op.changes; exact h
  | line op => obtain ⟨_, _, rfl⟩ := op.changes; exact h
  | table op => obtain ⟨_, _, rfl⟩ := op.changes; exact h
  | doors _ op => obtain ⟨_, _, _, _, _, _, rfl⟩ := op.changes; exact h
  | calls op => obtain ⟨_, _, _, rfl⟩ := op.changes; exact h
  | signals op => obtain ⟨_, _, _, _, rfl⟩ := op.changes; exact h
  | test op => obtain ⟨_, _, _, rfl⟩ := op.changes; exact h

end

theorem listed_kept : Kept fun s => Listed s.al where
  answered a h := by obtain ⟨_, _, rfl⟩ := a; exact h
  moment m h := by obtain ⟨_, _, _, _, rfl⟩ := m; exact h
  pending _ h := h
  restarts _ _ _ _ := ⟨.nil, Nat.zero_le _⟩
  loads s bytes strap := by
    obtain ⟨_, _, _, form⟩ := s.leaveLoading_changes bytes strap
    rw [form]
    exact ⟨.nil, Nat.zero_le _⟩
  follows {c u v peer pressed} _ owner h := by
    obtain ⟨-, -, al, -⟩ := settle_keeps u v peer pressed
    rw [al]
    exact owner.footprint.listed h
  alone {c u v} owner h := by
    cases owner with
    | @grant _ n choice => cases choice <;> exact h
    | stuckEnd =>
      unfold State.stuckEnd
      split <;> exact h
    | clearLamps => rw [State.clearLamps, State.reportIf_al]; exact h
    | @relist _ _ body cls e state run kind listed =>
      have offered : Listed (u.offer body cls).1.al := h
      have stands : (u.offer body cls).1.entry e.origin e.source = some e := listed
      exact State.relist_entry_listed offered stands ⟨rfl, rfl⟩
    | still | contend | lose | readNode | readReport | offer | extendWalk | pulse => exact h

end Sys2Proof.Machine
end

/-! ## Every step keeps the lengths, the bounds and the orders (R14, R47, R54, R129, R130, R172) -/

section
namespace Sys2Proof.Machine

/-! ### Slots and doors -/

/-- Eight slots and eight doors. -/
structure State.Housed (s : State) : Prop where
  slots : s.nt.slots.length = 8
  doors : s.doors.length = 8

theorem housed_kept : Kept State.Housed where
  answered a h := by obtain ⟨_, _, rfl⟩ := a; exact { h with }
  moment m h := by obtain ⟨_, _, _, _, rfl⟩ := m; exact { h with }
  pending _ h := { h with }
  restarts _ _ _ _ := ⟨rfl, rfl⟩
  loads s bytes strap := by
    obtain ⟨_, _, _, form⟩ := s.leaveLoading_changes bytes strap
    rw [form]
    exact ⟨(configOf_fresh bytes strap).slots, (List.length_map ..).trans (configOf_fresh bytes strap).doors⟩
  follows {c u v peer pressed} _ owner h :=
    ⟨(slotCount_of_configs (settle_slotConfigs owner.footprint peer pressed)).trans h.slots,
      (settle_doors_length u v peer pressed).trans (owner.footprint.moved.length.trans h.doors)⟩
  alone owner h := by
    obtain ⟨moved, -, -⟩ := owner.doors
    obtain ⟨-, -, -, nt⟩ := owner.routeInputs
    exact ⟨by rw [nt]; exact h.slots, moved.length.trans h.doors⟩

/-! ### The report queue -/

theorem State.leaveLoading_extends (s : State) (img : List Byte) (strap : Mode) : Extends [] (s.leaveLoading img strap).ap.reports := by
  have config := State.report_extends (s.loaded img strap) .config ((s.loaded img strap).cl.firstClamp.getD noSubject)
    (configValue (s.loaded img strap).cl.invalid (s.loaded img strap).cl.clampCount)
  exact (config.trans (faultFollow_extends _ _)).trans (announceFollow_extends _ _ _)

/-- Of the changes of an owner alone, the host's reading of a report takes one from the queue; the others only add. -/
theorem Alone.reports {c : Instr} {u v : State} (h : Alone c u v) :
    Extends u.ap.reports v.ap.reports ∨ ∃ r, u.ap.reports = r :: v.ap.reports := by
  cases h with
  | @grant _ n choice => cases choice <;> exact .inl (.refl _)
  | stuckEnd =>
    unfold State.stuckEnd
    split <;> exact .inl (.refl _)
  | clearLamps => exact .inl (State.reportIf_extends (u.setSd _) _ _ _ _)
  | readReport queued => exact .inr ⟨_, queued⟩
  | still | contend | lose | readNode | offer | relist | extendWalk | pulse => exact .inl (.refl _)

theorem reports_kept : Kept fun s => s.ap.reports.length ≤ 16 where
  answered a h := by obtain ⟨_, _, rfl⟩ := a; exact h
  moment m h := by obtain ⟨_, _, _, _, rfl⟩ := m; exact h
  pending _ h := h
  restarts _ _ _ _ := Nat.zero_le _
  loads s bytes strap := (s.leaveLoading_extends bytes strap).length_le (Nat.zero_le _)
  follows _ owner h := (owner.footprint.extends.trans (settle_extends _ _ _ _)).length_le h
  alone {c u v} owner h := by
    obtain added | ⟨r, queue⟩ := owner.reports
    · exact added.length_le h
    · have length := congrArg List.length queue
      rw [List.length_cons] at length
      omega

/-- Before LOADING has ended nothing is reported (R172, R177). -/
theorem Alone.reports_asleep {c : Instr} {u v : State} (h : Alone c u v) (asleep : v.awake = false) (empty : u.ap.reports = []) :
    v.ap.reports = [] := by
  obtain ⟨-, -, awake⟩ := h.doors
  have silent (run : u.running = true) : False := by
    rw [awake, State.awake_of_running run] at asleep
    cases asleep
  cases h with
  | @grant _ n choice => cases choice <;> exact empty
  | stuckEnd =>
    unfold State.stuckEnd
    split <;> exact empty
  | clearLamps run => exact (silent run).elim
  | readReport queued =>
    rw [empty] at queued
    cases queued
  | still | contend | lose | readNode | offer | relist | extendWalk | pulse => exact empty

theorem Answered.reports {s t : State} (h : Answered s t) : t.ap.reports = s.ap.reports ∧ t.awake = s.awake := by
  obtain ⟨_, _, rfl⟩ := h
  exact ⟨rfl, rfl⟩

theorem step_reports_asleep {s t : State} (silent : s.awake = false → s.ap.reports = []) (h : step s = .next t)
    (asleep : t.awake = false) : t.ap.reports = [] := by
  rcases step_cases h with rfl | ⟨c, rest, -, h⟩
  · have same : s.tick.awake = s.awake ∧ s.tick.ap = s.ap := by
      unfold State.tick
      split <;> exact ⟨rfl, rfl⟩
    rw [same.2]
    exact silent (same.1 ▸ asleep)
  · cases exec_moves h with
    | restarts _ a => rw [a.reports.1]; rfl
    | @loads bytes strap _ _ form =>
      obtain ⟨_, _, _, changes⟩ := (s.setPending rest).leaveLoading_changes bytes strap
      rw [form, changes] at asleep
      cases asleep
    | @follows u v peer pressed awake moment owner a =>
      have after := owner.footprint.awake (moment.awake.trans awake) peer pressed
      rw [a.reports.2, after] at asleep
      cases asleep
    | @alone u v moment owner a =>
      obtain ⟨reports, same⟩ := a.reports
      rw [same] at asleep
      rw [reports]
      obtain ⟨-, -, awake⟩ := owner.doors
      refine owner.reports_asleep asleep ?_
      obtain ⟨_, _, _, _, rfl⟩ := moment
      exact silent (awake.symm.trans asleep)

theorem queueReport_room {queue : List Report} (room : queue.length < 16) (offered : Report) :
    queueReport queue offered = queue ++ [offered] := if_pos room

theorem queueReport_full {older : List Report} {newest : Report} (full : 16 ≤ (older ++ [newest]).length) (offered : Report) :
    queueReport (older ++ [newest]) offered = older ++ [{ newest with overflow := true }] :=
  (if_neg (by omega)).trans (markNewest_concat older newest)

/-- ATTN is asserted while the queue holds an entry (R172). -/
theorem State.attn_iff (s : State) : s.attn = true ↔ s.ap.reports ≠ [] := by
  unfold State.attn
  cases s.ap.reports <;> simp

/-! ### The two structures together -/

section
variable {s t : State}

theorem State.Shaped.calls_shaped (h : s.Shaped) : s.cc.Shaped where
  points := h.points
  calls := h.calls
  serials := h.serials
  rotations := h.rotations
  orders := h.orders
  priorities := h.priorities
  pointPriorities := h.pointPriorities

theorem State.Shaped.scanned (h : s.Shaped) (b : s.Bounded) : s.Scanned := ⟨h.channels, b.rings, h.tested, h.recorded⟩

/-- Each list has its length after a step. -/
theorem step_shaped (shaped : s.Shaped) (bounded : s.Bounded) (h : step s = .next t) : t.Shaped := by
  have scanned := scanned_kept.step (shaped.scanned bounded) h
  have calls := calls_kept.step shaped.calls_shaped h
  have housed := housed_kept.step ⟨shaped.slots, shaped.doors⟩ h
  have signed := signed_kept.step ⟨shaped.signs, shaped.strips⟩ h
  exact {
    channels := scanned.channels
    tested := scanned.tested
    recorded := scanned.recorded
    slots := housed.slots
    doors := housed.doors
    points := calls.points
    calls := calls.calls
    serials := calls.serials
    rotations := calls.rotations
    signs := signed.signs
    strips := signed.strips
    sense := (step_stripSense h).trans shaped.sense
    orders := calls.orders
    priorities := calls.priorities
    pointPriorities := calls.pointPriorities }

end

/-- Settles O4, each list by the invariant of its block. -/
theorem stepKeepsBounds : Obligations.StepKeepsBounds := by
  refine ⟨fun s t shaped bounded queue list h => ?_, fun queue offered => ⟨fun room => queueReport_room room offered, ?_⟩,
    fun s kind subject value => rfl, State.attn_iff, fun s t silent h asleep => ?_, fun s ordered => ?_⟩
  · have queued := queued_kept.step (s.queueOrdered_iff.2 ⟨queue, bounded.queue, bounded.noise⟩) h
    have listed := listed_kept.step (s.listed_iff.2 ⟨list, bounded.list⟩) h
    obtain ⟨order, length, noise⟩ := t.queueOrdered_iff.1 queued
    obtain ⟨listOrder, listLength⟩ := t.listed_iff.1 listed
    exact ⟨step_shaped shaped bounded h, ⟨reports_kept.step bounded.reports h, length, noise, listLength,
      (scanned_kept.step (shaped.scanned bounded) h).rings⟩, order, listOrder⟩
  · rintro older newest rfl full
    exact queueReport_full full offered
  · have empty := step_reports_asleep silent h asleep
    refine ⟨empty, ?_⟩
    unfold State.attn
    rw [empty]
    rfl
  · intro rank
    refine List.Pairwise.imp (fun {a b} ⟨keys, apart⟩ => ⟨?_, (keysBefore_iff a b).1 keys⟩) ordered
    by_contra same
    rw [not_or, not_ne_iff, not_ne_iff] at same
    obtain ⟨origin, source⟩ := same
    exact apart (by rw [origin, source])

end Sys2Proof.Machine
end

/-! ## The duration tester's part of an event (R162, R164, R166) -/

section
namespace Sys2Proof.Machine

/-! ### Whose operation it was -/

/-- `v` has the duration test and the marker of `u`. -/
def SameTest (u v : State) : Prop := v.dt = u.dt ∧ v.marker = u.marker

section
variable {c : Instr} {u v : State}

theorem DetectorOp.sameTest (op : DetectorOp u v) : SameTest u v := by
  obtain ⟨_, _, _, _, _, _, rfl⟩ := op.changes
  exact ⟨rfl, rfl⟩

theorem LineOp.sameTest (op : LineOp u v) : SameTest u v := by
  obtain ⟨_, _, rfl⟩ := op.changes
  exact ⟨rfl, rfl⟩

theorem TableOp.sameTest (op : TableOp c u v) : SameTest u v := by
  obtain ⟨_, _, rfl⟩ := op.changes
  exact ⟨rfl, rfl⟩

theorem SentOp.sameTest (op : SentOp c u v) : SameTest u v := by
  obtain ⟨_, _, _, _, rfl⟩ := op.changes
  exact ⟨rfl, rfl⟩

theorem DoorOp.sameTest (op : DoorOp u v) : SameTest u v := by
  obtain ⟨_, _, _, _, _, _, rfl⟩ := op.changes
  exact ⟨rfl, rfl⟩

theorem CallOp.sameTest (op : CallOp u v) : SameTest u v := by
  obtain ⟨_, _, _, rfl⟩ := op.changes
  exact ⟨rfl, rfl⟩

theorem ListOp.sameTest (op : ListOp u v) : SameTest u v := by
  obtain ⟨_, _, rfl⟩ := op.changes
  exact ⟨rfl, rfl⟩

theorem SignalOp.sameTest (op : SignalOp c u v) : SameTest u v := by
  obtain ⟨_, _, _, _, rfl⟩ := op.changes
  exact ⟨rfl, rfl⟩

theorem State.decideReset_sameTest (s : State) (a b : Nat) (clears : Bool) : SameTest s (s.decideReset a b clears) := by
  obtain ⟨_, _, _, _, _, form⟩ := s.decideReset_changes a b clears
  rw [form]
  exact ⟨rfl, rfl⟩

theorem State.confirmExpire_sameTest (s : State) : SameTest s s.confirmExpire := by
  obtain ⟨_, _, _, _, form⟩ := s.confirmExpire_changes
  rw [form]
  exact ⟨rfl, rfl⟩

theorem Alone.sameTest (h : Alone c u v) : SameTest u v := by
  obtain ⟨_, _, _, _, _, _, _, _, _, form⟩ := h.changes
  rw [form]
  exact ⟨rfl, rfl⟩

/-- An event is the tester's own, or leaves the test to what follows; the two requests of a suspension and a resumption are its own. -/
theorem Owns.tester_or_same {peer : Option Nat} {pressed : List Nat} (h : Owns c u v peer pressed) :
    (TestOp c u v ∧ peer = none ∧ pressed = []) ∨ (SameTest u v ∧ c ≠ .testSuspend ∧ c ≠ .testResume) := by
  cases h with
  | minute running => exact .inl ⟨.minute running, rfl, rfl⟩
  | battery => exact .inl ⟨.battery, rfl, rfl⟩
  | suspendTimer running => exact .inl ⟨.suspendTimer running, rfl, rfl⟩
  | testStart run free => exact .inl ⟨.start run free, rfl, rfl⟩
  | testSuspend run running => exact .inl ⟨.suspend rfl run running, rfl, rfl⟩
  | testResume run free => exact .inl ⟨.resume rfl run free, rfl, rfl⟩
  | testAbort run underWay => exact .inl ⟨.abort run underWay, rfl, rfl⟩
  | enterRun => exact .inr ⟨⟨rfl, rfl⟩, nofun, nofun⟩
  | confirm => exact .inr ⟨u.confirmExpire_sameTest, nofun, nofun⟩
  | orderReset | fireReset => exact .inr ⟨u.decideReset_sameTest _ _ _, nofun, nofun⟩
  | sample taken => exact .inr ⟨(DetectorOp.sample taken).sameTest, nofun, nofun⟩
  | drift => exact .inr ⟨DetectorOp.drift.sameTest, nofun, nofun⟩
  | rates => exact .inr ⟨DetectorOp.rates.sameTest, nofun, nofun⟩
  | hold => exact .inr ⟨DetectorOp.hold.sameTest, nofun, nofun⟩
  | walkTime | walkStop => exact .inr ⟨DetectorOp.endWalk.sameTest, nofun, nofun⟩
  | walkStart run active => exact .inr ⟨(DetectorOp.beginWalk active).sameTest, nofun, nofun⟩
  | isolate => exact .inr ⟨DetectorOp.isolate.sameTest, nofun, nofun⟩
  | restore => exact .inr ⟨DetectorOp.restore.sameTest, nofun, nofun⟩
  | collide | stuckBegin | stuckExpire | checkError | ageNoise | refresh =>
    exact .inr ⟨LineOp.sameTest (by constructor <;> assumption), nofun, nofun⟩
  | duplicate row =>
    refine .inr ⟨LineOp.duplicate.sameTest, ?_, ?_⟩ <;> rintro rfl <;> obtain ⟨_, row⟩ | ⟨_, _, row⟩ := row <;> cases row
  | state source wf other => exact .inr ⟨(TableOp.state (c := .readNode) wf).sameTest, nofun, nofun⟩
  | silence => exact .inr ⟨(TableOp.silence (target := 0) rfl).sameTest, nofun, nofun⟩
  | loseSlot running => exact .inr ⟨(TableOp.loseSlot (c := .readNode) running).sameTest, nofun, nofun⟩
  | flag row code => exact .inr ⟨(TableOp.flag row code).sameTest, fun is => (by rw [is] at row; cases row), fun is => (by rw [is] at row; cases row)⟩
  | complete sending => exact .inr ⟨(SentOp.complete rfl sending).sameTest, nofun, nofun⟩
  | order run kind => exact .inr ⟨(SentOp.order (target := 0) (door := 0) rfl run kind).sameTest, nofun, nofun⟩
  | contact | opening | shutting | rex | accessExpire | holdDoor | jam | unjam | orderPulse =>
    exact .inr ⟨DoorOp.sameTest (by constructor <;> assumption), nofun, nofun⟩
  | feedback used row =>
    refine .inr ⟨(DoorOp.feedback used).sameTest, ?_, ?_⟩ <;> rintro rfl <;> obtain row | row := row <;> cases row
  | take | giveup | qualify | key | unanswered | attend | reannounce =>
    exact .inr ⟨CallOp.sameTest (by constructor <;> assumption), nofun, nofun⟩
  | clearAsked row => exact .inr ⟨CallOp.clearAsked.sameTest, fun is => (by rw [is] at row; cases row), fun is => (by rw [is] at row; cases row)⟩
  | press used row =>
    refine .inr ⟨(CallOp.press used).sameTest, ?_, ?_⟩ <;> rintro rfl <;> obtain row | row := row <;> cases row
  | clear row => exact .inr ⟨ListOp.clear.sameTest, fun is => (by rw [is] at row; cases row), fun is => (by rw [is] at row; cases row)⟩
  | call wf => exact .inr ⟨(ListOp.call wf).sameTest, nofun, nofun⟩
  | entryExpires listed => exact .inr ⟨(ListOp.expire listed).sameTest, nofun, nofun⟩
  | takeTimeout listed => exact .inr ⟨(ListOp.takeTimeout listed).sameTest, nofun, nofun⟩
  | signs => exact .inr ⟨(SignalOp.signs rfl).sameTest, nofun, nofun⟩
  | strip running => exact .inr ⟨(SignalOp.strip rfl running).sameTest, nofun, nofun⟩
  | cadence running => exact .inr ⟨(SignalOp.cadence rfl running).sameTest, nofun, nofun⟩
  | lampCheck run calm => exact .inr ⟨(SignalOp.lampCheck rfl calm).sameTest, nofun, nofun⟩

end

/-! ### What the other blocks' changes make of the test -/

/-- R164: the test as `d` resumes by itself in the building as `t` has it. -/
structure Tester.Resumes (d : Tester) (t : State) : Prop where
  auto : t.cl.node.autoResume = true
  suspended : d.state = .suspended
  cause : d.cause ≠ some .host
  clear : t.testBar = none

theorem State.autoResumes_iff (s : State) : s.autoResumes = true ↔ s.dt.Resumes s := by
  simp only [State.autoResumes, Bool.and_eq_true, decide_eq_true_eq, bne_iff_ne, Option.isNone_iff_eq_none]
  exact ⟨fun ⟨⟨⟨auto, suspended⟩, cause⟩, clear⟩ => ⟨auto, suspended, cause, clear⟩,
    fun ⟨auto, suspended, cause, clear⟩ => ⟨⟨⟨auto, suspended⟩, cause⟩, clear⟩⟩

/-- What an event of another block, from `u` to `t`, makes of the test. -/
inductive TestFollowed (u t : State) (peer : Option Nat) : Prop
  | still (test : SameTest u t) (unhit : u.dt.state = .running → testHits u t peer = [])
      (waits : u.dt.state ≠ .running → testInputsChanged u t = true → ¬u.dt.Resumes t)
  | suspended (running : u.dt.state = .running) (cause : SuspendCause) (hit : .suspend cause ∈ testHits u t peer)
      (dt : t.dt = u.dt.suspended t.now cause) (marker : t.marker = u.marker)
      (reported : Reported u .testSuspended cause.code (u.dt.completed.getD 0) t)
  | aborted (running : u.dt.state = .running) (id : Nat) (hit : .peer id ∈ testHits u t peer)
      (dt : t.dt = u.dt.ended (.aborted .peer) u.dt.batteryFault) (marker : t.marker = false)
      (reported : Reported u .testResult 3 (id * 256 + 1) t)
  | resumed (resumes : u.dt.Resumes t) (changed : testInputsChanged u t = true) (normal : u.dt.battery ≠ some true)
      (dt : t.dt = u.dt.resumed t.now) (marker : t.marker = u.marker)
      (reported : Reported u .testResumed 1 (u.dt.completed.getD 0) t)
  | failed (resumes : u.dt.Resumes t) (changed : testInputsChanged u t = true) (low : u.dt.battery = some true)
      (dt : t.dt = u.dt.ended (.fail (u.dt.completed.getD 0)) true) (marker : t.marker = false)
      (reported : Reported u .testResumed 1 (u.dt.completed.getD 0) t)
      (result : Reported u .testResult 2 (u.dt.completed.getD 0) t)

section
variable {u w t : State} {peer : Option Nat}

theorem testHits_ground (g : SameGround w t) (u : State) (peer : Option Nat) : testHits u t peer = testHits u w peer := by
  unfold testHits State.nodeId
  rw [g.cl, g.fl, g.ru, g.evacuate]

theorem testInputsChanged_ground (g : SameGround w t) (u : State) : testInputsChanged u t = testInputsChanged u w := by
  unfold testInputsChanged State.slotViews
  rw [g.fl, g.ru, g.evacuate, g.slots]

theorem State.testBar_ground (g : SameGround w t) : t.testBar = w.testBar := by
  unfold State.testBar State.noPeerTesting
  rw [g.fl, g.ru, g.evacuate, g.slots]

theorem Tester.resumes_ground (g : SameGround w t) (d : Tester) : d.Resumes t ↔ d.Resumes w :=
  ⟨fun h => ⟨g.cl ▸ h.auto, h.suspended, h.cause, State.testBar_ground g ▸ h.clear⟩,
    fun h => ⟨by rw [g.cl]; exact h.auto, h.suspended, h.cause, by rw [State.testBar_ground g]; exact h.clear⟩⟩

/-- Of the hits of an event one is taken, whichever it is (log 8). -/
theorem State.takeHits_one (s : State) {hits : List TestHit} (some_ : hits ≠ []) :
    ∃ hit ∈ hits, ∃ free, s.takeHits hits = (s.setFreeCount free).takeHit hit := by
  cases hits with
  | nil => exact absurd rfl some_
  | cons h rest =>
    cases rest with
    | nil => exact ⟨h, List.mem_cons_self, s.freeCount, rfl⟩
    | cons h' rest =>
      have below : Config.freeChoice s.freeCount % (h :: h' :: rest).length < (h :: h' :: rest).length :=
        Nat.mod_lt _ (Nat.succ_pos _)
      exact ⟨_, getD_mem below h, _, rfl⟩

theorem State.resumeTest_normal {s : State} (normal : s.dt.battery ≠ some true) (by_ : Resumer) : s.resumeTest by_ =
    State.report { s with dt := s.dt.resumed s.now } .testResumed by_.code (s.dt.completed.getD 0) :=
  State.checkBattery_normal (s := State.report { s with dt := s.dt.resumed s.now } .testResumed by_.code _) normal

theorem State.resumeTest_low {s : State} (low : s.dt.battery = some true) (by_ : Resumer) : s.resumeTest by_ =
    State.endTest (State.report { s with dt := s.dt.resumed s.now } .testResumed by_.code (s.dt.completed.getD 0))
      (.fail (s.dt.completed.getD 0)) none :=
  State.checkBattery_low (s := State.report { s with dt := s.dt.resumed s.now } .testResumed by_.code _) low

/-- The tester's part of the event on `w`, of which `t` is the end. -/
theorem testFollow_followed (g : SameGround w t) (same : SameTest u w) (before : Extends u.ap.reports w.ap.reports)
    (after : Extends (testFollow u w peer).ap.reports t.ap.reports) (dt : t.dt = (testFollow u w peer).dt)
    (marker : t.marker = (testFollow u w peer).marker) : TestFollowed u t peer := by
  obtain ⟨dtSame, markerSame⟩ := same
  have now : t.now = (testFollow u w peer).now := by
    obtain ⟨_, _, _, _, form⟩ := testFollow_changes u w peer
    rw [form]
    exact g.now
  have final {kind : ReportKind} {a b : Nat} (h : Reported w kind a b (testFollow u w peer)) : Reported u kind a b t :=
    h.through before after now
  by_cases running : w.dt.state = .running
  · have row : testFollow u w peer = w.takeHits (testHits u w peer) := if_pos running
    by_cases unhit : testHits u w peer = []
    · have still : testFollow u w peer = w := by rw [row, unhit]; rfl
      rw [still] at dt marker
      refine .still ⟨dt.trans dtSame, marker.trans markerSame⟩ (fun _ => (testHits_ground g u peer).trans unhit) fun other => ?_
      rw [dtSame] at running
      exact absurd running other
    · obtain ⟨hit, mem, free, taken⟩ := w.takeHits_one unhit
      rw [row, taken] at dt marker final
      rw [← testHits_ground g u peer] at mem
      rw [dtSame] at running
      cases hit with
      | suspend cause =>
        refine .suspended running cause mem ?_ (marker.trans markerSame) ?_
        · rw [← dtSame, g.now]
          exact dt
        · rw [← dtSame]
          exact final ⟨w.ap.reports, .refl _, .refl _⟩
      | peer id =>
        refine .aborted running id mem ?_ marker ?_
        · rw [← dtSame]
          exact dt
        · exact final ⟨w.ap.reports, .refl _, .refl _⟩
  · by_cases resumes : (testInputsChanged u w && w.autoResumes) = true
    · have row : testFollow u w peer = w.resumeTest .auto := (if_neg running).trans (if_pos resumes)
      rw [row] at dt marker final
      rw [Bool.and_eq_true, State.autoResumes_iff, dtSame, ← Tester.resumes_ground g, ← testInputsChanged_ground g] at resumes
      obtain ⟨changed, ready⟩ := resumes
      by_cases low : u.dt.battery = some true
      · rw [State.resumeTest_low (by rw [dtSame]; exact low)] at dt marker final
        refine .failed ready changed low ?_ marker ?_ ?_
        · rw [← dtSame]
          exact dt
        · rw [← dtSame]
          exact final ⟨w.ap.reports, .refl _, State.report_extends (State.setMarker _ _) _ _ _⟩
        · rw [← dtSame]
          exact final ⟨_, w.report_extends .testResumed 1 (w.dt.completed.getD 0), .refl _⟩
      · rw [State.resumeTest_normal (by rw [dtSame]; exact low)] at dt marker final
        refine .resumed ready changed low ?_ (marker.trans markerSame) ?_
        · rw [← dtSame, g.now]
          exact dt
        · rw [← dtSame]
          exact final ⟨w.ap.reports, .refl _, .refl _⟩
    · have still : testFollow u w peer = w := (if_neg running).trans (if_neg resumes)
      rw [still] at dt marker
      rw [Bool.and_eq_true, State.autoResumes_iff, dtSame, ← Tester.resumes_ground g, ← testInputsChanged_ground g] at resumes
      rw [dtSame] at running
      exact .still ⟨dt.trans dtSame, marker.trans markerSame⟩ (fun h => absurd h running) fun _ changed ready => resumes ⟨changed, ready⟩

end

section
variable {c : Instr} {u v : State}

/-- The test at the end of an event of another block. -/
theorem settle_test (same : SameTest u v) (queue : Extends u.ap.reports v.ap.reports) (peer : Option Nat) (pressed : List Nat) :
    TestFollowed u (settle u v peer pressed) peer := by
  obtain ⟨w, ⟨ground, before, after⟩, dt, marker, dt', marker'⟩ := (settle_stages u v peer pressed).tester
  exact testFollow_followed ground ⟨dt.trans same.1, marker.trans same.2⟩ (queue.trans before) after dt' marker'

theorem TestOp.sameInputs (op : TestOp c u v) : SameInputs u v := by
  obtain ⟨_, _, _, rfl⟩ := op.changes
  exact ⟨rfl, rfl, rfl, rfl, rfl, rfl, rfl, rfl, rfl⟩

/-- An event of the tester's own changes nothing that it would follow itself. -/
theorem TestOp.settled (op : TestOp c u v) : CallConsequent v (settle u v none []) := settle_callConsequent op.sameInputs

end

end Sys2Proof.Machine
end

/-! ## Every step keeps the duration test in step (R159 to R168) -/

section
namespace Sys2Proof.Machine

/-! ### What an event of the tester's own makes of the test -/

/-- What an event of the tester's own, from `u` to `v`, makes of the test. -/
inductive TestMoved (c : Instr) (u v : State) : Prop
  | ended (d : Tester) (last : TestResult) (fault : Bool) (dt : v.dt = d.ended last fault) (marker : v.marker = false)
  | counted (running : u.dt.minute ≠ none) (n m : Nat) (dt : v.dt = { u.dt with completed := some n, minute := some m })
      (marker : v.marker = u.marker)
  | battery (low : Bool) (dt : v.dt = { u.dt with battery := some low }) (marker : v.marker = u.marker)
  | started (run : u.running = true) (free : u.startBar = none) (n : Nat) (dt : v.dt = u.dt.started u.now n) (marker : v.marker = true)
  | suspended (row : c = .testSuspend) (running : u.dt.state = .running) (dt : v.dt = u.dt.suspended u.now .host)
      (marker : v.marker = u.marker) (reported : Reported u .testSuspended 0 (u.dt.completed.getD 0) v)
  | resumed (row : c = .testResume) (free : u.resumeBar = none) (dt : v.dt = u.dt.resumed u.now) (marker : v.marker = u.marker)
      (reported : Reported u .testResumed 0 (u.dt.completed.getD 0) v)

theorem State.endTest_moved (c : Instr) (u s : State) (r : TestResult) (peer : Option Nat) : TestMoved c u (s.endTest r peer) :=
  .ended s.dt r (r.fault s.dt.batteryFault) rfl rfl

theorem TestOp.moved {c : Instr} {u v : State} (op : TestOp c u v) : TestMoved c u v := by
  cases op with
  | minute running =>
    unfold State.countMinute
    dsimp only
    split
    · exact State.endTest_moved ..
    · exact .counted running _ _ rfl rfl
  | @battery low =>
    unfold State.takeBattery
    dsimp only
    split
    · exact State.endTest_moved ..
    · exact .battery low rfl rfl
  | suspendTimer => exact State.endTest_moved ..
  | @start min run free =>
    by_cases low : u.dt.battery = some true
    · have ends : u.startTest min = State.endTest (State.report { u with dt := u.dt.started u.now min, marker := true }
          .testStarted 0xFFFF min) _ none :=
        State.checkBattery_low (s := State.report { u with dt := u.dt.started u.now min, marker := true } .testStarted _ _) low
      rw [ends]
      exact State.endTest_moved ..
    · have runs : u.startTest min = State.report { u with dt := u.dt.started u.now min, marker := true } .testStarted 0xFFFF min :=
        State.checkBattery_normal (s := State.report { u with dt := u.dt.started u.now min, marker := true } .testStarted _ _) low
      rw [runs]
      exact .started run free min rfl rfl
  | suspend row run running => exact .suspended row running rfl rfl ⟨u.ap.reports, .refl _, .refl _⟩
  | resume row run free =>
    by_cases low : u.dt.battery = some true
    · rw [State.resumeTest_low low]
      exact State.endTest_moved ..
    · rw [State.resumeTest_normal low]
      exact .resumed row free rfl rfl ⟨u.ap.reports, .refl _, .refl _⟩
  | abort => exact State.endTest_moved ..

/-! ### Marker, minutes and timers -/

/-- Marker, minutes and timers are in step with the test state (R159, R168). -/
structure Tester.InStep (d : Tester) (marker : Bool) : Prop where
  marker : marker = true ↔ d.state ≠ .idle
  requested : d.requested = none ↔ d.state = .idle
  completed : d.completed = none ↔ d.state = .idle
  minute : d.minute ≠ none ↔ d.state = .running
  suspend : d.suspend ≠ none ↔ d.state = .suspended

theorem Tester.ended_inStep (d : Tester) (last : TestResult) (fault : Bool) : (d.ended last fault).InStep false :=
  ⟨⟨nofun, fun h => absurd rfl h⟩, ⟨fun _ => rfl, fun _ => rfl⟩, ⟨fun _ => rfl, fun _ => rfl⟩, ⟨fun h => absurd rfl h, nofun⟩,
    ⟨fun h => absurd rfl h, nofun⟩⟩

section
variable {d : Tester} {marker : Bool}

/-- An entry to RUNNING or SUSPENDED with minutes held and the timer of that state. -/
theorem Tester.inStep_of {d' : Tester} (busy : d'.state ≠ .idle) (requested : d'.requested ≠ none) (completed : d'.completed ≠ none)
    (minute : d'.minute ≠ none ↔ d'.state = .running) (suspend : d'.suspend ≠ none ↔ d'.state = .suspended) : d'.InStep true :=
  ⟨⟨fun _ => busy, fun _ => rfl⟩, ⟨fun h => absurd h requested, fun h => absurd h busy⟩,
    ⟨fun h => absurd h completed, fun h => absurd h busy⟩, minute, suspend⟩

theorem Tester.InStep.suspended (h : d.InStep marker) (busy : d.state ≠ .idle) (now : Nat) (cause : SuspendCause) :
    (d.suspended now cause).InStep marker := by
  rw [h.marker.2 busy]
  exact Tester.inStep_of nofun (fun none_ => busy (h.requested.1 none_)) (fun none_ => busy (h.completed.1 none_))
    ⟨fun some_ => absurd rfl some_, nofun⟩ ⟨fun _ => rfl, fun _ => nofun⟩

theorem Tester.InStep.resumed (h : d.InStep marker) (busy : d.state ≠ .idle) (now : Nat) : (d.resumed now).InStep marker := by
  rw [h.marker.2 busy]
  exact Tester.inStep_of nofun (fun none_ => busy (h.requested.1 none_)) (fun none_ => busy (h.completed.1 none_))
    ⟨fun _ => rfl, fun _ => nofun⟩ ⟨fun some_ => absurd rfl some_, nofun⟩

theorem Tester.started_inStep (d : Tester) (now minutes : Nat) : (d.started now minutes).InStep true :=
  Tester.inStep_of nofun nofun nofun ⟨fun _ => rfl, fun _ => nofun⟩ ⟨fun some_ => absurd rfl some_, nofun⟩

theorem Tester.InStep.counted (h : d.InStep marker) (running : d.minute ≠ none) (n m : Nat) :
    Tester.InStep { d with completed := some n, minute := some m } marker := by
  have state := h.minute.1 running
  exact ⟨h.marker, h.requested, ⟨nofun, fun idle => absurd (state.symm.trans idle) nofun⟩, ⟨fun _ => state, fun _ => nofun⟩, h.suspend⟩

end

theorem TestMoved.inStep {c : Instr} {u v : State} (h : TestMoved c u v) (was : u.dt.InStep u.marker) : v.dt.InStep v.marker := by
  cases h with
  | ended d last fault dt marker => rw [dt, marker]; exact d.ended_inStep last fault
  | counted running n m dt marker => rw [dt, marker]; exact was.counted running n m
  | battery low dt marker => rw [dt, marker]; exact ⟨was.marker, was.requested, was.completed, was.minute, was.suspend⟩
  | started run free n dt marker => rw [dt, marker]; exact u.dt.started_inStep _ _
  | suspended row running dt marker => rw [dt, marker]; exact was.suspended (by rw [running]; nofun) _ _
  | resumed row free dt marker =>
    rw [dt, marker]
    refine was.resumed (fun idle => ?_) _
    rw [State.resumeBar_state (by rw [idle]; nofun)] at free
    cases free

theorem TestFollowed.inStep {u t : State} {peer : Option Nat} (h : TestFollowed u t peer) (was : u.dt.InStep u.marker) :
    t.dt.InStep t.marker := by
  cases h with
  | still test => rw [test.1, test.2]; exact was
  | suspended running cause hit dt marker => rw [dt, marker]; exact was.suspended (by rw [running]; nofun) _ _
  | aborted running id hit dt marker => rw [dt, marker]; exact u.dt.ended_inStep _ _
  | resumed resumes changed normal dt marker => rw [dt, marker]; exact was.resumed (by rw [resumes.suspended]; nofun) _
  | failed resumes changed low dt marker => rw [dt, marker]; exact u.dt.ended_inStep _ _

/-! ### A quiet building -/

/-- A building in which a test may run (R160, R162). -/
def State.Calm (s : State) : Prop := s.fl.gallery = .quiet ∧ s.ru.f = 15 ∧ s.nt.evacuate = false

theorem State.testBar_none_iff {s : State} : s.testBar = none ↔ s.testClear := by
  refine ⟨fun h => ?_, State.testBar_none⟩
  unfold State.testBar at h
  repeat' split at h
  all_goals simp_all [State.testClear]

theorem State.startBar_testClear {s : State} (h : s.startBar = none) : s.testClear := by
  unfold State.startBar at h
  split at h
  · cases h
  · split at h
    · cases h
    · rename_i clear
      exact State.testBar_none_iff.1 clear

theorem State.resumeBar_testClear {s : State} (h : s.resumeBar = none) : s.testClear := by
  unfold State.resumeBar at h
  split at h
  · cases h
  · exact State.testBar_none_iff.1 h

theorem State.testClear.calm {s : State} (h : s.testClear) : s.Calm := by
  obtain ⟨gallery, far, evacuate, -⟩ := h
  exact ⟨gallery, far, evacuate⟩

/-- Where nothing hits a test the building stays as quiet as it was. -/
theorem calm_of_unhit {u t : State} {peer : Option Nat} (calm : u.Calm) (unhit : testHits u t peer = []) (far : t.ru.f ≤ 15) : t.Calm := by
  obtain ⟨gallery, f, evacuate⟩ := calm
  simp only [testHits, List.append_eq_nil_iff] at unhit
  obtain ⟨⟨⟨-, quiet⟩, near⟩, evacuates⟩ := unhit
  refine ⟨?_, ?_, ?_⟩
  · by_contra moved
    rw [if_pos (by simp [gallery, moved])] at quiet
    cases quiet
  · by_contra moved
    rw [if_pos (by simp [f]; omega)] at near
    cases near
  · by_contra moved
    rw [if_pos (by simp [evacuate, moved])] at evacuates
    cases evacuates

theorem State.fireDistance_le (s : State) : s.fireDistance ≤ 15 := by
  unfold State.fireDistance
  split
  · exact Nat.zero_le _
  · exact least_le_fifteen _

theorem settle_f_le {u v : State} (ru : v.ru.f ≤ 15) (peer : Option Nat) (pressed : List Nat) :
    (settle u v peer pressed).ru.f ≤ 15 := by
  rw [settle_ru]
  obtain ⟨route, -⟩ := phased_keeps u v
  have same : (phaseFollow u (fireFollow u v)).ru.f ≤ 15 := by
    rw [route]
    exact ru
  unfold followedRoute
  split
  · split
    · rw [State.computedRoute_f]
      exact State.fireDistance_le _
    · exact same
  · split
    · exact same
    · exact same

/-! ### Every step -/

/-- The test of a node in LISTEN or RUN: under way in RUN alone, RUNNING in a quiet building alone, and in step. -/
structure State.TestInStep (s : State) : Prop where
  phase : s.dt.state ≠ .idle → s.running = true
  calm : s.dt.state = .running → s.Calm
  test : s.dt.InStep s.marker

theorem State.testFollows_iff (s : State) : s.TestFollows ↔ (s.awake = true → s.TestInStep) := by
  refine forall_congr' fun _ => ⟨fun ⟨phase, calm, marker, requested, completed, minute, suspend⟩ =>
    ⟨fun busy => decide_eq_true (phase busy), calm, marker, requested, completed, minute, suspend⟩,
    fun h => ⟨fun busy => of_decide_eq_true (h.phase busy), h.calm, h.test.marker, h.test.requested, h.test.completed, h.test.minute,
      h.test.suspend⟩⟩

/-- From RUN an event leads to RUN. -/
theorem Footprint.stays {c : Instr} {u v : State} (f : Footprint c u v) (run : u.running = true) (peer : Option Nat)
    (pressed : List Nat) : (settle u v peer pressed).running = true := by
  have before : v.running = true := by
    obtain cl | ⟨-, rfl⟩ := f.phase
    · unfold State.running
      rw [cl]
      exact run
    · rfl
  unfold State.running at before ⊢
  rw [settle_cl]
  obtain ⟨-, -, -, -, -, same | ⟨-, enters⟩⟩ := phased_keeps u v
  · rw [same]
    exact before
  · rw [enters]
    rfl

section
variable {c : Instr} {u v : State}

/-- A test under way after an event of the tester's own was under way before it, or has just been started in RUN. -/
theorem TestMoved.busy (h : TestMoved c u v) (busy : v.dt.state ≠ .idle) : u.dt.state ≠ .idle ∨ u.running = true := by
  cases h with
  | ended d last fault dt => rw [dt] at busy; exact absurd rfl busy
  | counted running n m dt => rw [dt] at busy; exact .inl busy
  | battery low dt => rw [dt] at busy; exact .inl busy
  | started run => exact .inr run
  | suspended row running => exact .inl (by rw [running]; nofun)
  | resumed row free =>
    refine .inl fun idle => ?_
    rw [State.resumeBar_state (by rw [idle]; nofun)] at free
    cases free

/-- A test RUNNING after an event of the tester's own runs in a quiet building. -/
theorem TestMoved.calm (h : TestMoved c u v) (calm : u.dt.state = .running → u.Calm) (running : v.dt.state = .running) : u.Calm := by
  cases h with
  | ended d last fault dt => rw [dt] at running; cases running
  | counted runs n m dt => rw [dt] at running; exact calm running
  | battery low dt => rw [dt] at running; exact calm running
  | started run free => exact (State.startBar_testClear free).calm
  | suspended row runs dt => rw [dt] at running; cases running
  | resumed row free => exact (State.resumeBar_testClear free).calm

theorem TestFollowed.busy {t : State} {peer : Option Nat} (h : TestFollowed u t peer) (busy : t.dt.state ≠ .idle) :
    u.dt.state ≠ .idle := by
  cases h with
  | still test => rw [← test.1]; exact busy
  | suspended running => rw [running]; nofun
  | aborted running => rw [running]; nofun
  | resumed resumes => rw [resumes.suspended]; nofun
  | failed resumes => rw [resumes.suspended]; nofun

theorem TestFollowed.calm {t : State} {peer : Option Nat} (h : TestFollowed u t peer) (calm : u.dt.state = .running → u.Calm)
    (far : u.ru.f = 15 → t.ru.f ≤ 15) (running : t.dt.state = .running) : t.Calm := by
  cases h with
  | still test unhit =>
    rw [test.1] at running
    have was := calm running
    exact calm_of_unhit was (unhit running) (far was.2.1)
  | suspended _ cause hit dt => rw [dt] at running; cases running
  | aborted _ id hit dt => rw [dt] at running; cases running
  | resumed resumes => exact (State.testBar_none_iff.1 resumes.clear).calm
  | failed resumes changed low dt => rw [dt] at running; cases running

/-- An event keeps the test in step. -/
theorem Owns.testInStep {peer : Option Nat} {pressed : List Nat} (o : Owns c u v peer pressed) (h : u.TestInStep) :
    (settle u v peer pressed).TestInStep := by
  have stays := o.footprint.stays (peer := peer) (pressed := pressed)
  obtain ⟨op, rfl, rfl⟩ | ⟨same, -, -⟩ := o.tester_or_same
  · have follows := op.settled
    have inputs := op.changes
    generalize settle u v none [] = t at stays follows
    have building : t.dt = v.dt ∧ t.marker = v.marker ∧ (u.Calm → t.Calm) := by
      obtain ⟨_, _, _, rfl⟩ := inputs
      obtain ⟨_, _, _, _, _, rfl⟩ := follows
      exact ⟨rfl, rfl, id⟩
    obtain ⟨dt, marker, calm⟩ := building
    refine ⟨fun busy => ?_, fun running => ?_, ?_⟩
    · rw [dt] at busy
      exact stays ((op.moved.busy busy).elim h.phase id)
    · rw [dt] at running
      exact calm (op.moved.calm h.calm running)
    · rw [dt, marker]
      exact op.moved.inStep h.test
  · have followed := settle_test same o.footprint.extends peer pressed
    refine ⟨fun busy => stays (h.phase (followed.busy busy)), followed.calm h.calm fun far => ?_, followed.inStep h.test⟩
    exact settle_f_le (by rw [o.footprint.ru, far]) peer pressed

end

theorem Tester.afterRestart_inStep (last : TestResult) : (Tester.afterRestart last).InStep false :=
  ⟨⟨nofun, fun h => absurd rfl h⟩, ⟨fun _ => rfl, fun _ => rfl⟩, ⟨fun _ => rfl, fun _ => rfl⟩, ⟨fun h => absurd rfl h, nofun⟩,
    ⟨fun h => absurd rfl h, nofun⟩⟩

theorem testFollows_kept : Kept fun s => s.awake = true → s.TestInStep where
  answered a h := by obtain ⟨_, _, rfl⟩ := a; exact fun awake => { h awake with }
  moment m h := by obtain ⟨_, _, _, _, rfl⟩ := m; exact fun awake => { h awake with }
  pending _ h := fun awake => { h awake with }
  restarts s phase port asleep := fun awake => by
    rw [s.restart_asleep asleep port] at awake
    cases awake
  loads s bytes strap := fun _ => by
    obtain ⟨_, _, _, form⟩ := s.leaveLoading_changes bytes strap
    rw [form]
    exact ⟨fun busy => absurd rfl busy, nofun, Tester.afterRestart_inStep _⟩
  follows awake owner h := fun _ => owner.testInStep (h awake)
  alone {c u v} owner h := fun awake => by
    obtain ⟨_, _, _, _, _, _, _, _, _, form⟩ := owner.changes
    have same : v.awake = u.awake := by rw [form]; rfl
    have before := h (same.symm.trans awake)
    rw [form]
    exact { before with }

end Sys2Proof.Machine
end

/-! ## The end of a test, and what the building and the neighbours bring to it (R162, R164 to R167) -/

section
namespace Sys2Proof.Machine

/-! ### The hits -/

theorem testHits_suspend {u t : State} {peer : Option Nat} {cause : SuspendCause} (h : .suspend cause ∈ testHits u t peer) :
    cause ≠ .host ∧ (cause = .notQuiet → t.fl.gallery ≠ .quiet) ∧ (cause = .fireNear → t.ru.f < 15) ∧
      (cause = .evacuate → t.nt.evacuate = true) := by
  unfold testHits at h
  rw [List.mem_append, List.mem_append, List.mem_append] at h
  obtain ((hit | hit) | hit) | hit := h
  · split at hit
    · split at hit
      · rw [List.mem_singleton] at hit
        cases hit
      · cases hit
    · cases hit
  · split at hit
    · rename_i moved
      rw [List.mem_singleton] at hit
      cases hit
      rw [Bool.and_eq_true, bne_iff_ne] at moved
      exact ⟨nofun, fun _ => moved.2, nofun, nofun⟩
    · cases hit
  · split at hit
    · rename_i moved
      rw [List.mem_singleton] at hit
      cases hit
      rw [Bool.and_eq_true, decide_eq_true_iff, decide_eq_true_iff] at moved
      exact ⟨nofun, nofun, fun _ => moved.2, nofun⟩
    · cases hit
  · split at hit
    · rename_i moved
      rw [List.mem_singleton] at hit
      cases hit
      rw [Bool.and_eq_true] at moved
      exact ⟨nofun, nofun, nofun, fun _ => moved.2⟩
    · cases hit

/-- Of the building EVACUATE_ON alone hits. -/
theorem testHits_evacuate {u t : State} (was : u.Calm) (gallery : t.fl.gallery = .quiet) (far : t.ru.f = 15)
    (evacuate : t.nt.evacuate = true) : testHits u t none = [.suspend .evacuate] := by
  obtain ⟨gallery', far', evacuate'⟩ := was
  simp [testHits, gallery, gallery', far, far', evacuate, evacuate']

/-- In a quiet building a neighbour alone hits. -/
theorem testHits_peer {u t : State} (was : u.Calm) (calm : t.Calm) (id : Nat) :
    testHits u t (some id) = if id < t.nodeId then [.peer id] else [] := by
  obtain ⟨gallery', far', evacuate'⟩ := was
  obtain ⟨gallery, far, evacuate⟩ := calm
  unfold testHits
  rw [if_neg (by simp [gallery]), if_neg (by simp [far]), if_neg (by simp [evacuate])]
  simp

/-! ### The building's conditions -/

/-- The building's conditions as R164 words them. -/
def State.BuildingClear (u : State) : Prop :=
  u.fl.gallery = .quiet ∧ u.ru.f = 15 ∧ u.nt.evacuate = false ∧
    ∀ k < 8, (u.slot k).id ≠ 0 → (u.slot k).presence = .fresh → (u.slot k).test = false

theorem Slot.offeredTest_iff (k : Slot) : k.offeredTest = false ↔ (k.id ≠ 0 → k.presence = .fresh → k.test = false) := by
  unfold Slot.offeredTest Slot.fresh Slot.used
  cases k.test <;> simp [imp_iff_not_or]

theorem State.buildingClear_iff {u : State} (len : u.nt.slots.length = 8) : u.BuildingClear ↔ u.testBar = none := by
  have peers : u.noPeerTesting = true ↔ ∀ k < 8, (u.slot k).id ≠ 0 → (u.slot k).presence = .fresh → (u.slot k).test = false := by
    unfold State.noPeerTesting
    rw [List.all_eq_true, forall_mem_iff_getD len Slot.unused]
    refine forall₂_congr fun k _ => ?_
    rw [Bool.not_eq_true', Slot.offeredTest_iff]
    rfl
  rw [State.testBar_none_iff]
  unfold State.testClear
  rw [peers]
  rfl

theorem State.noPeerTesting_views (s : State) : s.noPeerTesting = s.slotViews.all fun v => !v.2.2.2.2 := by
  unfold State.noPeerTesting State.slotViews
  rw [List.all_map]
  rfl

/-- Where nothing that the tester follows has changed, the building's conditions are what they were. -/
theorem testBar_of_unchanged {u t : State} (h : testInputsChanged u t = false) : t.testBar = u.testBar := by
  unfold testInputsChanged at h
  simp only [Bool.or_eq_false_iff, bne_eq_false_iff_eq] at h
  obtain ⟨⟨⟨gallery, far⟩, evacuate⟩, views⟩ := h
  unfold State.testBar
  rw [State.noPeerTesting_views, State.noPeerTesting_views, ← views, ← gallery, ← far, ← evacuate]

/-! ### Whatever command suspends or resumes a test -/

/-- What the tester's statements read of a state. -/
structure SameTesting (s t : State) : Prop where
  dt : t.dt = s.dt
  marker : t.marker = s.marker
  fl : t.fl = s.fl
  ru : t.ru = s.ru
  nt : t.nt = s.nt
  node : t.cl.node = s.cl.node
  now : t.now = s.now
  reports : t.ap.reports = s.ap.reports

theorem Answered.testing {s t : State} (h : Answered s t) : SameTesting s t := by
  obtain ⟨_, _, rfl⟩ := h
  exact ⟨rfl, rfl, rfl, rfl, rfl, rfl, rfl, rfl⟩

theorem Answered.hasFault {s t : State} (h : Answered s t) : t.hasFault = s.hasFault := by
  obtain ⟨_, _, rfl⟩ := h
  rfl

theorem AtEvent.testing {s u : State} (h : AtEvent s u) :
    u.dt = s.dt ∧ u.marker = s.marker ∧ u.fl = s.fl ∧ u.ru = s.ru ∧ u.nt = s.nt ∧ u.cl.node = s.cl.node ∧
      u.ap.reports = s.ap.reports := by
  obtain ⟨_, _, _, _, rfl⟩ := h
  exact ⟨rfl, rfl, rfl, rfl, rfl, rfl, rfl⟩

theorem Reported.congr {s s' t t' : State} {kind : ReportKind} {a b : Nat} (h : Reported s kind a b t)
    (before : s'.ap.reports = s.ap.reports) (after : t'.ap.reports = t.ap.reports) (now : t'.now = t.now) : Reported s' kind a b t' :=
  h.through (by rw [before]; exact .refl _) (by rw [after]; exact .refl _) now

/-- An event of the tester's own leaves the building as it was. -/
theorem TestOp.settled_same {c : Instr} {u v : State} (op : TestOp c u v) :
    (settle u v none []).dt = v.dt ∧ (settle u v none []).testBar = u.testBar := by
  have follows := op.settled
  have owner := op.changes
  generalize settle u v none [] = w at follows ⊢
  obtain ⟨_, _, _, rfl⟩ := owner
  obtain ⟨_, _, _, _, _, rfl⟩ := follows
  exact ⟨rfl, rfl⟩

section
variable {c : Instr} {s t : State}

/-- R162, R167: a suspension, whatever command brings it. -/
theorem exec_suspends (h : exec c s = .next t) (running : s.dt.state = .running) (suspended : t.dt.state = .suspended) :
    t.dt.cause ≠ none ∧ ∀ cause, t.dt.cause = some cause →
      Reported s .testSuspended cause.code (s.dt.completed.getD 0) t ∧ (cause = .host ↔ c = .testSuspend) ∧
        (cause = .notQuiet → t.fl.gallery ≠ .quiet) ∧ (cause = .fireNear → t.ru.f < 15) ∧
        (cause = .evacuate → t.nt.evacuate = true) := by
  cases exec_moves h with
  | restarts _ a =>
    rw [a.testing.dt] at suspended
    cases suspended
  | @loads bytes strap _ _ form =>
    obtain ⟨_, _, _, changes⟩ := s.leaveLoading_changes bytes strap
    rw [form, changes] at suspended
    cases suspended
  | alone moment owner a =>
    obtain ⟨dt, -⟩ := moment.testing
    rw [a.testing.dt, owner.sameTest.1, dt, running] at suspended
    cases suspended
  | @follows u v peer pressed awake moment owner a =>
    obtain ⟨dt, -, -, -, -, -, queue⟩ := moment.testing
    have same := a.testing
    rw [← dt] at running ⊢
    rw [same.dt] at suspended ⊢
    rw [same.fl, same.ru, same.nt]
    suffices done : (settle u v peer pressed).dt.cause ≠ none ∧ ∀ cause, (settle u v peer pressed).dt.cause = some cause →
        Reported u .testSuspended cause.code (u.dt.completed.getD 0) (settle u v peer pressed) ∧ (cause = .host ↔ c = .testSuspend) ∧
          (cause = .notQuiet → (settle u v peer pressed).fl.gallery ≠ .quiet) ∧
          (cause = .fireNear → (settle u v peer pressed).ru.f < 15) ∧
          (cause = .evacuate → (settle u v peer pressed).nt.evacuate = true) by
      obtain ⟨some_, each⟩ := done
      refine ⟨some_, fun cause is => ?_⟩
      obtain ⟨reported, rest⟩ := each cause is
      exact ⟨reported.congr queue.symm same.reports same.now, rest⟩
    obtain ⟨op, rfl, rfl⟩ | ⟨test, other, -⟩ := owner.tester_or_same
    · have later := settle_extends u v none []
      have now := settle_now u v none []
      obtain ⟨final, -⟩ := op.settled_same
      generalize settle u v none [] = w at *
      rw [final] at suspended ⊢
      cases op.moved with
      | ended d last fault dt => rw [dt] at suspended; cases suspended
      | counted _ n m dt => rw [dt, running] at suspended; cases suspended
      | battery low dt => rw [dt, running] at suspended; cases suspended
      | started _ _ n dt => rw [dt] at suspended; cases suspended
      | resumed _ _ dt => rw [dt] at suspended; cases suspended
      | suspended row _ dt _ reported =>
        rw [dt]
        refine ⟨nofun, fun cause is => ?_⟩
        cases is
        exact ⟨reported.through (.refl _) later now, ⟨fun _ => row, fun _ => rfl⟩, nofun, nofun, nofun⟩
    · cases settle_test test owner.footprint.extends peer pressed with
      | still same => rw [same.1, running] at suspended; cases suspended
      | aborted _ id hit dt => rw [dt] at suspended; cases suspended
      | resumed resumes => rw [resumes.suspended] at running; cases running
      | failed resumes => rw [resumes.suspended] at running; cases running
      | suspended _ cause hit dt _ reported =>
        rw [dt]
        refine ⟨nofun, fun cause is => ?_⟩
        cases is
        obtain ⟨notHost, conditions⟩ := testHits_suspend hit
        exact ⟨reported, ⟨fun is => absurd is notHost, fun is => absurd is other⟩, conditions⟩

/-- R164, R167: a resumption, whatever command brings it. -/
theorem exec_resumes (h : exec c s = .next t) (suspended : s.dt.state = .suspended) (running : t.dt.state = .running) :
    (c = .testResume → Reported s .testResumed 0 (s.dt.completed.getD 0) t) ∧
      (c ≠ .testResume → Reported s .testResumed 1 (s.dt.completed.getD 0) t) := by
  cases exec_moves h with
  | restarts _ a =>
    rw [a.testing.dt] at running
    cases running
  | @loads bytes strap _ _ form =>
    obtain ⟨_, _, _, changes⟩ := s.leaveLoading_changes bytes strap
    rw [form, changes] at running
    cases running
  | alone moment owner a =>
    obtain ⟨dt, -⟩ := moment.testing
    rw [a.testing.dt, owner.sameTest.1, dt, suspended] at running
    cases running
  | @follows u v peer pressed awake moment owner a =>
    obtain ⟨dt, -, -, -, -, -, queue⟩ := moment.testing
    have same := a.testing
    rw [← dt] at suspended ⊢
    rw [same.dt] at running
    suffices done : (c = .testResume → Reported u .testResumed 0 (u.dt.completed.getD 0) (settle u v peer pressed)) ∧
        (c ≠ .testResume → Reported u .testResumed 1 (u.dt.completed.getD 0) (settle u v peer pressed)) from
      ⟨fun row => (done.1 row).congr queue.symm same.reports same.now, fun row => (done.2 row).congr queue.symm same.reports same.now⟩
    obtain ⟨op, rfl, rfl⟩ | ⟨test, -, other⟩ := owner.tester_or_same
    · have later := settle_extends u v none []
      have now := settle_now u v none []
      obtain ⟨final, -⟩ := op.settled_same
      generalize settle u v none [] = w at *
      rw [final] at running
      cases op.moved with
      | ended d last fault dt => rw [dt] at running; cases running
      | counted _ n m dt => rw [dt, suspended] at running; cases running
      | battery low dt => rw [dt, suspended] at running; cases running
      | started _ free n dt =>
        rw [State.startBar_state (by rw [suspended]; nofun)] at free
        cases free
      | suspended _ _ dt => rw [dt] at running; cases running
      | resumed row _ dt _ reported => exact ⟨fun _ => reported.through (.refl _) later now, fun no => absurd row no⟩
    · refine ⟨fun row => absurd row other, fun _ => ?_⟩
      cases settle_test test owner.footprint.extends peer pressed with
      | still same => rw [same.1, suspended] at running; cases running
      | suspended was => rw [was] at suspended; cases suspended
      | aborted was => rw [was] at suspended; cases suspended
      | failed _ _ _ dt => rw [dt] at running; cases running
      | resumed _ _ _ _ _ reported => exact reported

/-- What the statement asks where the last of the building's conditions comes to hold (R161, R164, R167). -/
structure AutoResumed (s t : State) : Prop where
  reported : Reported s .testResumed 1 (s.dt.completed.getD 0) t
  normal : s.dt.battery ≠ some true → t.dt = s.dt.resumed t.now ∧ t.marker = s.marker ∧ t.relayOpen = true
  low : s.dt.battery = some true → t.dt = s.dt.ended (.fail (s.dt.completed.getD 0)) true ∧ t.marker = false ∧
    t.relayOpen = false ∧ t.hasFault = true ∧ Reported s .testResult 2 (s.dt.completed.getD 0) t

theorem State.relayOpen_of_dt {d : Tester} (h : t.dt = d) : t.relayOpen = decide (d.state = .running) := by
  unfold State.relayOpen
  rw [h]

/-- An event of another block that resumes a test. -/
theorem TestFollowed.autoResumed {u : State} {peer : Option Nat} (h : TestFollowed u t peer) (suspended : u.dt.state = .suspended)
    (resumes : u.dt.Resumes t) (changed : testInputsChanged u t = true) : AutoResumed u t := by
  cases h with
  | still _ _ waits => exact absurd resumes (waits (by rw [suspended]; nofun) changed)
  | suspended was => rw [was] at suspended; cases suspended
  | aborted was => rw [was] at suspended; cases suspended
  | resumed _ _ normal dt marker reported =>
    exact ⟨reported, fun _ => ⟨dt, marker, State.relayOpen_of_dt dt⟩, fun low => absurd low normal⟩
  | failed _ _ low dt marker reported result =>
    exact ⟨reported, fun normal => absurd low normal,
      fun _ => ⟨dt, marker, State.relayOpen_of_dt dt, State.hasFault_of_battery (by rw [dt]; rfl), result⟩⟩

theorem AutoResumed.congr {s' t' : State} (h : AutoResumed s t) (dt : s.dt = s'.dt) (marker : s.marker = s'.marker)
    (reports : s'.ap.reports = s.ap.reports) (same : SameTesting t t') (faults : t'.hasFault = t.hasFault) : AutoResumed s' t' := by
  obtain ⟨reported, normal, low⟩ := h
  have relay : t'.relayOpen = t.relayOpen := by unfold State.relayOpen; rw [same.dt]
  rw [dt, marker] at normal
  rw [dt] at reported low
  refine ⟨reported.congr reports same.reports same.now, ?_, fun is => ?_⟩
  · rw [same.dt, same.marker, same.now, relay]
    exact normal
  · obtain ⟨ended, cleared, closed, fault, result⟩ := low is
    rw [same.dt, same.marker, relay, faults]
    exact ⟨ended, cleared, closed, fault, result.congr reports same.reports same.now⟩

theorem State.testBar_congr {s t : State} (fl : t.fl = s.fl) (ru : t.ru = s.ru) (nt : t.nt = s.nt) : t.testBar = s.testBar := by
  unfold State.testBar State.noPeerTesting
  rw [fl, ru, nt]

theorem settle_node {u v : State} (op : Footprint c u v) (peer : Option Nat) (pressed : List Nat) :
    (settle u v peer pressed).cl.node = u.cl.node := by
  obtain ⟨node, -⟩ := settle_keeps_configuration u v peer pressed
  obtain ⟨node', -⟩ := op.node
  rw [node, node']

/-- R164: the last of the building's conditions, whatever command makes it hold; no other event but TEST_RESUME resumes a test. -/
theorem exec_autoResumes (a : s.awake = true) (a' : t.awake = true) (suspended : s.dt.state = .suspended) (h : exec c s = .next t) :
    let resumes : Prop := s.dt.cause ≠ some .host ∧ s.cl.node.autoResume = true ∧ t.testBar = none
    (resumes → s.testBar ≠ none → AutoResumed s t) ∧ (t.dt.state = .running → c = .testResume ∨ resumes) := by
  obtain ⟨u, v, peer, pressed, moment, owner, answered⟩ | ⟨u, v, moment, owner, answered⟩ := exec_awake a a' h
  · obtain ⟨dt, marker, fl, ru, nt, node, queue⟩ := moment.testing
    have same := answered.testing
    have faults := answered.hasFault
    have bar : t.testBar = (settle u v peer pressed).testBar := State.testBar_congr same.fl same.ru same.nt
    have bar' : u.testBar = s.testBar := State.testBar_congr fl ru nt
    have nodes := settle_node owner.footprint peer pressed
    rw [same.dt, bar, ← bar', ← node, ← dt]
    rw [← dt] at suspended
    obtain ⟨op, rfl, rfl⟩ | ⟨test, -, other⟩ := owner.tester_or_same
    · obtain ⟨final, still⟩ := op.settled_same
      rw [still, final]
      refine ⟨fun ⟨_, _, clear⟩ barred => absurd clear barred, fun running => ?_⟩
      cases op.moved with
      | ended d last fault dt => rw [dt] at running; cases running
      | counted _ n m dt => rw [dt, suspended] at running; cases running
      | battery low dt => rw [dt, suspended] at running; cases running
      | started _ free n dt =>
        rw [State.startBar_state (by rw [suspended]; nofun)] at free
        cases free
      | suspended _ _ dt => rw [dt] at running; cases running
      | resumed row => exact .inl row
    · have followed := settle_test test owner.footprint.extends peer pressed
      generalize settle u v peer pressed = w at *
      refine ⟨fun ⟨cause, auto, clear⟩ barred => ?_, fun running => ?_⟩
      · have changed : testInputsChanged u w = true := by
          by_contra unchanged
          exact barred ((testBar_of_unchanged (Bool.not_eq_true _ ▸ unchanged)).symm.trans clear)
        exact (followed.autoResumed suspended ⟨by rw [nodes]; exact auto, suspended, cause, clear⟩ changed).congr dt marker queue.symm
          same faults
      · cases followed with
        | still same => rw [same.1, suspended] at running; cases running
        | suspended was => rw [was] at suspended; cases suspended
        | aborted was => rw [was] at suspended; cases suspended
        | failed _ _ _ dt => rw [dt] at running; cases running
        | resumed resumes => exact .inr ⟨resumes.cause, nodes ▸ resumes.auto, resumes.clear⟩
  · obtain ⟨dt, marker, fl, ru, nt, node, queue⟩ := moment.testing
    have same := answered.testing
    obtain ⟨-, route, -, table⟩ := owner.routeInputs
    have gallery : v.fl.gallery = u.fl.gallery := by
      obtain ⟨_, _, _, _, _, _, _, _, _, form⟩ := owner.changes
      rw [form]
    have bar : t.testBar = s.testBar := by
      rw [State.testBar_congr same.fl same.ru same.nt, ← State.testBar_congr fl ru nt]
      unfold State.testBar State.noPeerTesting
      rw [gallery, route, table]
    rw [bar, same.dt, owner.sameTest.1, dt, suspended]
    exact ⟨fun ⟨_, _, clear⟩ barred => absurd clear barred, nofun⟩

end

end Sys2Proof.Machine
end

/-! ## TEST_ABORT, the building's EVACUATE orders, and a testing neighbour (R162, R164 to R166) -/

section
namespace Sys2Proof.Machine

/-! ### TEST_ABORT -/

section
variable {s : State} (hears : s.listens = true)
include hears

theorem exec_testAbort_early (early : s.running = false) : exec .testAbort s = .next (s.respond .errPhase) := by
  have row : exec .testAbort s = s.request .change fun s =>
      if s.dt.state = .idle then (s, .errState .idle) else s.accept fun s => s.endTest (.aborted .host) none := rfl
  rw [row, State.request_barred hears (State.portBar_before_run early)]

theorem exec_testAbort_idle (run : s.running = true) (idle : s.dt.state = .idle) :
    exec .testAbort s = .next (s.respond (.errState .idle)) := by
  simp only [exec, execTestAbort, State.request_taken hears (State.portBar_change run), if_pos idle]

theorem exec_testAbort (run : s.running = true) (busy : s.dt.state ≠ .idle) :
    exec .testAbort s = .next ((settle s (s.endTest (.aborted .host) none) none []).respond .ok) := by
  simp only [exec, execTestAbort, State.request_taken hears (State.portBar_change run), if_neg busy]
  rfl

end

/-! ### The building's EVACUATE orders -/

section
variable {s : State}

/-- A flag order changes nothing that the fire logic reads, so gallery and fire distance stand. -/
theorem settle_flagOrder (route : s.RouteFollows) (o : FlagOrder) (n : Nat) :
    (settle s (s.applyFlag o n) none []).fl = s.fl ∧ (settle s (s.applyFlag o n) none []).ru.f = s.ru.f ∧
      (settle s (s.applyFlag o n) none []).now = s.now ∧
      (settle s (s.applyFlag o n) none []).nt.evacuate = (s.applyFlag o n).nt.evacuate ∧
      (settle s (s.applyFlag o n) none []).nt.slots = s.nt.slots ∧ (settle s (s.applyFlag o n) none []).cl.node = s.cl.node := by
  have view := s.applyFlag_fireView o n
  obtain ⟨slots, -, evacuate, -⟩ := settle_keeps_table s (s.applyFlag o n) none []
  obtain ⟨node, -⟩ := settle_keeps_configuration s (s.applyFlag o n) none []
  obtain ⟨_, _, _, _, form⟩ := s.applyFlag_changes o n
  have ru : (s.applyFlag o n).ru = s.ru := by rw [form]
  have now : (s.applyFlag o n).now = s.now := by rw [form]
  have cl : (s.applyFlag o n).cl = s.cl := by rw [form]
  refine ⟨?_, ?_, by rw [settle_now, now], evacuate, by rw [slots, s.applyFlag_slots], by rw [node, cl]⟩
  · rw [settle_fl, fireFollow_same view, State.fl_of_fireView view]
  · refine settle_f_kept (fun run => ?_) view ru none []
    obtain ⟨-, -, inRun⟩ := route
    exact (inRun (of_decide_eq_true run)).1

theorem State.applyFlag_sameTest (s : State) (o : FlagOrder) (n : Nat) : SameTest s (s.applyFlag o n) := by
  obtain ⟨_, _, _, _, form⟩ := s.applyFlag_changes o n
  rw [form]
  exact ⟨rfl, rfl⟩

/-- R162: EVACUATE_ON suspends a running test. -/
theorem settle_evacuateOn_test (route : s.RouteFollows) (step : s.TestInStep) (running : s.dt.state = .running) (n : Nat) :
    let t := settle s (s.applyFlag .evacuateOn n) none []
    t.dt = s.dt.suspended s.now .evacuate ∧ t.marker = true ∧ t.relayOpen = false := by
  obtain ⟨fl, far, now, evacuate, -, -⟩ := settle_flagOrder route .evacuateOn n
  have followed := settle_test (s.applyFlag_sameTest .evacuateOn n) (s.applyFlag_extends .evacuateOn n) none []
  have calm := step.calm running
  have on : (s.applyFlag .evacuateOn n).nt.evacuate = true := by
    obtain ⟨_, form, -⟩ := s.applyFlag_evacuateOn n
    rw [form]
  dsimp only
  generalize settle s (s.applyFlag .evacuateOn n) none [] = t at *
  have hits := testHits_evacuate calm (by rw [fl]; exact calm.1) (far.trans calm.2.1) (evacuate.trans on)
  have marker : s.marker = true := step.test.marker.2 (by rw [running]; nofun)
  cases followed with
  | still _ unhit => exact absurd (hits.symm.trans (unhit running)) nofun
  | aborted _ id hit =>
    rw [hits, List.mem_singleton] at hit
    cases hit
  | resumed resumes => rw [resumes.suspended] at running; cases running
  | failed resumes => rw [resumes.suspended] at running; cases running
  | suspended _ cause hit dt marker' =>
    rw [hits, List.mem_singleton] at hit
    cases hit
    rw [now] at dt
    exact ⟨dt, marker'.trans marker, State.relayOpen_of_dt dt⟩

/-- R164: EVACUATE_OFF, the last of the building's conditions, resumes a test that the building suspended. -/
theorem settle_evacuateOff_test (route : s.RouteFollows) (suspended : s.dt.state = .suspended) (cause : s.dt.cause ≠ some .host)
    (auto : s.cl.node.autoResume = true) (evacuate : s.nt.evacuate = true) (gallery : s.fl.gallery = .quiet) (far : s.ru.f = 15)
    (peers : s.noPeerTesting = true) (n : Nat) :
    AutoResumed s (settle s (s.applyFlag .evacuateOff n) none []) ∧ (settle s (s.applyFlag .evacuateOff n) none []).now = s.now := by
  obtain ⟨fl, f, now, evacuate', slots, node⟩ := settle_flagOrder route .evacuateOff n
  have followed := settle_test (s.applyFlag_sameTest .evacuateOff n) (s.applyFlag_extends .evacuateOff n) none []
  have off : (s.applyFlag .evacuateOff n).nt.evacuate = false := by
    rw [s.applyFlag_evacuateOff]
    obtain ⟨_, form⟩ := State.reportIf_changes { s with nt := { s.nt with evacuate := false, orderHeard := true } } s.nt.evacuate
      .buildingEvacuate n 0
    rw [form]
  generalize settle s (s.applyFlag .evacuateOff n) none [] = t at *
  have clear : t.testClear := by
    refine ⟨by rw [fl]; exact gallery, f.trans far, evacuate'.trans off, ?_⟩
    unfold State.noPeerTesting
    rw [slots]
    exact peers
  have changed : testInputsChanged s t = true := by
    unfold testInputsChanged
    rw [evacuate, evacuate', off]
    simp
  exact ⟨followed.autoResumed suspended ⟨by rw [node]; exact auto, suspended, cause, State.testBar_none clear⟩ changed, now⟩

end

/-! ### A testing neighbour -/

section
variable {s : State} {src : BitVec 6} {p : StatePayload}

theorem State.slotOf_isSome {s : State} {src : Nat} (real : src ≠ 0) {k : Nat} (here : (s.slot k).id = src) :
    (s.slotOf src).isSome = true := by
  unfold State.slotOf
  rw [List.findIdx?_isSome, List.any_eq_true]
  unfold State.slot at here
  by_cases low : k < s.nt.slots.length
  · refine ⟨_, getD_mem low Slot.unused, ?_⟩
    rw [Bool.and_eq_true, decide_eq_true_iff]
    exact ⟨bne_iff_ne.2 (by rw [here]; exact real), here⟩
  · rw [List.getD_eq_default _ _ (by omega)] at here
    exact absurd here.symm real

/-- What the statement asks of a STATE of a testing neighbour (R166). -/
theorem settle_testingPeer (step : s.TestInStep) (running : s.dt.state = .running) {v : State} (test : SameTest s v)
    (queue : Extends s.ap.reports v.ap.reports) (node : (settle s v (some src.toNat) []).nodeId = s.nodeId)
    (now : (settle s v (some src.toNat) []).now = s.now) :
    (settle s v (some src.toNat) []).Calm →
      (s.nodeId ≤ src.toNat → (settle s v (some src.toNat) []).dt = s.dt ∧ (settle s v (some src.toNat) []).marker = true) ∧
        (src.toNat < s.nodeId →
          (settle s v (some src.toNat) []).marker = false ∧ (settle s v (some src.toNat) []).relayOpen = false ∧
            (settle s v (some src.toNat) []).dt = s.dt.ended (.aborted .peer) s.dt.batteryFault ∧
              ∃ before, Extends s.ap.reports before ∧ Extends
                (queueReport before ⟨.testResult, 3, BitVec.ofNat 16 (src.toNat * 256 + 1), s.now / Config.second, false⟩)
                (settle s v (some src.toNat) []).ap.reports) := by
  have followed := settle_test test queue (some src.toNat) []
  generalize settle s v (some src.toNat) [] = t at *
  intro calm
  have hits := testHits_peer (step.calm running) calm src.toNat
  rw [node] at hits
  have marker : s.marker = true := step.test.marker.2 (by rw [running]; nofun)
  refine ⟨fun above => ?_, fun below => ?_⟩
  · rw [if_neg (by omega)] at hits
    cases followed with
    | still same => exact ⟨same.1, same.2.trans marker⟩
    | suspended _ cause hit => rw [hits] at hit; cases hit
    | aborted _ id hit => rw [hits] at hit; cases hit
    | resumed resumes => rw [resumes.suspended] at running; cases running
    | failed resumes => rw [resumes.suspended] at running; cases running
  · rw [if_pos below] at hits
    cases followed with
    | still _ unhit => exact absurd (hits.symm.trans (unhit running)) nofun
    | suspended _ cause hit => rw [hits, List.mem_singleton] at hit; cases hit
    | resumed resumes => rw [resumes.suspended] at running; cases running
    | failed resumes => rw [resumes.suspended] at running; cases running
    | aborted _ id hit dt marker' reported =>
      rw [hits, List.mem_singleton] at hit
      cases hit
      obtain ⟨before, first, last⟩ := reported
      rw [now] at last
      exact ⟨marker', State.relayOpen_of_dt dt, dt, before, first, last⟩

end

/-- Settles O55: the request, the invariant, and what the other blocks bring to a test. -/
theorem testAborted : Obligations.TestAborted := by
  refine ⟨fun s hears => ⟨exec_testAbort_early hears, exec_testAbort_idle hears, fun run busy => ?_⟩, fun s t follows h => ?_,
    fun s src target run receives follows route source other low high => ⟨fun running => ?_,
      fun suspended cause auto evacuate gallery far peers normal => ?_, fun suspended cause auto evacuate gallery far peers isLow => ?_⟩,
    fun c s t h => ⟨exec_suspends h, exec_resumes h⟩, fun c s t a a' shaped suspended h => ?_,
    fun s src p k run receives follows running source wf other here testing => ?_⟩
  · have done := settle_testReport (s := s)
      (u := { s with dt := s.dt.ended (.aborted .host) s.dt.batteryFault, marker := false }) ⟨_, _, rfl⟩ .testResult 3 0xFF00
    rw [Completes, exec_testAbort hears run busy, State.endTest_eq]
    change ∃ t, Host.Outcome.next (State.respond (settle s (State.report
      { s with dt := s.dt.ended (.aborted .host) s.dt.batteryFault, marker := false } .testResult 3 0xFF00) none []) .ok) = .next t ∧ _
    generalize settle s _ none [] = t at done ⊢
    obtain ⟨follows, queue, -⟩ := done
    refine ⟨_, rfl, follows.respond .ok, ?_, queue⟩
    obtain ⟨_, _, _, _, _, rfl⟩ := follows
    rfl
  · exact t.testFollows_iff.2 (testFollows_kept.step (s.testFollows_iff.1 follows) h)
  · have a := State.awake_of_running run
    have done := settle_evacuateOn_test route (s.testFollows_iff.1 follows a) running src.toNat
    have row := exec_flagOrder (c := .orderEvacuateOn src target) (code := 2) (o := .evacuateOn) a receives source other low high rfl
      (by decide) rfl
    rw [Completes, row]
    generalize settle s _ none [] = t at done ⊢
    exact ⟨t, rfl, done⟩
  · have a := State.awake_of_running run
    obtain ⟨done, now⟩ := settle_evacuateOff_test route suspended cause auto evacuate gallery far peers src.toNat
    have marker := (s.testFollows_iff.1 follows a).test.marker.2 (by rw [suspended]; nofun)
    have row := exec_flagOrder (c := .orderEvacuateOff src target) (code := 3) (o := .evacuateOff) a receives source other low high rfl
      (by decide) rfl
    rw [Completes, row]
    generalize settle s _ none [] = t at done now ⊢
    obtain ⟨dt, same, relay⟩ := done.normal normal
    rw [now] at dt
    exact ⟨t, rfl, dt, same.trans marker, relay⟩
  · have a := State.awake_of_running run
    obtain ⟨done, -⟩ := settle_evacuateOff_test route suspended cause auto evacuate gallery far peers src.toNat
    have row := exec_flagOrder (c := .orderEvacuateOff src target) (code := 3) (o := .evacuateOff) a receives source other low high rfl
      (by decide) rfl
    intro minutes
    rw [Completes, row]
    generalize settle s _ none [] = t at done ⊢
    obtain ⟨dt, marker, relay, fault, result⟩ := done.low isLow
    exact ⟨t, rfl, dt, marker, relay, fault, done.reported, result⟩
  · have housed := housed_kept.exec ⟨shaped.slots, shaped.doors⟩ h
    obtain ⟨resumes, runs⟩ := exec_autoResumes a a' suspended h
    intro minutes clear resumes'
    have before : clear s ↔ s.testBar = none := State.buildingClear_iff shaped.slots
    have after : clear t ↔ t.testBar = none := State.buildingClear_iff housed.slots
    refine ⟨fun ⟨cause, auto, is⟩ barred => ?_, fun running => (runs running).imp id fun ⟨cause, auto, is⟩ => ⟨cause, auto, after.2 is⟩⟩
    have done := resumes ⟨cause, auto, after.1 is⟩ fun none_ => barred (before.2 none_)
    exact ⟨done.reported, done.normal, done.low⟩
  · have a := State.awake_of_running run
    have real : src.toNat ≠ 0 := fun zero => by
      have none_ : src = 0 := BitVec.eq_of_toNat_eq zero
      rw [none_] at source
      exact absurd source (by decide)
    have peer : s.testingPeer src.toNat (.state p) = some src.toNat := by
      unfold State.testingPeer
      dsimp only
      rw [testing, State.slotOf_isSome real here]
      rfl
    have op : TableOp (.stateArrival src p) s ((s.takeState src.toNat p).adopt src.toNat p) := .state wf
    have node := settle_node (.table op) (some src.toNat) []
    have now := settle_now s ((s.takeState src.toNat p).adopt src.toNat p) (some src.toNat) []
    have same : ((s.takeState src.toNat p).adopt src.toNat p).now = s.now := by
      obtain ⟨_, _, form⟩ := op.changes
      rw [form]
    have done := settle_testingPeer (src := src) (s.testFollows_iff.1 follows a) running op.sameTest op.extends
      (congrArg (·.id) node) (now.trans same)
    rw [Completes, exec_stateArrival a receives source wf other, peer]
    generalize settle s _ (some src.toNat) [] = t at done ⊢
    exact ⟨t, rfl, fun gallery far evacuate => done ⟨gallery, far, evacuate⟩⟩

end Sys2Proof.Machine
end

/-! ## The STATE telegrams (R57, R58) -/

section
namespace Sys2Proof.Machine

/-! ### The contents of a STATE -/

/-- The contents are those of the ground and of the duration test. -/
theorem SameGround.statePayload {w t : State} (h : SameGround w t) (test : w.testRunning = t.testRunning) :
    w.statePayload = t.statePayload := by
  unfold State.statePayload
  rw [test, h.ru, h.fl, h.cl, h.mode, h.evacuate]

theorem SameGround.offersOpen {w t : State} (h : SameGround w t) : w.offersOpen = t.offersOpen := by
  unfold State.offersOpen State.running State.nodeId
  rw [h.cl]

theorem State.offersOpen_iff (s : State) : s.offersOpen = true ↔ s.running = true ∧ s.nodeId ≠ 0 := by
  simp [State.offersOpen]

theorem State.offerState_last (s : State) (cls : Nat) : (s.offerState cls).lc.lastState = some s.statePayload := rfl

/-! ### The last STATE offered, under each block's operations -/

section
variable {u v : State}

theorem State.offer_last (s : State) (body : Payload) (cls : Nat) : (s.offer body cls).1.lc.lastState = s.lc.lastState :=
  (s.offer_state body cls).1

theorem State.announce_last (s : State) (src : Nat) : (s.announce src).lc.lastState = s.lc.lastState := (s.announce_state src).1

theorem State.offerClear_last (s : State) (src serial by_ : Nat) : (s.offerClear src serial by_).lc.lastState = s.lc.lastState :=
  s.offer_last _ _

theorem State.clearCall_last (s : State) (src by_ : Nat) : (s.clearCall src by_).lc.lastState = s.lc.lastState := by
  unfold State.clearCall
  split
  · rfl
  · exact State.offerClear_last (s.setCc _) _ _ _

theorem State.doorAlarm_last (s : State) (src : Nat) (k : CallKind) (b : Nat) :
    (s.doorAlarm src k b).lc.lastState = s.lc.lastState := by
  unfold State.doorAlarm
  split
  · exact State.announce_last (s.raise src k b) src
  · dsimp only
    split
    · show (State.reportIf _ _ _ _ _).lc.lastState = s.lc.lastState
      rw [State.reportIf_lc]
      exact State.announce_last (s.setCall src _) src
    · rw [State.reportIf_lc]
      exact State.announce_last (s.setCall src _) src

theorem CallOp.last (op : CallOp u v) : v.lc.lastState = u.lc.lastState := by
  cases op with
  | clearAsked =>
    unfold State.decideClear
    split
    · exact u.offerClear_last _ _ _
    · split
      · split
        · exact u.announce_last _
        · exact u.clearCall_last _ _
      · exact u.announce_last _
  | @take _ src =>
    unfold State.decideTake
    split
    · exact u.offerClear_last _ _ _
    · split
      · exact State.announce_last (u.setCall src _) src
      · exact u.announce_last _
  | @giveup _ src =>
    unfold State.decideGiveup
    split
    · rfl
    · split
      · exact State.announce_last (u.setCall src _) src
      · rfl
  | press => rw [State.pressPoint, State.press_lc]; rfl
  | qualify => rfl
  | key =>
    unfold State.turnKey
    split
    · exact State.clearCall_last (u.setCc _) _ _
    · split
      · exact State.clearCall_last (u.setCc _) _ _
      · rfl
  | @unanswered src => exact State.announce_last (u.setCall src _) src
  | @attend src => exact State.announce_last (u.setCall src _) src
  | reannounce => exact u.announce_last _

theorem DoorOp.last (op : DoorOp u v) : v.lc.lastState = u.lc.lastState := by
  cases op with
  | opening =>
    unfold State.openDoor
    dsimp only
    split
    · exact State.doorAlarm_last (State.report _ _ _ _) _ _ _
    · rfl
  | hold =>
    unfold State.holdDoor
    dsimp only
    split
    · exact State.doorAlarm_last (State.report _ _ _ _) _ _ _
    · rfl
  | pulse => unfold State.orderPulse; split <;> rfl
  | _ => rfl

/-- A line operation keeps the last STATE, or is the refresh. -/
theorem LineOp.last (op : LineOp u v) :
    v.lc.lastState = u.lc.lastState ∨ v = (u.offerState u.refreshClass).startRefresh := by
  cases op with
  | refresh => exact .inr rfl
  | collide =>
    refine .inl ?_
    unfold State.collide
    dsimp only
    split
    · split <;> rfl
    · rfl
  | stuckBegin => rw [State.stuckBegin, State.reportIf_lc]; exact .inl rfl
  | stuckExpire => rw [State.stuckExpire, State.reportIf_lc]; exact .inl rfl
  | checkError => rw [State.noteCheckError, State.reportIf_lc, State.setLc, State.dropAged, State.reportIf_lc]; exact .inl rfl
  | ageNoise => rw [State.ageNoise, State.reportIf_lc]; exact .inl rfl
  | duplicate => rw [State.noteDuplicate, State.reportIf_lc]; exact .inl rfl

theorem SentOp.last {c : Instr} (op : SentOp c u v) : v.lc.lastState = u.lc.lastState := by
  cases op with
  | @complete sent =>
    obtain ⟨_, form⟩ := u.completeSending.handCompletion_lc sent.body
    rw [form, State.completeSending, State.reportIf_lc]
    rfl
  | @order body => rw [State.applyOwnOrder_lc]; exact u.offer_last body 0

/-- An owner's operation keeps the last STATE, or makes the contents of before it the last. -/
theorem Footprint.last {c : Instr} (op : Footprint c u v) :
    v.lc.lastState = u.lc.lastState ∨ v.lc.lastState = some u.statePayload := by
  cases op with
  | line op => exact op.last.imp id fun refresh => by rw [refresh]; rfl
  | sent op => exact .inl op.last
  | doors _ op => exact .inl op.last
  | calls op => exact .inl op.last
  | run _ form => rw [form]; exact .inl rfl
  | confirm _ form => obtain ⟨_, _, _, _, e⟩ := u.confirmExpire_changes; rw [form, e]; exact .inl rfl
  | @reset a b c _ form =>
    obtain ⟨_, _, _, _, _, e⟩ := u.decideReset_changes a b c
    rw [form, e]
    exact .inl rfl
  | detector op => obtain ⟨_, _, _, _, _, _, rfl⟩ := op.changes; exact .inl rfl
  | table op => obtain ⟨_, _, rfl⟩ := op.changes; exact .inl rfl
  | list op => obtain ⟨_, _, rfl⟩ := op.changes; exact .inl rfl
  | signals op => obtain ⟨_, _, _, _, rfl⟩ := op.changes; exact .inl rfl
  | test op => obtain ⟨_, _, _, rfl⟩ := op.changes; exact .inl rfl

end

/-! ### In an event's follow-up -/

/-- `x` stands before the STATE for a change of the contents, where nothing but the first STATE has been offered since the owner's
operation. -/
structure StateStage (old s t x : State) (pressed : List Nat) : Prop where
  ground : SameGround x t
  first : ∃ w, SameGround w t ∧ w.lc = s.lc ∧ x.lc = (firstStateFollow old w).lc
  tester : x.dt = t.dt
  done : t = announceFollow old (faultFollow old (stateFollow old x)) pressed

theorem stateFollow_ground (old x : State) : SameGround x (stateFollow old x) := by
  obtain ⟨_, h⟩ := stateFollow_changes old x
  rw [h]
  exact ⟨rfl, rfl, rfl, rfl, rfl, rfl, rfl, rfl, rfl⟩

theorem firstStateFollow_running {old : State} (run : old.running = true) (s : State) : firstStateFollow old s = s := by
  unfold firstStateFollow
  rw [run]
  simp

theorem StateStage.line {old s t x : State} {pressed : List Nat} (h : StateStage old s t x pressed) (run : old.running = true) :
    x.lc = s.lc := by
  obtain ⟨w, -, same, first⟩ := h.first
  rw [first, firstStateFollow_running run, same]

theorem settle_stateStage (old s : State) (peer : Option Nat) (pressed : List Nat) :
    ∃ x, StateStage old s (settle old s peer pressed) x pressed := by
  unfold settle
  dsimp only
  obtain ⟨_, _, h1⟩ := fireFollow_changes old s
  generalize fireFollow old s = s1 at h1 ⊢
  obtain ⟨_, _, _, _, h2⟩ := phaseFollow_changes old s1
  generalize phaseFollow old s1 = s2 at h2 ⊢
  obtain ⟨_, h3⟩ := routeFollow_changes old s2
  generalize routeFollow old s2 = s3 at h3 ⊢
  obtain ⟨_, h4⟩ := firstStateFollow_changes old s3
  generalize first : firstStateFollow old s3 = s4 at h4 ⊢
  obtain ⟨_, _, h5⟩ := latchFollow_changes old s4
  generalize latchFollow old s4 = s5 at h5 ⊢
  obtain ⟨_, h6⟩ := doorsFollow_changes old s5
  generalize doorsFollow old s5 = s6 at h6 ⊢
  obtain ⟨_, h7⟩ := callsFollow_changes old s6
  generalize callsFollow old s6 = s7 at h7 ⊢
  obtain ⟨_, _, _, h8⟩ := signalsFollow_changes old s7
  generalize signalsFollow old s7 = s8 at h8 ⊢
  obtain ⟨_, _, _, _, h9⟩ := testFollow_changes old s8 peer
  generalize testFollow old s8 peer = x at h9 ⊢
  have toEnd : SameGround x (announceFollow old (faultFollow old (stateFollow old x)) pressed) :=
    (stateFollow_ground old x).trans ((faultFollow_ground old _).trans (announceFollow_ground old _ pressed))
  refine ⟨x, toEnd, ⟨s3, .trans ?_ toEnd, ?_, ?_⟩, ?_, rfl⟩
  · rw [h9, h8, h7, h6, h5, h4]
    exact ⟨rfl, rfl, rfl, rfl, rfl, rfl, rfl, rfl, rfl⟩
  · rw [h3, h2, h1]
  · rw [first, h9, h8, h7, h6, h5]
  · obtain ⟨_, h10⟩ := stateFollow_changes old x
    generalize stateFollow old x = y at h10 ⊢
    obtain ⟨_, _, _, h11⟩ := faultFollow_changes old y
    generalize faultFollow old y = z at h11 ⊢
    obtain ⟨_, _, h12⟩ := announceFollow_changes old z pressed
    rw [h12, h11, h10]

theorem faultFollow_lc (old s : State) : (faultFollow old s).lc = s.lc := by
  unfold faultFollow State.pressNodeFault
  split
  · exact s.press_lc _ _ _
  · rfl

/-- In RUN the last STATE has the contents of the moment after the event. -/
theorem settle_lastState {u v : State} (run : u.running = true) (last : v.lc.lastState = some u.statePayload)
    (peer : Option Nat) (pressed : List Nat) (t : State) (settled : settle u v peer pressed = t) (stays : t.running = true)
    (named : t.nodeId ≠ 0) : t.lc.lastState = some t.statePayload := by
  obtain ⟨x, stage⟩ := settle_stateStage u v peer pressed
  rw [settled] at stage
  have line := stage.line run
  obtain ⟨ground, -, tester, done⟩ := stage
  have payload : x.statePayload = t.statePayload := ground.statePayload (by rw [State.testRunning, tester, ← State.testRunning])
  have opens : x.offersOpen = true := ground.offersOpen.trans (t.offersOpen_iff.2 ⟨stays, named⟩)
  have kept : t.lc.lastState = (stateFollow u x).lc.lastState := by
    rw [done, (announceFollow_state u _ pressed).1, faultFollow_lc]
  rw [kept, ← payload]
  unfold stateFollow
  split
  · rfl
  · rename_i unchanged
    rw [opens, run, line, last] at unchanged
    rw [line, last]
    by_contra differs
    exact unchanged (by
      have other : u.statePayload ≠ x.statePayload := fun same => differs (by rw [same])
      simp [other])

end Sys2Proof.Machine
end

/-! ## What has been offered stands in the queue, or a discard is marked (R54 to R56) -/

section
namespace Sys2Proof.Machine

/-- A telegram of this body stands in the queue, of class `cls` or a more urgent one, or a discard has been marked. -/
def LineController.Holds (lc : LineController) (body : Payload) (cls : Nat) : Prop :=
  (∃ e ∈ lc.queue, e.body = body ∧ e.cls ≤ cls) ∨ lc.queueDiscard = true

theorem mem_insertEntry {e x : TxEntry} {q : List TxEntry} : x ∈ insertEntry e q ↔ x = e ∨ x ∈ q := by
  rw [(insertEntry_perm e q).mem_iff, List.mem_cons]

/-- What is offered is held. -/
theorem LineController.offer_holds (lc : LineController) (body : Payload) (cls : Nat) :
    (lc.offer true body cls).1.Holds body cls := by
  unfold LineController.offer
  rw [if_neg (by simp)]
  split
  · exact .inl ⟨_, mem_insertEntry.2 (.inl rfl), rfl, Nat.min_le_right ..⟩
  · dsimp only
    split
    · exact .inl ⟨_, mem_insertEntry.2 (.inl rfl), rfl, Nat.le_refl _⟩
    · split
      · split
        · exact .inr rfl
        · exact .inr rfl
      · exact .inr rfl

/-- What is held stays held under an offer that does not collapse into it. -/
theorem LineController.Holds.offer {lc : LineController} {body : Payload} {cls : Nat} (h : lc.Holds body cls) (open_ : Bool)
    {other : Payload} (apart : ∀ e : TxEntry, e.body = body → collapsesInto other e = false) (at_ : Nat) :
    (lc.offer open_ other at_).1.Holds body cls := by
  unfold LineController.offer
  split
  · exact h
  · rcases h with ⟨e, mem, is, urgent⟩ | marked
    · split
      · have stays : e ∈ lc.queue.eraseP (collapsesInto other) :=
          (List.mem_eraseP_of_neg (by rw [apart e is]; exact Bool.false_ne_true)).2 mem
        exact .inl ⟨e, mem_insertEntry.2 (.inr stays), is, urgent⟩
      · dsimp only
        split
        · exact .inl ⟨e, mem_insertEntry.2 (.inr mem), is, urgent⟩
        · split
          · split
            · exact .inr rfl
            · exact .inr rfl
          · exact .inr rfl
    · split
      · exact .inr marked
      · dsimp only
        split
        · exact .inr marked
        · split
          · split
            · exact .inr rfl
            · exact .inr rfl
          · exact .inr rfl

theorem State.offerState_holds {s : State} (opens : s.offersOpen = true) (cls : Nat) :
    (s.offerState cls).lc.Holds (.state s.statePayload) cls := by
  have held := s.lc.offer_holds (.state s.statePayload) cls
  rw [← opens] at held
  exact held

/-- An announcement leaves a queued STATE queued. -/
theorem LineController.Holds.announce {s : State} {p : StatePayload} {cls : Nat} (h : s.lc.Holds (.state p) cls) (src : Nat) :
    (s.announce src).lc.Holds (.state p) cls := by
  unfold State.announce
  split
  · exact h
  · exact LineController.Holds.offer (lc := s.lc) h _ (fun e is => by unfold collapsesInto; rw [is]) _

theorem LineController.Holds.announceEach {p : StatePayload} {cls : Nat} (l : List Nat) {s : State} (h : s.lc.Holds (.state p) cls) :
    (l.foldl State.announce s).lc.Holds (.state p) cls := by
  induction l generalizing s with
  | nil => exact h
  | cons k l ih => exact ih (h.announce k)

/-! ### The refresh and the changes of the contents (R57, R58) -/

theorem State.changeClass_le {s : State} {p : StatePayload} (last : s.lc.lastState = some p) :
    s.changeClass ≤ if s.fl.gallery = .fire ∨ s.statePayload.f ≠ p.f then 0 else 2 := by
  unfold State.changeClass
  rw [last]
  by_cases fire : s.fl.gallery = .fire
  · simp [fire]
  · by_cases far : p.f = s.statePayload.f
    · simp [fire, far]
    · simp [fire, far, Ne.symm far]

/-- In RUN a change of the contents is offered, and is then held. -/
theorem settle_holds {u v t : State} (run : u.running = true) (last : v.lc.lastState = some u.statePayload)
    {peer : Option Nat} {pressed : List Nat} (settled : settle u v peer pressed = t) (stays : t.running = true) (named : t.nodeId ≠ 0)
    (differs : t.statePayload ≠ u.statePayload) :
    t.lc.Holds (.state t.statePayload) (if t.fl.gallery = .fire ∨ t.statePayload.f ≠ u.statePayload.f then 0 else 2) := by
  obtain ⟨x, stage⟩ := settle_stateStage u v peer pressed
  rw [settled] at stage
  have line := stage.line run
  obtain ⟨ground, -, tester, done⟩ := stage
  have payload : x.statePayload = t.statePayload := ground.statePayload (by rw [State.testRunning, tester, ← State.testRunning])
  have opens : x.offersOpen = true := ground.offersOpen.trans (t.offersOpen_iff.2 ⟨stays, named⟩)
  have offered : stateFollow u x = x.offerState x.changeClass := by
    unfold stateFollow
    rw [opens, run, line, last, payload]
    simp [Ne.symm differs]
  have held := State.offerState_holds opens x.changeClass
  rw [← offered, payload] at held
  have urgent := State.changeClass_le (line.symm ▸ last : x.lc.lastState = _)
  rw [payload, ← ground.fl] at urgent
  have weaker : (stateFollow u x).lc.Holds (.state t.statePayload)
      (if t.fl.gallery = .fire ∨ t.statePayload.f ≠ u.statePayload.f then 0 else 2) :=
    held.imp (fun ⟨e, mem, is, low⟩ => ⟨e, mem, is, Nat.le_trans low urgent⟩) id
  have pressed_ := faultFollow_lc u (stateFollow u x)
  rw [← pressed_] at weaker
  have final : (announceFollow u (faultFollow u (stateFollow u x)) pressed).lc.Holds (.state t.statePayload)
      (if t.fl.gallery = .fire ∨ t.statePayload.f ≠ u.statePayload.f then 0 else 2) := weaker.announceEach _
  rw [← done] at final
  exact final

theorem AtEvent.statePayload {s u : State} (h : AtEvent s u) : u.statePayload = s.statePayload ∧ u.lc.lastState = s.lc.lastState := by
  obtain ⟨_, _, _, _, rfl⟩ := h
  exact ⟨rfl, rfl⟩

theorem Answered.statePayload {s t : State} (h : Answered s t) : t.statePayload = s.statePayload ∧ t.lc = s.lc ∧ t.fl = s.fl ∧ t.cl = s.cl := by
  obtain ⟨_, _, rfl⟩ := h
  exact ⟨rfl, rfl, rfl, rfl⟩

theorem Alone.statePayload {c : Instr} {u v : State} (h : Alone c u v) : v.statePayload = u.statePayload := by
  obtain ⟨_, _, _, _, _, _, _, _, _, rfl⟩ := h.changes
  rfl

theorem Alone.last {c : Instr} {u v : State} (h : Alone c u v) : v.lc.lastState = u.lc.lastState := by
  cases h with
  | @grant _ n choice => cases choice <;> rfl
  | contend => rw [State.setLc, LineController.begin]; cases u.lc.queue <;> rfl
  | stuckEnd => unfold State.stuckEnd; split <;> rfl
  | @offer _ _ body cls => exact u.offer_last body cls
  | @relist _ _ body cls => exact u.offer_last body cls
  | clearLamps => rw [State.clearLamps, State.reportIf_lc]; rfl
  | still | lose | readNode | readReport | extendWalk | pulse => rfl

theorem Answered.running_named {s t : State} (h : Answered s t) : t.running = s.running ∧ t.nodeId = s.nodeId := by
  obtain ⟨_, _, rfl⟩ := h
  exact ⟨rfl, rfl⟩

theorem AtEvent.running_named {s u : State} (h : AtEvent s u) : u.running = s.running ∧ u.nodeId = s.nodeId := by
  obtain ⟨_, _, _, _, rfl⟩ := h
  exact ⟨rfl, rfl⟩

theorem Alone.running_named {c : Instr} {u v : State} (h : Alone c u v) : v.running = u.running ∧ v.nodeId = u.nodeId := by
  obtain ⟨_, _, _, _, _, _, _, _, _, rfl⟩ := h.changes
  exact ⟨rfl, rfl⟩

theorem State.LastStateFollows.owned {c : Instr} {u v : State} (h : u.LastStateFollows) (op : Footprint c u v)
    (run : u.running = true) (named : u.nodeId ≠ 0) : v.lc.lastState = some u.statePayload :=
  op.last.elim (fun same => same.trans (h run named)) id

theorem exec_holds {c : Instr} {s t : State} (run : s.running = true) (named : s.nodeId ≠ 0) (follows : s.LastStateFollows)
    (h : exec c s = .next t) (run' : t.running = true) (differs : t.statePayload ≠ s.statePayload) :
    t.lc.Holds (.state t.statePayload) (if t.fl.gallery = .fire ∨ t.statePayload.f ≠ s.statePayload.f then 0 else 2) := by
  rcases exec_awake (State.awake_of_running run) (State.awake_of_running run') h with
    ⟨u, v, peer, pressed, moment, owner, answered⟩ | ⟨u, v, moment, owner, answered⟩
  · obtain ⟨contents, last⟩ := moment.statePayload
    obtain ⟨runs, names⟩ := moment.running_named
    have lastU : u.lc.lastState = some u.statePayload := by rw [last, contents]; exact follows run named
    have lastV : v.lc.lastState = some u.statePayload := owner.footprint.last.elim (fun same => same.trans lastU) id
    have node := settle_node owner.footprint peer pressed
    have held (w : State) (settled : settle u v peer pressed = w) (stays : w.running = true) (namedW : w.nodeId ≠ 0)
        (differs : w.statePayload ≠ u.statePayload) :=
      settle_holds (runs.trans run) lastV settled stays namedW differs
    generalize settle u v peer pressed = w at answered node held
    obtain ⟨contents', line, fl, -⟩ := answered.statePayload
    rw [answered.running_named.1] at run'
    rw [contents', ← contents] at differs
    rw [contents', line, fl, ← contents]
    exact held w rfl run' (by rw [State.nodeId, node, ← State.nodeId, names]; exact named) differs
  · exact absurd (answered.statePayload.1.trans (owner.statePayload.trans moment.statePayload.1)) differs

/-! ### Every step keeps the last STATE (R57) -/

/-- At RUN entry the first STATE has the contents with which the event ends: no test has begun. -/
theorem settle_firstState {u v t : State} {peer : Option Nat} {pressed : List Nat} (settled : settle u v peer pressed = t)
    (entering : u.running = false) (run : t.running = true) (named : t.nodeId ≠ 0) (test : v.testRunning = t.testRunning) :
    t.lc.lastState = some t.statePayload := by
  obtain ⟨w, x, groundW, -, dt, groundX, line, -, last, -⟩ := (settle_stages u v peer pressed).line
  rw [settled] at groundW groundX last
  have opens : w.offersOpen = true := groundW.offersOpen.trans (t.offersOpen_iff.2 ⟨run, named⟩)
  have payload : w.statePayload = t.statePayload := groundW.statePayload (by rw [State.testRunning, dt, ← State.testRunning, test])
  have first : firstStateFollow u w = (w.offerState w.firstClass).startRefresh := by
    unfold firstStateFollow
    rw [opens, entering]
    rfl
  have still : stateFollow u x = x := by
    unfold stateFollow
    rw [entering]
    simp
  rw [last, still, line, first, ← payload]
  rfl

theorem Owns.lastState {c : Instr} {u v : State} {peer : Option Nat} {pressed : List Nat} (o : Owns c u v peer pressed)
    (test : u.TestInStep) (h : u.LastStateFollows) : (settle u v peer pressed).LastStateFollows := by
  intro run named
  have node := settle_node o.footprint peer pressed
  cases was : u.running with
  | true =>
    have namedU : u.nodeId ≠ 0 := by
      rw [State.nodeId, node, ← State.nodeId] at named
      exact named
    exact settle_lastState was (h.owned o.footprint was namedU) peer pressed _ rfl run named
  | false =>
    have idle : u.dt.state = .idle := by
      by_contra busy
      rw [test.phase busy] at was
      cases was
    refine settle_firstState rfl was run named ?_
    obtain ⟨op, rfl, rfl⟩ | ⟨same, -, -⟩ := o.tester_or_same
    · have follows := op.settled
      have inputs := op.changes
      generalize settle u v none [] = t at follows ⊢
      obtain ⟨_, _, _, _, _, rfl⟩ := follows
      rfl
    · have followed := settle_test same o.footprint.extends peer pressed
      have idle' : (settle u v peer pressed).dt.state = .idle := by
        by_contra busy
        exact followed.busy busy idle
      rw [State.testRunning, State.testRunning, same.1, idle, idle']

theorem lastStateFollows_kept : Kept fun s => (s.awake = true → s.TestInStep) ∧ s.LastStateFollows where
  answered a h := by
    refine ⟨testFollows_kept.answered a h.1, ?_⟩
    obtain ⟨_, _, rfl⟩ := a
    exact h.2
  moment m h := by
    refine ⟨testFollows_kept.moment m h.1, ?_⟩
    obtain ⟨_, _, _, _, rfl⟩ := m
    exact h.2
  pending rest h := ⟨testFollows_kept.pending rest h.1, h.2⟩
  restarts s phase port asleep := by
    refine ⟨testFollows_kept.restarts s port asleep, fun run => ?_⟩
    have sleeps := s.restart_asleep asleep port
    rw [State.awake_of_running run] at sleeps
    cases sleeps
  loads s bytes strap := by
    refine ⟨testFollows_kept.loads s bytes strap, fun run => ?_⟩
    obtain ⟨_, _, _, form⟩ := s.leaveLoading_changes bytes strap
    rw [form] at run
    cases run
  follows awake owner h := ⟨testFollows_kept.follows awake owner h.1, owner.lastState (h.1 awake) h.2⟩
  alone {c u v} owner h := by
    refine ⟨testFollows_kept.alone owner h.1, fun run named => ?_⟩
    obtain ⟨runs, names⟩ := owner.running_named
    rw [owner.last, owner.statePayload]
    exact h.2 (runs.symm.trans run) (by rw [← names]; exact named)

/-! ### The refresh -/

theorem State.refresh_sameInputs (s : State) (cls : Nat) : SameInputs s ((s.offerState cls).startRefresh) :=
  ⟨rfl, rfl, rfl, rfl, rfl, rfl, rfl, rfl, rfl⟩

theorem State.refresh_hasFault (s : State) (cls : Nat) : ((s.offerState cls).startRefresh).hasFault = s.hasFault := by
  have form : (s.offerState cls).startRefresh =
      { s with
        lc := { (s.lc.offer s.offersOpen (.state s.statePayload) cls).1 with
          lastState := some s.statePayload
          refresh := if s.nodeId = 0 then none else s.after (s.cl.node.h * Config.second) } } := rfl
  obtain ⟨_, _, _, kept⟩ := s.lc.offer_keeps s.offersOpen (.state s.statePayload) cls
  rw [form, kept]
  rfl

theorem exec_refreshTimerExpiry {s : State} {deadline : Nat} (run : s.running = true) (named : s.nodeId ≠ 0)
    (running : s.lc.refresh = some deadline) :
    exec .refreshTimerExpiry s = .next { s with
      now := max s.now deadline
      lc := { (s.lc.offer true (.state s.statePayload) s.refreshClass).1 with
        lastState := some s.statePayload
        refresh := some (max s.now deadline + s.cl.node.h * Config.second) } } := by
  have row : exec .refreshTimerExpiry s = s.expiry s.lc.refresh fun s => (s.offerState s.refreshClass).startRefresh := rfl
  have idle : settle (s.reach deadline) (((s.reach deadline).offerState (s.reach deadline).refreshClass).startRefresh) none [] =
      ((s.reach deadline).offerState (s.reach deadline).refreshClass).startRefresh :=
    settle_idle (State.refresh_sameInputs _ _) rfl fun fault => (State.refresh_hasFault _ _).symm.trans fault
  have opens : (s.reach deadline).offersOpen = true := s.offersOpen_iff.2 ⟨run, named⟩
  have form : ((s.reach deadline).offerState (s.reach deadline).refreshClass).startRefresh =
      { s with
        now := max s.now deadline
        lc := { ((s.reach deadline).lc.offer (s.reach deadline).offersOpen (.state s.statePayload) s.refreshClass).1 with
          lastState := some s.statePayload
          refresh := if s.nodeId = 0 then none else some (max s.now deadline + s.cl.node.h * Config.second) } } := rfl
  rw [row, State.expiry_running (State.awake_of_running run) running, idle, form, opens, if_neg named]
  rfl

/-- Settles O30: the refresh offers a STATE and starts its timer again; a change of the contents is offered in the event's follow-up
and stays held; every step keeps the last STATE offered that of the moment. -/
theorem refreshOffersState : Obligations.RefreshOffersState := by
  refine ⟨fun s deadline run named running => ?_, fun c s t run named follows h run' differs => ?_, fun s t test follows h => ?_⟩
  · exact exec_refreshTimerExpiry run named running
  · exact exec_holds run named follows h run' differs
  · exact (lastStateFollows_kept.step ⟨s.testFollows_iff.1 test, follows⟩ h).2

end Sys2Proof.Machine
end

/-! ## The calls an event announces (R115, R116, R118) -/

section
namespace Sys2Proof.Machine

/-! ### One call announced -/

theorem filter_eq_self_of_nodup {l : List Nat} (distinct : l.Nodup) (a : Nat) :
    l.filter (· == a) = if a ∈ l then [a] else [] := by
  rw [List.filter_beq]
  split
  · rename_i mem
    rw [List.count_eq_one_of_mem distinct mem]
    rfl
  · rename_i absent
    rw [List.count_eq_zero_of_not_mem absent]
    rfl

/-- Where one source alone has something to announce, its call is announced. -/
theorem announceFollow_only {old s : State} (shaped : s.Shaped) {pressed : List Nat} {src : Nat}
    (only : ∀ i, announcementDue old s pressed i = (i == src)) : announceFollow old s pressed = s.announce src := by
  have same : (announcementDue old s pressed) = (· == src) := funext only
  unfold announceFollow
  rw [same, filter_eq_self_of_nodup shaped.tableOrder_nodup]
  split
  · rfl
  · rename_i absent
    have none_ : s.call src = none := by
      by_contra present
      exact absent ((shaped.mem_tableOrder src).2 present)
    rw [State.announce, none_]
    rfl

/-! ### The first fault member (R118) -/

theorem State.Shaped.withCalls {s : State} (h : s.Shaped) {v : State} (cc : v.cc.Shaped) {r : List Report}
    (form : v = { s with cc := v.cc, ap := { s.ap with reports := r } }) : v.Shaped := by
  rw [form]
  exact { h with
    points := cc.points, calls := cc.calls, serials := cc.serials, rotations := cc.rotations, orders := cc.orders,
    priorities := cc.priorities, pointPriorities := cc.pointPriorities }

theorem State.Shaped.press {s : State} (h : s.Shaped) (src : Nat) (kind : CallKind) {base : Nat} (low : base ≤ 3) :
    (s.press src kind base).Shaped := by
  obtain ⟨_, _, r, form⟩ := s.press_changes src kind base
  refine h.withCalls (State.press_shaped h.calls_shaped src kind low) (r := r) ?_
  rw [form]

/-! ### Many calls announced (R119) -/

theorem State.mem_tableOrder_of_shaped {s : State} (h : s.cc.Shaped) {i : Nat} {c : Call} (present : s.call i = some c) :
    i ∈ s.tableOrder := by
  obtain ⟨-, -, low⟩ := State.call_ranked h present
  have inside : c.current < s.cc.rotations.length := by rw [h.rotations]; omega
  have get : s.rotation c.current = s.cc.rotations[c.current] := by simp [State.rotation, inside]
  refine State.mem_tableOrder.2 ⟨c, present, by omega, ?_⟩
  rw [get, (h.orders _ (List.getElem_mem inside)).mem_iff]
  exact List.mem_range.2 (State.call_source h present)

/-- Two sources of the table never collapse into one another. -/
theorem collapses_apart {i k : Nat} (hi : i < 17) (hk : k < 17) (other : k ≠ i) (a b : Call) (e : TxEntry)
    (is : e.body = .call (a.payload i)) : collapsesInto (.call (b.payload k)) e = false := by
  unfold collapsesInto
  rw [is]
  refine decide_eq_false fun same => other ?_
  have nat := congrArg BitVec.toNat same
  simp only [Call.payload, BitVec.toNat_ofNat] at nat
  omega

theorem LineController.Holds.announceCall {s : State} {i : Nat} {c : Call} (h : s.lc.Holds (.call (c.payload i)) 1) (hi : i < 17)
    (opens : s.offersOpen = true) (stands : ∀ b, s.call i = some b → b.payload i = c.payload i) {k : Nat}
    (hk : ∀ b, s.call k = some b → k < 17) : (s.announce k).lc.Holds (.call (c.payload i)) 1 := by
  rw [State.announce_lc]
  unfold State.offerCallTo
  split
  · rename_i b present
    by_cases same : k = i
    · subst same
      rw [opens, stands b present]
      exact s.lc.offer_holds _ _
    · exact h.offer _ (fun e is => collapses_apart hi (hk b present) same c b e is) _
  · exact h

theorem State.announce_open (s : State) (k : Nat) : (s.announce k).offersOpen = s.offersOpen := by
  obtain ⟨_, _, h⟩ := s.announce_changes k
  rw [h]
  rfl

/-- An announced call stands in the queue as the call stands, or a discard has been marked. -/
theorem State.announceEach_holds {s : State} (h : s.cc.Shaped) (opens : s.offersOpen = true) {i : Nat} {c : Call}
    (present : s.call i = some c) (l : List Nat) (due : i ∈ l ∨ s.lc.Holds (.call (c.payload i)) 1) :
    (l.foldl State.announce s).lc.Holds (.call (c.payload i)) 1 := by
  induction l generalizing s c with
  | nil => exact due.elim (fun mem => absurd mem List.not_mem_nil) id
  | cons k l ih =>
    have shaped' := State.announce_shaped h k
    have opens' : (s.announce k).offersOpen = true := (s.announce_open k).trans opens
    have source := State.call_source h present
    have step : ∃ d, (s.announce k).call i = some d ∧ d.payload i = c.payload i := by
      rw [State.announce_call_eq, present]
      split
      · exact ⟨_, rfl, rfl⟩
      · exact ⟨_, rfl, rfl⟩
    obtain ⟨d, present', same⟩ := step
    rw [List.foldl_cons, ← same]
    refine ih shaped' opens' present' ?_
    rw [same]
    by_cases here : k = i
    · subst here
      refine .inr ?_
      rw [State.announce_present present]
      have held := s.lc.offer_holds (.call (c.payload k)) 1
      rw [← opens] at held
      exact held
    · rcases due with mem | held
      · exact .inl ((List.mem_cons.1 mem).resolve_left (Ne.symm here))
      · refine .inr (held.announceCall source opens (fun b is => ?_) fun b is => State.call_source h is)
        rw [present] at is
        cases is
        rfl

/-- `c` is announced at `t`: its re-announce timer is started afresh, and its CALL is held where offers are entered (R56, R119). -/
structure Announced (t : State) (source : Nat) (c : Call) : Prop where
  call : t.call source = some (t.reannounced c)
  held : t.offersOpen = true → t.lc.Holds (.call (c.payload source)) 1

/-- What an event gives something to announce is announced. -/
theorem announceFollow_announced {old s : State} (h : s.cc.Shaped) {pressed : List Nat} {i : Nat} {c : Call}
    (present : s.call i = some c) (due : announcementDue old s pressed i = true) :
    Announced (announceFollow old s pressed) i c := by
  have mem : i ∈ s.tableOrder.filter (announcementDue old s pressed) :=
    List.mem_filter.2 ⟨State.mem_tableOrder_of_shaped h present, due⟩
  have form := announceFollow_changes old s pressed
  have call := s.announceEach_call_eq (s.tableOrder.filter (announcementDue old s pressed)) i
  rw [if_pos mem, present] at call
  have held (opens : s.offersOpen = true) := State.announceEach_holds h opens present _ (.inl mem)
  have fold : announceFollow old s pressed = (s.tableOrder.filter (announcementDue old s pressed)).foldl State.announce s := rfl
  rw [← fold] at call held
  generalize announceFollow old s pressed = t at form call held
  obtain ⟨_, _, rfl⟩ := form
  exact ⟨call, held⟩

theorem announceFollow_call_none {old s : State} {pressed : List Nat} {i : Nat} (absent : s.call i = none) :
    (announceFollow old s pressed).call i = none := by
  unfold announceFollow
  rw [State.announceEach_call_eq, absent]
  split <;> rfl

/-! ### In an event's follow-up -/

theorem faultFollow_call (old : State) {s : State} {i : Nat} (other : i ≠ 16) : (faultFollow old s).call i = s.call i := by
  unfold faultFollow State.pressNodeFault State.press
  split
  · split
    · show (s.cc.calls.set 16 _).getD i none = _
      rw [getD_set, if_neg fun h => other h.1.symm]
      rfl
    · split
      · show (s.cc.calls.set 16 _).getD i none = _
        rw [getD_set, if_neg fun h => other h.1.symm]
        rfl
      · rfl
  · rfl

end Sys2Proof.Machine
end

/-! ## Sending, loss and collision (R49 to R51) -/

section
namespace Sys2Proof.Machine

/-! ### The node-fault call where nothing else follows (R118) -/

theorem State.pressNodeFault_hasFault (s : State) : s.pressNodeFault.hasFault = s.hasFault := by
  obtain ⟨_, _, _, form⟩ := s.press_changes 16 .fault 2
  rw [State.pressNodeFault, form]
  rfl

theorem faultFollow_rises {old s : State} (calm : old.hasFault = false) (fault : s.hasFault = true) :
    faultFollow old s = s.pressNodeFault := by
  unfold faultFollow
  rw [calm, fault]
  rfl

theorem State.pressNodeFault_ground (s : State) : s.pressNodeFault.running = s.running ∧ s.pressNodeFault.ru = s.ru := by
  obtain ⟨_, _, _, form⟩ := s.press_changes 16 .fault 2
  rw [State.pressNodeFault, form]
  exact ⟨rfl, rfl⟩

/-- A first fault member on the same inputs: its call is pressed and announced, and nothing else follows. -/
theorem settle_firstFault {s t : State} (inputs : SameInputs s t) (test : t.dt.state = s.dt.state) (shaped : t.Shaped)
    (calm : s.hasFault = false) (fault : t.hasFault = true) : settle s t none [] = t.pressNodeFault.announce 16 := by
  rw [settle_quiet inputs test, faultFollow_rises calm fault]
  have shaped' : t.pressNodeFault.Shaped := shaped.press 16 .fault (by omega)
  refine announceFollow_only shaped' fun i => ?_
  obtain ⟨run, ru⟩ := t.pressNodeFault_ground
  have run' : t.pressNodeFault.running = s.running := by rw [run, State.running, inputs.cl, ← State.running]
  have evac : t.pressNodeFault.isEvacuating = s.isEvacuating := by rw [State.isEvacuating, ru, inputs.ru, ← State.isEvacuating]
  unfold announcementDue
  rw [t.pressNodeFault_hasFault, fault, calm, run', evac]
  simp

/-- The call of source 16 after its press. -/
theorem State.press_present {s : State} (shaped : s.Shaped) {src : Nat} (low : src < 17) (kind : CallKind) (base : Nat) :
    ∃ c, (s.press src kind base).call src = some c := by
  have inside : src < s.cc.calls.length := by rw [shaped.calls]; exact low
  unfold State.press
  split
  · exact ⟨_, by
      show (s.cc.calls.set src _).getD src none = _
      rw [getD_set, if_pos ⟨rfl, inside⟩]⟩
  · rename_i c present
    split
    · exact ⟨_, State.setCall_call inside _⟩
    · exact ⟨c, present⟩

/-! ### CONTEND and LOSS -/

theorem State.mayContend_iff (s : State) : s.mayContend = true ↔
    s.running = true ∧ s.nodeId ≠ 0 ∧ s.lc.queue ≠ [] ∧ s.lc.stuckPeriod = false ∧ s.lc.sending = none := by
  simp [State.mayContend, State.offersOpen, and_assoc]

theorem exec_contend {s : State} (awake : s.awake = true) :
    exec .contend s = .next (if s.mayContend then s.setLc (s.lc.begin s.nodeId) else s) := State.own_awake awake _

theorem LineController.begin_cons {lc : LineController} {e : TxEntry} {rest : List TxEntry} (queue : lc.queue = e :: rest) (id : Nat) :
    lc.begin id = { lc with
      queue := { e with onLine := true } :: rest
      sending := some ⟨BitVec.ofNat 2 e.cls, BitVec.ofNat 6 id, e.body⟩
      deaf := none } := by
  unfold LineController.begin
  rw [queue]

theorem exec_contend_barred {s : State} (barred : ¬s.mayContend = true) : exec .contend s = .next s := by
  cases awake : s.awake with
  | true => rw [exec_contend awake, if_neg barred]
  | false =>
    have row : exec .contend s = s.own fun s => if s.mayContend then s.setLc (s.lc.begin s.nodeId) else s := rfl
    rw [row, State.own, awake]
    rfl

theorem exec_loss {s : State} (awake : s.awake = true) (sending : s.lc.sending ≠ none) :
    exec .loss s = .next (s.setLc s.lc.lose) := by
  have row : exec .loss s = s.own fun s => if s.lc.sending.isSome then s.setLc s.lc.lose else s := rfl
  rw [row, State.own_awake awake, if_pos (Option.isSome_iff_ne_none.2 sending)]

/-! ### A collision (R51) -/

theorem map_collide_offLine {q : List TxEntry} (off : ∀ x ∈ q, x.onLine = false) : q.map .collide = q := by
  conv_rhs => rw [← List.map_id q]
  refine List.map_congr_left fun x mem => ?_
  unfold TxEntry.collide
  rw [if_neg (by rw [off x mem]; exact Bool.false_ne_true)]
  rfl

/-- The line controller after a collision of entry `e`. -/
def State.collided (s : State) (before after : List TxEntry) (e : TxEntry) : LineController :=
  { s.lc with
    queue := before ++ { e with onLine := false, replaced := false, collisions := e.collisions + 1 } :: after
    sending := none
    deaf := some s.now
    collision := s.lc.collision || decide (e.collisions = 3) }

theorem State.collide_eq {s : State} {before after : List TxEntry} {e : TxEntry} (queue : s.lc.queue = before ++ e :: after)
    (on : e.onLine = true) (off : ∀ x ∈ before ++ after, x.onLine = false) :
    s.collide = State.reportIf { s with lc := s.collided before after e } (decide (e.collisions = 3) && !s.lc.collision) .collision
      e.body.kindCode (e.cls * 256 + 1) := by
  have offBefore (x : TxEntry) (mem : x ∈ before) : x.onLine = false := off x (List.mem_append_left _ mem)
  have offAfter (x : TxEntry) (mem : x ∈ after) : x.onLine = false := off x (List.mem_append_right _ mem)
  have hit : s.lc.queue.find? (·.onLine) = some e := by
    rw [queue, List.find?_append, List.find?_eq_none.2 fun x mem => by rw [offBefore x mem]; exact Bool.false_ne_true]
    rw [List.find?_cons, on]
    rfl
  have abandoned : s.lc.queue.map .collide =
      before ++ { e with onLine := false, replaced := false, collisions := e.collisions + 1 } :: after := by
    rw [queue, List.map_append, List.map_cons, map_collide_offLine offBefore, map_collide_offLine offAfter, TxEntry.collide, if_pos on]
  unfold State.collide State.collided
  rw [hit, abandoned]
  dsimp only
  by_cases fourth : e.collisions = 3
  · cases s.lc.collision <;> simp [fourth, State.reportIf, State.setLc, packSet, pack]
  · simp [fourth, State.reportIf, State.setLc]

theorem exec_lineCollision {s : State} (awake : s.awake = true) (sending : s.lc.sending ≠ none) :
    exec .lineCollision s = .next (settle s s.collide none []) := by
  have row : exec .lineCollision s = s.event fun s => if s.lc.sending.isSome then s.collide else s := rfl
  rw [row, State.event_awake awake, if_pos (Option.isSome_iff_ne_none.2 sending)]

theorem State.hasFault_of_collision {s : State} (h : s.lc.collision = true) : s.hasFault = true := by
  simp [State.hasFault, State.faultMembers, h]

section
variable {s : State} {before after : List TxEntry} {e : TxEntry} (awake : s.awake = true) (sending : s.lc.sending ≠ none)
  (queue : s.lc.queue = before ++ e :: after) (on : e.onLine = true) (off : ∀ x ∈ before ++ after, x.onLine = false)
include awake sending queue on off

/-- A collision that brings up no first fault member. -/
theorem exec_lineCollision_idle (idle : s.hasFault = true ∨ e.collisions ≠ 3) :
    exec .lineCollision s = .next (State.reportIf { s with lc := s.collided before after e }
      (decide (e.collisions = 3) && !s.lc.collision) .collision e.body.kindCode (e.cls * 256 + 1)) := by
  rw [exec_lineCollision awake sending, State.collide_eq queue on off]
  refine congrArg _ (settle_line_idle (fun fault => ?_) _ _ _ _)
  rcases idle with already | early
  · exact already
  · exact State.hasFault_line_le (s := s) (lc := s.collided before after e) id id (by simp [State.collided, early]) rfl fault

/-- The fourth collision where nothing was at fault: the node-fault call is raised or reminded, and announced. -/
theorem exec_lineCollision_fault (shaped : s.Shaped) (calm : s.hasFault = false) (fourth : e.collisions = 3) :
    let reported := State.reportIf { s with lc := s.collided before after e } (decide (e.collisions = 3) && !s.lc.collision)
      .collision e.body.kindCode (e.cls * 256 + 1)
    ∃ c, reported.pressNodeFault.call 16 = some c ∧
      exec .lineCollision s = .next (reported.pressNodeFault.announced 16 c) := by
  dsimp only
  obtain ⟨r, form⟩ := State.reportIf_changes { s with lc := s.collided before after e }
    (decide (e.collisions = 3) && !s.lc.collision) .collision e.body.kindCode (e.cls * 256 + 1)
  have inputs := SameInputs.of_line_report s (s.collided before after e) (decide (e.collisions = 3) && !s.lc.collision) .collision
    e.body.kindCode (e.cls * 256 + 1)
  have fault : (State.reportIf { s with lc := s.collided before after e } (decide (e.collisions = 3) && !s.lc.collision)
      .collision e.body.kindCode (e.cls * 256 + 1)).hasFault = true := by
    rw [State.hasFault_reportIf]
    exact State.hasFault_of_collision (by simp [State.collided, fourth])
  rw [exec_lineCollision awake sending, State.collide_eq queue on off]
  generalize State.reportIf { s with lc := s.collided before after e } (decide (e.collisions = 3) && !s.lc.collision)
      .collision e.body.kindCode (e.cls * 256 + 1) = reported at form inputs fault ⊢
  have shaped' : reported.Shaped := by rw [form]; exact { shaped with }
  have test : reported.dt.state = s.dt.state := by rw [form]
  obtain ⟨c, present⟩ := State.press_present shaped' (src := 16) (by omega) .fault 2
  refine ⟨c, present, ?_⟩
  rw [settle_firstFault inputs test shaped' calm fault, State.announce_present (s := reported.pressNodeFault) present]

end

/-! ### Every step keeps a sending node's entry queued, and a deaf one's queue filled -/

/-- `LineFollows` as the line controller sees it, `may` being whether offers are entered. -/
structure LineController.Follows (lc : LineController) (may : Bool) : Prop where
  sending : lc.sending ≠ none → may = true ∧ lc.deaf = none ∧ ∃ e ∈ lc.queue, e.onLine = true
  deaf : lc.deaf ≠ none → may = true → lc.queue ≠ []

theorem State.lineFollows_iff (s : State) : s.LineFollows ↔ s.lc.Follows s.offersOpen := by
  have opens := s.offersOpen_iff
  refine ⟨fun h => ⟨fun on => ?_, fun deaf may => ?_⟩, fun h => ⟨fun on => ?_, fun deaf run named => ?_⟩⟩
  · obtain ⟨run, named, hears, entry⟩ := h.sending on
    exact ⟨opens.2 ⟨run, named⟩, hears, entry⟩
  · obtain ⟨run, named⟩ := opens.1 may
    exact h.deaf deaf run named
  · obtain ⟨may, hears, entry⟩ := h.sending on
    obtain ⟨run, named⟩ := opens.1 may
    exact ⟨run, named, hears, entry⟩
  · exact h.deaf deaf (opens.2 ⟨run, named⟩)

/-- An offer leaves an entry on the line on it. -/
theorem LineController.offer_onLine {lc : LineController} (h : ∃ e ∈ lc.queue, e.onLine = true) (open_ : Bool) (body : Payload)
    (cls : Nat) : ∃ e ∈ (lc.offer open_ body cls).1.queue, e.onLine = true := by
  obtain ⟨e, mem, on⟩ := h
  unfold LineController.offer
  split
  · exact ⟨e, mem, on⟩
  · split
    · rename_i x found
      by_cases same : e = x
      · exact ⟨x.collapse body cls, mem_insertEntry.2 (.inl rfl), by rw [← same]; exact on⟩
      · refine ⟨e, mem_insertEntry.2 (.inr ?_), on⟩
        obtain ⟨takes, before, after, is, passed⟩ := List.find?_eq_some_iff_append.1 found
        have erased : lc.queue.eraseP (collapsesInto body) = before ++ after := by
          rw [is, List.eraseP_append_right _ fun a m => by simpa using passed a m, List.eraseP_cons_of_pos takes]
        rw [is] at mem
        rw [erased]
        simp only [List.mem_append, List.mem_cons] at mem ⊢
        exact mem.imp id fun m => m.resolve_left same
    · dsimp only
      split
      · exact ⟨e, mem_insertEntry.2 (.inr mem), on⟩
      · split
        · rename_i v least
          have other : e ≠ v := fun same => by
            have off := (victim_last least).1
            rw [← same, on] at off
            cases off
          split
          · exact ⟨e, mem_insertEntry.2 (.inr ((List.mem_eraseP_of_neg (by simpa using other)).2 mem)), on⟩
          · exact ⟨e, mem, on⟩
        · exact ⟨e, mem, on⟩

/-- A queue offered to, or filled before, is filled. -/
theorem LineController.offer_filled {lc : LineController} {open_ : Bool} (h : open_ = true ∨ lc.queue ≠ []) (body : Payload)
    (cls : Nat) : (lc.offer open_ body cls).1.queue ≠ [] := by
  have filled {q : List TxEntry} {x : TxEntry} : insertEntry x q ≠ [] := List.ne_nil_of_mem (mem_insertEntry.2 (.inl rfl))
  unfold LineController.offer
  split
  · rename_i shut
    refine h.resolve_left fun opens => ?_
    rw [opens] at shut
    cases shut
  · split
    · exact filled
    · dsimp only
      split
      · exact filled
      · rename_i full
        have stands : lc.queue ≠ [] := fun empty => full (by rw [empty]; exact Nat.zero_lt_succ _)
        split
        · split
          · exact filled
          · exact stands
        · exact stands

section
variable {lc : LineController} {may : Bool}

theorem LineController.Follows.offer (h : lc.Follows may) (open_ : Bool) (body : Payload) (cls : Nat) :
    (lc.offer open_ body cls).1.Follows may := by
  have on (entry : ∃ e ∈ lc.queue, e.onLine = true) := LineController.offer_onLine entry open_ body cls
  have filled (stands : lc.queue ≠ []) := LineController.offer_filled (open_ := open_) (.inr stands) body cls
  obtain ⟨_, _, _, form⟩ := lc.offer_keeps open_ body cls
  rw [form] at on filled ⊢
  refine ⟨fun sends => ?_, fun deaf run => filled (h.deaf deaf run)⟩
  obtain ⟨run, hears, entry⟩ := h.sending sends
  exact ⟨run, hears, on entry⟩

theorem LineController.Follows.offers (h : lc.Follows may) {lc' : LineController} (offers : LineOffers lc lc') : lc'.Follows may := by
  obtain ⟨offered, last, rfl⟩ := offers
  suffices (lc.offerAll offered).Follows may from ⟨this.sending, this.deaf⟩
  unfold LineController.offerAll
  induction offered generalizing lc with
  | nil => exact h
  | cons o offered ih => exact ih (h.offer _ _ _)

/-- Operations that leave the queue, what is on the line and the deafness. -/
theorem LineController.Follows.same (h : lc.Follows may) {lc' : LineController} (queue : lc'.queue = lc.queue)
    (sending : lc'.sending = lc.sending) (deaf : lc'.deaf = lc.deaf) : lc'.Follows may := by
  refine ⟨fun on => ?_, fun deaf' => ?_⟩
  · rw [queue, deaf]
    exact h.sending (by rw [← sending]; exact on)
  · rw [queue]
    exact h.deaf (by rw [← deaf]; exact deaf')

/-- Off the line, and deaf only with what was queued still queued. -/
theorem LineController.follows_of_idle (idle : lc.sending = none) (deaf : lc.deaf ≠ none → may = true → lc.queue ≠ []) :
    lc.Follows may := ⟨fun on => absurd idle on, deaf⟩

theorem LineController.Follows.lose (h : lc.Follows may) : lc.lose.Follows may :=
  LineController.follows_of_idle rfl fun deaf run => by
    show lc.queue.map TxEntry.offLine ≠ []
    rw [Ne, List.map_eq_nil_iff]
    exact h.deaf deaf run

theorem LineController.begin_follows (queued : lc.queue ≠ []) (id : Nat) : (lc.begin id).Follows true := by
  obtain ⟨e, rest, queue⟩ := List.exists_cons_of_ne_nil queued
  rw [LineController.begin_cons queue id]
  exact ⟨fun _ => ⟨rfl, rfl, _, List.mem_cons_self, rfl⟩, fun deaf => absurd rfl deaf⟩

end

section
variable {u v : State} {may : Bool}

theorem LineOp.follows (op : LineOp u v) (h : u.lc.Follows may) : v.lc.Follows may := by
  cases op with
  | collide sending =>
    obtain ⟨run, hears, e, mem, on⟩ := h.sending sending
    have abandoned : LineController.Follows { u.lc with queue := u.lc.queue.map .collide, sending := none, deaf := some u.now } may :=
      LineController.follows_of_idle rfl fun _ _ => List.ne_nil_of_mem (List.mem_map_of_mem mem)
    unfold State.collide
    dsimp only
    split
    · split
      · exact abandoned.same rfl rfl rfl
      · exact abandoned
    · exact abandoned
  | stuckBegin => rw [State.stuckBegin, State.reportIf_lc]; exact h.same rfl rfl rfl
  | stuckExpire => rw [State.stuckExpire, State.reportIf_lc]; exact h.same rfl rfl rfl
  | checkError =>
    rw [State.noteCheckError, State.reportIf_lc, State.setLc, State.dropAged, State.reportIf_lc]
    exact h.same rfl rfl rfl
  | ageNoise => rw [State.ageNoise, State.reportIf_lc]; exact h.same rfl rfl rfl
  | duplicate => rw [State.noteDuplicate, State.reportIf_lc]; exact h.same rfl rfl rfl
  | refresh => exact (h.offers (u.offerState_line u.refreshClass)).same rfl rfl rfl

theorem SentOp.follows {c : Instr} (op : SentOp c u v) (h : u.lc.Follows may) : v.lc.Follows may := by
  cases op with
  | @complete sent _ sending =>
    obtain ⟨_, form⟩ := u.completeSending.handCompletion_lc sent.body
    rw [form, State.completeSending, State.reportIf_lc]
    have hears := (h.sending (by rw [sending]; nofun)).2.1
    exact LineController.follows_of_idle rfl fun deaf => absurd hears deaf
  | @order body =>
    rw [State.applyOwnOrder_lc]
    exact h.offers (u.offer_line body 0)

theorem Footprint.follows {c : Instr} (op : Footprint c u v) (h : u.lc.Follows may) : v.lc.Follows may := by
  cases op with
  | line op => exact op.follows h
  | sent op => exact op.follows h
  | doors _ op => exact h.offers op.line
  | calls op => exact h.offers op.line
  | run _ form => rw [form]; exact h
  | confirm _ form => obtain ⟨_, _, _, _, e⟩ := u.confirmExpire_changes; rw [form, e]; exact h
  | @reset a b c _ form =>
    obtain ⟨_, _, _, _, _, e⟩ := u.decideReset_changes a b c
    rw [form, e]
    exact h
  | detector op => obtain ⟨_, _, _, _, _, _, rfl⟩ := op.changes; exact h
  | table op => obtain ⟨_, _, rfl⟩ := op.changes; exact h
  | list op => obtain ⟨_, _, rfl⟩ := op.changes; exact h
  | signals op => obtain ⟨_, _, _, _, rfl⟩ := op.changes; exact h
  | test op => obtain ⟨_, _, _, rfl⟩ := op.changes; exact h

end

/-- At RUN entry of a node with an id the first STATE fills the queue. -/
theorem settle_filled {u v t : State} {peer : Option Nat} {pressed : List Nat} (settled : settle u v peer pressed = t)
    (entering : u.running = false) (opens : t.offersOpen = true) : t.lc.queue ≠ [] := by
  obtain ⟨x, stage⟩ := settle_stateStage u v peer pressed
  rw [settled] at stage
  obtain ⟨-, ⟨w, ground, -, first⟩, -, done⟩ := stage
  have opens' : w.offersOpen = true := ground.offersOpen.trans opens
  have offered : x.lc = ((w.offerState w.firstClass).startRefresh).lc := by
    rw [first, firstStateFollow, opens', entering]
    rfl
  have filled : x.lc.queue ≠ [] := by
    rw [offered]
    exact LineController.offer_filled (.inl opens') (.state w.statePayload) w.firstClass
  have offers : LineOffers x.lc (announceFollow u (faultFollow u (stateFollow u x)) pressed).lc := by
    refine (stateFollow_line u x).trans ?_
    rw [← faultFollow_lc u (stateFollow u x)]
    exact announceFollow_line u _ pressed
  rw [← done] at offers
  obtain ⟨bodies, last, form⟩ := offers
  rw [form]
  clear form
  show (x.lc.offerAll bodies).queue ≠ []
  unfold LineController.offerAll
  generalize x.lc = lc at filled
  induction bodies generalizing lc with
  | nil => exact filled
  | cons o bodies ih => exact ih (lc.offer true o.1 o.2).1 (LineController.offer_filled (.inr filled) _ _)

theorem Owns.lineFollows {c : Instr} {u v : State} {peer : Option Nat} {pressed : List Nat} (o : Owns c u v peer pressed)
    (h : u.lc.Follows u.offersOpen) : (settle u v peer pressed).lc.Follows (settle u v peer pressed).offersOpen := by
  have owned := o.footprint.follows h
  have node := settle_node o.footprint peer pressed
  have stays := o.footprint.stays (peer := peer) (pressed := pressed)
  have filled := settle_filled (u := u) (v := v) (peer := peer) (pressed := pressed) rfl
  obtain ⟨refresh, offers⟩ := settle_line u v peer pressed
  have settled : (settle u v peer pressed).lc.Follows u.offersOpen :=
    LineController.Follows.offers (owned.same (lc' := { v.lc with refresh := refresh }) rfl rfl rfl) offers
  generalize settle u v peer pressed = t at node stays filled settled ⊢
  cases was : u.running with
  | true =>
    have same : t.offersOpen = u.offersOpen := by
      rw [State.offersOpen, State.offersOpen, stays was, was, State.nodeId, node, ← State.nodeId]
    rw [same]
    exact settled
  | false =>
    have shut : u.offersOpen = false := by rw [State.offersOpen, was]; rfl
    refine LineController.follows_of_idle ?_ fun _ opens => filled was opens
    by_contra sends
    have run := (settled.sending sends).1
    rw [shut] at run
    cases run

theorem State.offersOpen_asleep {s : State} (asleep : s.running = false) : s.offersOpen = false := by
  rw [State.offersOpen, asleep]
  rfl

theorem LineController.afterRestart_follows : LineController.afterRestart.Follows false :=
  LineController.follows_of_idle rfl nofun

theorem lineFollows_kept : Kept fun s => s.lc.Follows s.offersOpen where
  answered a h := by obtain ⟨_, _, rfl⟩ := a; exact h
  moment m h := by
    obtain ⟨_, deaf, _, cleared, rfl⟩ := m
    rcases cleared with rfl | rfl
    · refine ⟨fun sends => ?_, fun deaf => absurd rfl deaf⟩
      obtain ⟨run, -, entry⟩ := h.sending sends
      exact ⟨run, rfl, entry⟩
    · exact h.same rfl rfl rfl
  pending _ h := h
  restarts s phase port asleep := by
    have off : (s.restart phase port).offersOpen = false := State.offersOpen_asleep (by
      cases run : (s.restart phase port).running with
      | false => rfl
      | true =>
        have sleeps := s.restart_asleep asleep port
        rw [State.awake_of_running run] at sleeps
        cases sleeps)
    show LineController.Follows _ (s.restart phase port).offersOpen
    rw [off]
    exact LineController.afterRestart_follows
  loads s bytes strap := by
    have off : (s.leaveLoading bytes strap).offersOpen = false := by
      obtain ⟨_, _, _, form⟩ := s.leaveLoading_changes bytes strap
      rw [form]
      rfl
    show LineController.Follows _ (s.leaveLoading bytes strap).offersOpen
    rw [off]
    obtain ⟨_, _, _, form⟩ := s.leaveLoading_changes bytes strap
    rw [form]
    exact LineController.afterRestart_follows
  follows _ owner h := owner.lineFollows h
  alone {c u v} owner h := by
    have opens : v.offersOpen = u.offersOpen := by
      obtain ⟨run, named⟩ := owner.running_named
      rw [State.offersOpen, State.offersOpen, run, named]
    show v.lc.Follows v.offersOpen
    rw [opens]
    cases owner with
    | @grant _ n choice => cases choice <;> exact h
    | contend may =>
      obtain ⟨run, named, queued, -, -⟩ := u.mayContend_iff.1 may
      rw [u.offersOpen_iff.2 ⟨run, named⟩]
      exact LineController.begin_follows queued u.nodeId
    | lose => exact h.lose
    | stuckEnd =>
      unfold State.stuckEnd
      split
      · refine ⟨fun sends => ?_, fun deaf => absurd rfl deaf⟩
        obtain ⟨run, -, entry⟩ := h.sending sends
        exact ⟨run, rfl, entry⟩
      · exact h
    | @offer _ _ body cls => exact h.offers (u.offer_line body cls)
    | @relist _ _ body cls => exact h.offers (u.offer_line body cls)
    | clearLamps => rw [State.clearLamps, State.reportIf_lc]; exact h
    | readNode => exact h.same rfl rfl rfl
    | still | readReport | extendWalk | pulse => exact h

theorem State.Shaped.of_line_report {s : State} (h : s.Shaped) (lc : LineController) (c : Bool) (k : ReportKind) (a b : Nat) :
    (State.reportIf { s with lc := lc } c k a b).Shaped := by
  obtain ⟨r, form⟩ := State.reportIf_changes { s with lc := lc } c k a b
  rw [form]
  exact { h with }

theorem State.announced_call {s : State} {src : Nat} (inside : src < s.cc.calls.length) (c : Call) :
    (s.announced src c).call src = some (s.reannounced c) := by
  show (s.cc.calls.set src _).getD src none = _
  rw [getD_set, if_pos ⟨rfl, inside⟩]
  rfl

/-- The node-fault call's offer is made to the line controller as the line condition left it. -/
theorem State.pressNodeFault_announced {s : State} {lc : LineController} {x : Bool} {k : ReportKind} {a b : Nat}
    (shaped : (State.reportIf { s with lc := lc } x k a b).Shaped) (c : Call) :
    ∃ d, ((State.reportIf { s with lc := lc } x k a b).pressNodeFault.announced 16 c).call 16 = some d ∧
      ((State.reportIf { s with lc := lc } x k a b).pressNodeFault.announced 16 c).lc =
        (lc.offer ({ s with lc := lc } : State).offersOpen (.call (d.payload 16)) 1).1 := by
  have calls := (shaped.press 16 .fault (base := 2) (by omega)).calls
  obtain ⟨r, reported⟩ := State.reportIf_changes { s with lc := lc } x k a b
  rw [reported] at calls ⊢
  obtain ⟨v, n, r', form⟩ := State.press_changes { ({ s with lc := lc } : State) with ap := { s.ap with reports := r } } 16 .fault 2
  rw [form] at calls
  rw [State.pressNodeFault, form]
  exact ⟨_, State.announced_call (by rw [calls]; omega) c, rfl⟩

/-- Settles O25: an idle begins the queue's head, a loss leaves it queued, a collision counts on it; every step keeps a sending node's entry
on the line and a deaf node's queue filled. -/
theorem contentionDecided : Obligations.ContentionDecided := by
  refine ⟨fun s => ⟨fun e rest queue run named idle off => ?_, fun barred => ?_, fun awake sending => exec_loss awake sending⟩,
    fun s before after e awake shaped sending queue on off => ⟨fun idle => ?_, fun calm fourth => ?_⟩, fun s t follows h => ?_⟩
  · have may : s.mayContend = true := s.mayContend_iff.2 ⟨run, named, by rw [queue]; nofun, idle, off⟩
    rw [exec_contend (State.awake_of_running run), may, LineController.begin_cons queue]
    rfl
  · refine exec_contend_barred fun may => ?_
    obtain ⟨run, named, queued, idle, off⟩ := s.mayContend_iff.1 may
    rcases barred with h | h | h | h | h
    · rw [run] at h; cases h
    · exact named h
    · exact queued h
    · rw [idle] at h; cases h
    · exact h off
  · exact exec_lineCollision_idle awake sending queue on off (idle.imp id of_decide_eq_false)
  · obtain ⟨c, -, done⟩ := exec_lineCollision_fault awake sending queue on off shaped calm (of_decide_eq_true fourth)
    refine ⟨_, done, ?_, ?_⟩
    · exact (State.press_callConsequent _ 16 .fault 2).trans (State.announced_callConsequent _ 16 c)
    · exact State.pressNodeFault_announced (shaped.of_line_report _ _ _ _ _) c
  · exact t.lineFollows_iff.2 (lineFollows_kept.step (s.lineFollows_iff.1 follows) h)

end Sys2Proof.Machine
end

/-! ## The current priorities of the calls (R114) -/

section
namespace Sys2Proof.Machine

/-- Every call's current priority is the one of its escalated priority at a node that is evacuating, or is not. -/
def State.Fits (s : State) (evacuating : Bool) : Prop :=
  ∀ i c, s.call i = some c → c.current = currentPriority c.kind c.escalated evacuating

theorem currentPriority_eq (s : State) (kind : CallKind) (escalated : Nat) :
    currentPriority kind escalated s.isEvacuating = if kind = .help ∧ s.ru.evacuating ≠ none then 0 else escalated := by
  have some_ : s.isEvacuating = true ↔ s.ru.evacuating ≠ none := Option.isSome_iff_ne_none
  unfold currentPriority
  simp only [Bool.and_eq_true, decide_eq_true_eq, some_]

theorem State.call_of_mem {s : State} {place : Option Call} (mem : place ∈ s.cc.calls) {c : Call} (here : c ∈ place) :
    ∃ i, s.call i = some c := by
  obtain ⟨i, inside, is⟩ := List.getElem_of_mem mem
  refine ⟨i, ?_⟩
  rw [State.call, List.getD_eq_getElem _ _ inside, is]
  exact here

theorem State.prioritiesFollow_iff (s : State) : s.PrioritiesFollow ↔ s.Fits s.isEvacuating := by
  refine ⟨fun h i c present => ?_, fun h place mem c here => ?_⟩
  · obtain ⟨place, mem, here⟩ := State.call_mem present
    rw [currentPriority_eq]
    exact h place mem c here
  · obtain ⟨i, present⟩ := State.call_of_mem mem here
    rw [← currentPriority_eq]
    exact h i c present

section
variable {u v : State} {e : Bool}

theorem State.Fits.congr (h : u.Fits e) (same : v.cc.calls = u.cc.calls) : v.Fits e := fun i c present =>
  h i c (by rw [State.call, ← same]; exact present)

theorem State.Fits.set (h : u.Fits e) {src : Nat} {place : Option Call}
    (fits : ∀ c, place = some c → c.current = currentPriority c.kind c.escalated e) (calls : v.cc.calls = u.cc.calls.set src place) :
    v.Fits e := fun i c present => by
  rw [State.call, calls, getD_set] at present
  split at present
  · exact fits c present
  · exact h i c present

theorem State.Fits.setCall (h : u.Fits e) (src : Nat) {c : Call} (fits : c.current = currentPriority c.kind c.escalated e) :
    (u.setCall src (some c)).Fits e := h.set (place := some c) (fun d is => by cases is; exact fits) rfl

theorem State.Fits.announce (h : u.Fits e) (src : Nat) : (u.announce src).Fits e := fun i c present => by
  rw [State.announce_call_eq] at present
  split at present
  · obtain ⟨d, stood, rfl⟩ := Option.map_eq_some_iff.1 present
    exact h i d stood
  · exact h i c present

theorem State.Fits.announceEach (h : u.Fits e) (l : List Nat) : (l.foldl State.announce u).Fits e := by
  induction l generalizing u with
  | nil => exact h
  | cons k l ih => exact ih (h.announce k)

theorem State.Fits.recalled (h : u.Fits e) (src : Nat) {c : Call} (fits : c.current = currentPriority c.kind c.escalated e) :
    ((u.setCall src (some c)).announce src).Fits e := (h.setCall src fits).announce src

theorem State.Fits.reportIf (h : u.Fits e) (x : Bool) (k : ReportKind) (a b : Nat) : (u.reportIf x k a b).Fits e :=
  h.congr (by rw [State.reportIf_cc])

theorem State.Fits.raise (h : u.Fits u.isEvacuating) (src : Nat) (kind : CallKind) (base : Nat) :
    (u.raise src kind base).Fits u.isEvacuating := by
  have calls : ∃ c, (u.raise src kind base).cc.calls = u.cc.calls.set src (some c) ∧
      c.current = currentPriority c.kind c.escalated u.isEvacuating := ⟨_, rfl, rfl⟩
  obtain ⟨c, is, fits⟩ := calls
  exact h.set (place := some c) (fun d same => by cases same; exact fits) is

theorem State.Fits.press (h : u.Fits u.isEvacuating) (src : Nat) (kind : CallKind) (base : Nat) :
    (u.press src kind base).Fits u.isEvacuating := by
  unfold State.press
  split
  · exact h.raise src kind base
  · rename_i c present
    split
    · exact h.setCall src (c := { c with reminder := true }) (h src c present)
    · exact h

theorem State.Fits.doorAlarm (h : u.Fits u.isEvacuating) (src : Nat) (kind : CallKind) (priority : Nat) :
    (u.doorAlarm src kind priority).Fits u.isEvacuating := by
  unfold State.doorAlarm
  split
  · exact (h.raise src kind priority).announce src
  · rename_i c present
    dsimp only
    split
    · show (State.reportIf _ _ _ _ _).Fits _
      refine State.Fits.reportIf (State.Fits.recalled h src ?_) _ _ _ _
      rfl
    · refine State.Fits.reportIf (State.Fits.recalled h src ?_) _ _ _ _
      exact h src c present

theorem State.Fits.clearCall (h : u.Fits e) (src by_ : Nat) : (u.clearCall src by_).Fits e := by
  unfold State.clearCall
  split
  · exact h
  · exact h.set (place := none) nofun rfl

theorem CallOp.fits (op : CallOp u v) (h : u.Fits u.isEvacuating) : v.Fits u.isEvacuating := by
  cases op with
  | @clearAsked sender src serial =>
    unfold State.decideClear
    split
    · exact h.congr rfl
    · split
      · split
        · exact (h.announce src).congr rfl
        · exact h.clearCall src sender
      · exact h.announce src
  | @take sender src serial =>
    unfold State.decideTake
    split
    · exact h.congr rfl
    · rename_i c present
      split
      · refine State.Fits.congr (State.Fits.recalled h src ?_) rfl
        exact h src c present
      · exact h.announce src
  | @giveup sender src serial =>
    unfold State.decideGiveup
    split
    · exact h
    · rename_i c present
      split
      · refine State.Fits.congr (State.Fits.recalled h src ?_) rfl
        exact h src c present
      · exact h
  | @press p =>
    have qualified : (u.qualifyPoint p true).Fits u.isEvacuating := h.congr rfl
    exact qualified.press p _ _
  | qualify => exact h.congr rfl
  | key =>
    have turned : (u.setCc { u.cc with keyOn := some true }).Fits u.isEvacuating := h.congr rfl
    unfold State.turnKey
    split
    · exact turned.clearCall _ _
    · split
      · exact turned.clearCall _ _
      · exact turned
  | @unanswered src c present =>
    refine State.Fits.congr (State.Fits.recalled h src ?_) rfl
    rfl
  | @attend src c present =>
    refine State.Fits.congr (State.Fits.recalled h src ?_) rfl
    exact h src c present
  | reannounce => exact h.announce _

theorem DoorOp.fits (op : DoorOp u v) (h : u.Fits u.isEvacuating) : v.Fits u.isEvacuating := by
  cases op with
  | opening =>
    unfold State.openDoor
    dsimp only
    split
    · refine State.Fits.doorAlarm (u := State.report _ _ _ _) ?_ _ _ _
      exact h.congr rfl
    · exact h.congr rfl
  | hold =>
    unfold State.holdDoor
    dsimp only
    split
    · refine State.Fits.doorAlarm (u := State.report _ _ _ _) ?_ _ _ _
      exact h.congr rfl
    · exact h.congr rfl
  | pulse =>
    unfold State.orderPulse
    split <;> exact h.congr rfl
  | _ => exact h.congr rfl

theorem Footprint.fits {c : Instr} (op : Footprint c u v) (h : u.Fits u.isEvacuating) : v.Fits u.isEvacuating := by
  rcases op.cc_cases with same | door | call
  · exact h.congr (by rw [same])
  · exact door.fits h
  · exact call.fits h

end

/-! ### In an event's follow-up -/

theorem followedCall_fits {old s : State} {c : Call} (h : c.current = currentPriority c.kind c.escalated old.isEvacuating) :
    (followedCall old s c).current = currentPriority (followedCall old s c).kind (followedCall old s c).escalated s.isEvacuating := by
  unfold followedCall
  split
  · rename_i same
    rw [← same]
    exact h
  · split
    · rfl
    · rename_i other
      rw [h]
      simp [currentPriority, other]

theorem CallStages.call {old s t x : State} {pressed : List Nat} (h : CallStages old s t x pressed) (i : Nat) :
    x.call i = (s.call i).map (followedCall old x) := by
  rw [State.call, h.calls]
  simp only [State.call, List.getD_eq_getElem?_getD, List.getElem?_map]
  cases s.cc.calls[i]? <;> rfl

theorem faultFollow_fits {old s : State} (h : s.Fits s.isEvacuating) : (faultFollow old s).Fits s.isEvacuating := by
  unfold faultFollow State.pressNodeFault
  split
  · exact h.press _ _ _
  · exact h

theorem settle_fits {u v : State} (h : v.Fits u.isEvacuating) (peer : Option Nat) (pressed : List Nat) :
    (settle u v peer pressed).Fits (settle u v peer pressed).isEvacuating := by
  obtain ⟨x, stage⟩ := settle_callStages u v peer pressed
  generalize settle u v peer pressed = t at stage
  have fits : x.Fits x.isEvacuating := fun i c present => by
    rw [stage.call] at present
    obtain ⟨d, stood, rfl⟩ := Option.map_eq_some_iff.1 present
    exact followedCall_fits (h i d stood)
  have evac := stage.ground.isEvacuating
  have final : (announceFollow u (faultFollow u x) pressed).Fits x.isEvacuating := (faultFollow_fits fits).announceEach _
  rw [← stage.done] at final
  rw [evac]
  exact final

theorem State.fits_of_empty {s : State} (h : ∀ place ∈ s.cc.calls, place = none) {e : Bool} : s.Fits e := fun i c present => by
  obtain ⟨place, mem, here⟩ := State.call_mem present
  rw [h place mem] at here
  cases here

theorem State.leaveLoading_fits (s : State) (img : List Byte) (strap : Mode) :
    (s.leaveLoading img strap).Fits (s.leaveLoading img strap).isEvacuating := by
  have still : (s.leaveLoading img strap).isEvacuating = (s.loaded img strap).reportConfig.isEvacuating := by
    obtain ⟨_, _, _, form⟩ := s.leaveLoading_changes img strap
    rw [form]
    rfl
  rw [still]
  have start : (s.loaded img strap).reportConfig.Fits (s.loaded img strap).reportConfig.isEvacuating :=
    State.fits_of_empty fun _ mem => List.eq_of_mem_replicate mem
  exact (faultFollow_fits start).announceEach _

theorem fits_kept : Kept fun s => s.Fits s.isEvacuating where
  answered a h := by obtain ⟨_, _, rfl⟩ := a; exact h
  moment m h := by obtain ⟨_, _, _, _, rfl⟩ := m; exact h
  pending _ h := h
  restarts _ _ _ _ := State.fits_of_empty fun _ mem => List.eq_of_mem_replicate mem
  loads s bytes strap := s.leaveLoading_fits bytes strap
  follows _ owner h := settle_fits (owner.footprint.fits h) _ _
  alone {c u v} owner h := by
    obtain ⟨_, _, _, _, _, _, _, _, _, rfl⟩ := owner.changes
    exact h

end Sys2Proof.Machine
end

/-! ## The timers of a call, and its announcement at a change of evacuating (R114, R115, R119 to R121) -/

section
namespace Sys2Proof.Machine

/-! ### The expiries -/

section
variable {s : State} {src : Nat} (inside : src < s.cc.calls.length) (c : Call)
include inside

theorem State.unansweredExpire_eq : s.unansweredExpire src c =
    (s.announced src { c with
      escalated := c.escalated - 1
      overdue := true
      current := if c.kind = .help ∧ s.ru.evacuating ≠ none then 0 else c.escalated - 1
      unanswered := some (s.now + s.cl.node.tesc * Config.second) }).report .callOverdue src
        (if c.kind = .help ∧ s.ru.evacuating ≠ none then 0 else c.escalated - 1) := by
  unfold State.unansweredExpire
  dsimp only
  rw [State.announce_setCall inside, currentPriority_eq]
  rfl

theorem State.attendExpire_eq : s.attendExpire src c =
    (s.announced src { c with overdue := true, attend := some (s.now + s.cl.node.tatt * (60 * Config.second)) }).report .callOverdue
      src c.current := by
  unfold State.attendExpire
  dsimp only
  rw [State.announce_setCall inside]
  rfl

end

theorem State.Shaped.call_inside {s : State} (h : s.Shaped) (source : Fin 17) (m : Nat) :
    source.val < (s.reach m).cc.calls.length := by
  show source.val < s.cc.calls.length
  rw [h.calls]
  exact source.2

/-- An expiry of a call's timer that announces the call and reports is followed by nothing. -/
theorem State.callExpiry_running {s : State} (awake : s.awake = true) {src : Nat} {c : Call} (present : s.call src = some c)
    {timer : Call → Timer} {deadline : Nat} (running : timer c = some deadline) {f : State → Call → State}
    (own : CallConsequent (s.reach deadline) (f (s.reach deadline) c)) :
    s.callExpiry src timer f = .next (f (s.reach deadline) c) := by
  unfold State.callExpiry
  rw [present]
  exact (State.expiry_running awake running _).trans (congrArg _ own.settle_eq)

section
variable {s : State} (awake : s.awake = true) (shaped : s.Shaped) {source : Fin 17} {c : Call} (present : s.call source = some c)
  {deadline : Nat}
include awake shaped present

theorem exec_unansweredTimerExpiry (running : c.unanswered = some deadline) (open_ : c.taker = 0) :
    exec (.unansweredTimerExpiry source) s = .next ((s.reach deadline).unansweredExpire source c) := by
  have row : exec (.unansweredTimerExpiry source) s =
      s.callExpiry source (·.unanswered) fun s c => if c.taker = 0 then s.unansweredExpire source c else s := rfl
  have inside := shaped.call_inside source deadline
  rw [row, State.callExpiry_running awake present running, if_pos open_]
  rw [if_pos open_, State.unansweredExpire_eq inside]
  exact (State.announced_callConsequent _ _ _).report _ _ _

theorem exec_attendTimerExpiry (running : c.attend = some deadline) (taken : c.taker ≠ 0) :
    exec (.attendTimerExpiry source) s = .next ((s.reach deadline).attendExpire source c) := by
  have row : exec (.attendTimerExpiry source) s =
      s.callExpiry source (·.attend) fun s c => if c.taker = 0 then s else s.attendExpire source c := rfl
  have inside := shaped.call_inside source deadline
  rw [row, State.callExpiry_running awake present running, if_neg taken]
  rw [if_neg taken, State.attendExpire_eq inside]
  exact (State.announced_callConsequent _ _ _).report _ _ _

end

theorem exec_reannounceTimerExpiry {s : State} (awake : s.awake = true) {source : Fin 17} {c : Call}
    (present : s.call source = some c) {deadline : Nat} (running : c.reannounce = some deadline) :
    exec (.reannounceTimerExpiry source) s = .next ((s.reach deadline).announced source c) := by
  have row : exec (.reannounceTimerExpiry source) s = s.callExpiry source (·.reannounce) fun s _ => s.announce source := rfl
  have announce : (s.reach deadline).announce source = (s.reach deadline).announced source c := State.announce_present present
  rw [row, State.callExpiry_running awake present running, announce]
  rw [announce]
  exact State.announced_callConsequent _ _ _

/-! ### A change of evacuating (R114) -/

/-- A call that stands before and after an event of a node that begins or ceases to evacuate, with another current priority. -/
structure Repriced (s t : State) (source : Nat) (a b : Call) : Prop where
  turns : s.isEvacuating ≠ t.isEvacuating
  before : s.call source = some a
  after : t.call source = some b
  moved : a.current ≠ b.current

/-- What the follow-up of an event leaves of its calls is announced or as it stood. -/
theorem announceFollow_stands (old y : State) (pressed : List Nat) (i : Nat) :
    (announceFollow old y pressed).call i = (y.call i).map y.reannounced ∨ (announceFollow old y pressed).call i = y.call i := by
  unfold announceFollow
  rw [State.announceEach_call_eq]
  split
  · exact .inl rfl
  · exact .inr rfl

theorem settle_repriced {u v : State} {peer : Option Nat} {pressed : List Nat} (shaped : v.cc.Shaped) {source : Nat} {a b : Call}
    {t : State} (settled : settle u v peer pressed = t) (h : Repriced u t source a b) : ∃ c, b = t.reannounced c ∧ Announced t source c := by
  obtain ⟨x, stage⟩ := settle_callStages u v peer pressed
  rw [settled] at stage
  have ranked : x.cc.Shaped := by
    rw [stage.calls]
    refine shaped.withCalls (by rw [List.length_map]; exact shaped.calls) fun place mem c here => ?_
    obtain ⟨p, stood, rfl⟩ := List.mem_map.1 mem
    obtain ⟨d, is, rfl⟩ := Option.map_eq_some_iff.1 here
    exact followedCall_ranked u (shaped.priorities p stood d is)
  have ranked' : (faultFollow u x).cc.Shaped := faultFollow_shaped u ranked
  have evac : (faultFollow u x).isEvacuating = t.isEvacuating := by
    have first := (faultFollow_ground u x).isEvacuating
    have last := stage.ground.isEvacuating
    rw [first, last]
  have call := announceFollow_stands u (faultFollow u x) pressed source
  rw [← stage.done, h.after] at call
  have current : ∃ c, (faultFollow u x).call source = some c ∧ c.current = b.current := by
    rcases call with mapped | same
    · obtain ⟨c, present, rfl⟩ := Option.map_eq_some_iff.1 mapped.symm
      exact ⟨c, present, rfl⟩
    · exact ⟨b, same.symm, rfl⟩
  obtain ⟨c, present, same⟩ := current
  have due : announcementDue u (faultFollow u x) pressed source = true := by
    have turned : repriced u (faultFollow u x) source = true := by
      unfold repriced
      rw [h.before, present]
      show (a.current != c.current) = true
      rw [same]
      exact bne_iff_ne.2 h.moved
    have turns : (u.isEvacuating != (faultFollow u x).isEvacuating) = true := by
      rw [evac]
      exact bne_iff_ne.2 h.turns
    unfold announcementDue
    rw [turned, turns]
    simp
  have announced := announceFollow_announced ranked' present due
  rw [← stage.done] at announced
  refine ⟨c, ?_, announced⟩
  have stands := announced.call
  rw [h.after] at stands
  exact Option.some.inj stands

theorem Repriced.congr {s t s' t' : State} {source : Nat} {a b : Call} (h : Repriced s t source a b)
    (evac : s'.isEvacuating = s.isEvacuating) (call : s'.call source = s.call source) (evac' : t'.isEvacuating = t.isEvacuating)
    (call' : t'.call source = t.call source) : Repriced s' t' source a b :=
  ⟨by rw [evac, evac']; exact h.turns, call.trans h.before, call'.trans h.after, h.moved⟩

theorem Announced.congr {s t : State} {source : Nat} {c : Call} (h : Announced s source c) (call : t.call source = s.call source)
    (opens : t.offersOpen = s.offersOpen) (line : t.lc = s.lc) (now : t.now = s.now) : Announced t source c := by
  refine ⟨?_, fun open_ => ?_⟩
  · rw [call, State.reannounced, State.after, now]
    exact h.call
  · rw [line]
    exact h.held (opens.symm.trans open_)

theorem AtEvent.calls {s u : State} (h : AtEvent s u) : u.cc = s.cc ∧ u.isEvacuating = s.isEvacuating := by
  obtain ⟨_, _, _, _, rfl⟩ := h
  exact ⟨rfl, rfl⟩

theorem Answered.calls {s t : State} (h : Answered s t) :
    t.cc = s.cc ∧ t.isEvacuating = s.isEvacuating ∧ t.offersOpen = s.offersOpen ∧ t.lc = s.lc ∧ t.now = s.now := by
  obtain ⟨_, _, rfl⟩ := h
  exact ⟨rfl, rfl, rfl, rfl, rfl⟩

/-- Restarts leave no call. -/
theorem State.restart_call (s : State) (phase : Phase) (port : Port) (i : Nat) : (s.restart phase port).call i = none := by
  cases present : (s.restart phase port).call i with
  | none => rfl
  | some c =>
    obtain ⟨place, mem, here⟩ := State.call_mem present
    rw [List.eq_of_mem_replicate mem] at here
    cases here

/-- R114, R119: whatever command makes a node evacuate, or cease to, announces every call whose current priority changes by it. -/
theorem exec_repriced {command : Instr} {s t : State} (awake : s.awake = true) (shaped : s.cc.Shaped)
    (h : exec command s = .next t) {source : Nat} {a b : Call} (repriced : Repriced s t source a b) :
    ∃ c, b = t.reannounced c ∧ Announced t source c := by
  cases exec_moves h with
  | @restarts phase port asleep answered =>
    have none_ := repriced.after
    rw [State.call, answered.calls.1, ← State.call, State.restart_call] at none_
    cases none_
  | loads _ loading =>
    unfold State.awake at awake
    rw [loading] at awake
    cases awake
  | @follows u v peer pressed _ moment owner answered =>
    obtain ⟨cc, evac⟩ := moment.calls
    have owned := owner.footprint.calls_shaped (by rw [cc]; exact shaped)
    have settled (w : State) (is : settle u v peer pressed = w) := settle_repriced (source := source) (a := a) (b := b) owned is
    generalize settle u v peer pressed = w at answered settled
    obtain ⟨cc', evac', opens, line, now⟩ := answered.calls
    have call (i : Nat) : u.call i = s.call i := by rw [State.call, cc, ← State.call]
    have call' (i : Nat) : w.call i = t.call i := by rw [State.call, State.call, cc']
    obtain ⟨c, is, announced⟩ := settled w rfl (repriced.congr evac (call source) evac'.symm (call' source))
    refine ⟨c, ?_, announced.congr (call' source).symm opens line now⟩
    rw [is, State.reannounced, State.reannounced, State.after, State.after, now]
  | @alone u v moment owner answered =>
    obtain ⟨cc, evac⟩ := moment.calls
    obtain ⟨cc', evac', -⟩ := answered.calls
    refine absurd ?_ repriced.turns
    rw [← evac, evac']
    obtain ⟨_, _, _, _, _, _, _, _, _, rfl⟩ := owner.changes
    rfl

theorem State.evacuating_turns {s t : State} (h : s.ru.evacuating = none ↔ t.ru.evacuating ≠ none) :
    s.isEvacuating ≠ t.isEvacuating := by
  unfold State.isEvacuating
  cases hs : s.ru.evacuating <;> cases ht : t.ru.evacuating <;> simp_all

/-- Settles O43: the expiries announce their call; the current priorities follow evacuating at every step, and a call that a change of
evacuating reprices is announced. -/
theorem callTimersExpire : Obligations.CallTimersExpire := by
  refine ⟨fun s source c deadline awake shaped present => ⟨fun running open_ => ?_, fun running taken => ?_, fun running => ?_⟩,
    fun s t follows h => ?_, fun command s t source a b awake shaped h turns before after moved => ?_⟩
  · have inside := shaped.call_inside source deadline
    rw [exec_unansweredTimerExpiry awake shaped present running open_, State.unansweredExpire_eq inside]
    rfl
  · have inside := shaped.call_inside source deadline
    rw [exec_attendTimerExpiry awake shaped present running taken, State.attendExpire_eq inside]
    rfl
  · exact exec_reannounceTimerExpiry awake present running
  · exact t.prioritiesFollow_iff.2 (fits_kept.step (s.prioritiesFollow_iff.1 follows) h)
  · obtain ⟨c, rfl, announced⟩ :=
      exec_repriced awake shaped.calls_shaped h ⟨State.evacuating_turns turns, before, after, moved⟩
    refine ⟨rfl, fun run named => ?_⟩
    exact (announced.held (t.offersOpen_iff.2 ⟨run, named⟩)).imp (fun ⟨e, mem, is, _⟩ => ⟨e, mem, is⟩) id

end Sys2Proof.Machine
end

/-! ## The call points (R111 to R113, R116, R119) -/

section
namespace Sys2Proof.Machine

/-! ### The CALL telegram -/

theorem Call.payload_eq (c : Call) (source : Nat) : c.payload source =
    { source := BitVec.ofNat 5 source
      kind := BitVec.ofNat 3 c.kind.code
      serial := BitVec.ofNat 4 c.serial
      priority := BitVec.ofNat 2 c.current
      taken := decide (c.taker ≠ 0)
      overdue := c.overdue
      reminder := c.reminder
      taker := BitVec.ofNat 6 c.taker } := by
  have taken : (c.taker != 0) = decide (c.taker ≠ 0) := by
    by_cases free : c.taker = 0 <;> simp [free]
  rw [← taken]
  rfl

/-! ### A press (R116) -/

section
variable (s : State) (src : Nat) (kind : CallKind) (base : Nat)

/-- A press of a source whose call stands: reminded where it is TAKEN and was not. -/
theorem State.press_standing {c : Call} (present : s.call src = some c) : s.press src kind base =
    if c.taker ≠ 0 ∧ c.reminder = false then
      (s.setCall src (some { c with reminder := true })).report .callReminder src c.taker
    else s := by
  unfold State.press
  rw [present]
  refine if_congr ?_ rfl rfl
  simp

theorem State.press_raises (absent : s.call src = none) : s.press src kind base = s.raise src kind base := by
  unfold State.press
  rw [absent]

variable {s src}

theorem State.press_call (inside : src < s.cc.calls.length) {c : Call} (present : s.call src = some c) :
    (s.press src kind base).call src = some { c with reminder := c.reminder || decide (c.taker ≠ 0) } ∧
      (s.press src kind base).serial src = s.serial src := by
  rw [State.press_standing s src kind base present]
  split
  · rename_i reminds
    refine ⟨(State.setCall_call inside _).trans ?_, rfl⟩
    rw [reminds.2, decide_eq_true reminds.1]
    rfl
  · rename_i still
    refine ⟨present.trans ?_, rfl⟩
    have same : (c.reminder || decide (c.taker ≠ 0)) = c.reminder := by
      by_cases free : c.taker = 0
      · simp [free]
      · cases reminded : c.reminder with
        | true => rfl
        | false => exact absurd ⟨free, reminded⟩ still
    rw [same]

/-- The call that a press raises. -/
def State.raisedCall (s : State) (src : Nat) (kind : CallKind) (base : Nat) : Call :=
  { kind := kind
    base := base
    escalated := base
    current := currentPriority kind base s.isEvacuating
    serial := s.serial src
    taker := 0
    overdue := false
    reminder := false
    unanswered := s.after (s.cl.node.tesc * Config.second)
    attend := none
    reannounce := none }

theorem State.raise_call (calls : src < s.cc.calls.length) (serials : src < s.cc.serials.length) :
    (s.raise src kind base).call src = some (s.raisedCall src kind base) ∧
      (s.raise src kind base).serial src = (s.serial src + 1) % 16 := by
  refine ⟨?_, ?_⟩
  · show (s.cc.calls.set src _).getD src none = _
    rw [getD_set, if_pos ⟨rfl, calls⟩]
    rfl
  · show (s.cc.serials.set src _).getD src 0 = _
    rw [List.getD_eq_getElem _ _ (by rw [List.length_set]; exact serials), List.getElem_set_self]

theorem State.press_apart {i : Nat} (other : i ≠ src) : (s.press src kind base).call i = s.call i := by
  have callOther (place : Option Call) : (s.cc.calls.set src place).getD i none = s.call i := by
    rw [getD_set, if_neg fun h => other h.1.symm]
    rfl
  unfold State.press
  split
  · exact callOther _
  · split
    · exact callOther _
    · rfl

end

/-! ### A pressed source in the follow-up -/

theorem followedCall_eq {old x : State} {c : Call} (fits : c.current = currentPriority c.kind c.escalated old.isEvacuating) :
    followedCall old x c = { c with current := currentPriority c.kind c.escalated x.isEvacuating } := by
  have moved := followedCall_fits (s := x) fits
  unfold followedCall at moved ⊢
  split
  · rename_i same
    rw [if_pos same] at moved
    rw [← moved]
  · split
    · rfl
    · rename_i same other
      rw [if_neg same, if_neg other] at moved
      rw [← moved]

/-- What stands before the first fault member's press keeps the shape of the call table. -/
theorem CallStages.shaped {old s t x : State} {pressed : List Nat} (h : CallStages old s t x pressed) (shaped : s.cc.Shaped) :
    x.cc.Shaped := by
  rw [h.calls]
  refine shaped.withCalls (by rw [List.length_map]; exact shaped.calls) fun place mem c here => ?_
  obtain ⟨p, stood, rfl⟩ := List.mem_map.1 mem
  obtain ⟨d, is, rfl⟩ := Option.map_eq_some_iff.1 here
  exact followedCall_ranked old (shaped.priorities p stood d is)

theorem announceFollow_serials (old s : State) (pressed : List Nat) (i : Nat) :
    (announceFollow old s pressed).serial i = s.serial i := by
  obtain ⟨_, _, form⟩ := announceFollow_changes old s pressed
  rw [form]
  rfl

/-- A pressed source's call is announced with its current priority recomputed. -/
theorem settle_pressed {u v t : State} {peer : Option Nat} {pressed : List Nat} (settled : settle u v peer pressed = t)
    (shaped : v.cc.Shaped) {i : Nat} (other : i ≠ 16) (mem : i ∈ pressed) {c : Call} (present : v.call i = some c)
    (fits : c.current = currentPriority c.kind c.escalated u.isEvacuating) :
    Announced t i { c with current := currentPriority c.kind c.escalated t.isEvacuating } ∧ t.serial i = v.serial i := by
  obtain ⟨x, stage⟩ := settle_callStages u v peer pressed
  rw [settled] at stage
  have call := faultFollow_call u (s := x) other
  have serial := (faultFollow_other u x i other).2
  have evac : x.isEvacuating = t.isEvacuating := stage.ground.isEvacuating.symm
  have stands : (faultFollow u x).call i = some { c with current := currentPriority c.kind c.escalated t.isEvacuating } := by
    rw [call, stage.call, present, Option.map_some, followedCall_eq fits, evac]
  have due : announcementDue u (faultFollow u x) pressed i = true := by
    unfold announcementDue
    rw [List.contains_iff_mem.2 mem]
    rfl
  have announced := announceFollow_announced (faultFollow_shaped u (stage.shaped shaped)) stands due
  have serials := announceFollow_serials u (faultFollow u x) pressed i
  rw [← stage.done] at announced serials
  refine ⟨announced, serials.trans (serial.trans ?_)⟩
  rw [State.serial, State.serial, stage.calls]

/-! ### The rows -/

theorem State.point_qualified {s : State} (shaped : s.Shaped) (p : Fin 8) (active : Bool) :
    (s.qualifyPoint p active).point p = { s.point p with input := some active } := by
  have inside : p.1 < s.cc.points.length := by rw [shaped.points]; exact p.2
  show (s.cc.points.set p _).getD p _ = _
  rw [List.getD_eq_getElem _ _ (by rw [List.length_set]; exact inside), List.getElem_set_self]

/-- A command that presses a used point (R111; a FIRE point that is ACTIVE already is not pressed: log 12). -/
def State.pressedBy (s : State) (p : Fin 8) (command : Instr) : Prop :=
  (command = .callPointPress p ∧ ¬((s.point p).kind = .fire ∧ (s.point p).input = some true)) ∨
    (command = .firePointLevelChange p true ∧
      ((s.point p).input = some false ∨ ((s.point p).input = none ∧ (s.point p).level = true)))

theorem Point.fireActive_iff (p : Point) : p.fireActive = true ↔ p.kind = .fire ∧ p.input = some true := by
  simp [Point.fireActive]

theorem Point.pressedBy_iff (p : Point) (active : Bool) : p.pressedBy active = true ↔
    active = true ∧ (p.input = some false ∨ (p.input = none ∧ p.level = true)) := by
  simp [Point.pressedBy]

theorem exec_press {s : State} {p : Fin 8} {command : Instr} (awake : s.awake = true) (used : (s.point p).kind ≠ .unused)
    (pressed : s.pressedBy p command) :
    exec command s = .next (settle s ((s.qualifyPoint p true).pressPoint p) none [p.val]) := by
  rw [← State.pressEvent_awake awake]
  rcases pressed with ⟨rfl, free⟩ | ⟨rfl, inactive⟩
  · have row : exec (.callPointPress p) s =
        if (s.point p).kind = .unused || (s.point p).fireActive then .next s else s.pressEvent p := rfl
    have idle : ¬(decide ((s.point p).kind = .unused) || (s.point p).fireActive) = true := by
      rw [Bool.or_eq_true, Point.fireActive_iff, decide_eq_true_iff]
      exact fun h => h.elim used free
    rw [row, if_neg idle]
  · have row : exec (.firePointLevelChange p true) s =
        if (s.point p).kind = .unused then .next s
        else if (s.point p).pressedBy true then s.pressEvent p else s.event fun s => s.qualifyPoint p true := rfl
    rw [row, if_neg used, if_pos ((Point.pressedBy_iff _ _).2 ⟨rfl, inactive⟩)]

/-- A qualified value that is no press (R111). -/
theorem exec_qualify {s : State} {p : Fin 8} {active : Bool} (awake : s.awake = true) (used : (s.point p).kind ≠ .unused)
    (idle : ¬(s.point p).pressedBy active = true) :
    exec (.firePointLevelChange p active) s = .next (settle s (s.qualifyPoint p active) none []) := by
  have row : exec (.firePointLevelChange p active) s =
      if (s.point p).kind = .unused then .next s
      else if (s.point p).pressedBy active then s.pressEvent p else s.event fun s => s.qualifyPoint p active := rfl
  rw [row, if_neg used, if_neg idle]
  exact State.event_awake awake _

/-- The input of a point that is no FIRE point is read by no other block. -/
theorem State.qualify_sameInputs {s : State} {p : Fin 8} (other : (s.point p).kind ≠ .fire) (active : Bool) :
    SameInputs s (s.qualifyPoint p active) := by
  refine ⟨rfl, rfl, rfl, rfl, rfl, rfl, ?_, rfl, rfl⟩
  have still (x : Point) (kind : x.kind ≠ .fire) : x.fireActive = false := by
    simp [Point.fireActive, kind]
  show (s.cc.points.set p _).map (·.fireActive) = s.cc.points.map (·.fireActive)
  rw [List.map_set]
  refine List.ext_getElem (by rw [List.length_set]) fun i low low' => ?_
  rw [List.getElem_set]
  split
  · rename_i here
    subst here
    have inside : p.val < s.cc.points.length := by rw [List.length_map] at low'; exact low'
    have is : s.point p = s.cc.points[p.val] := List.getD_eq_getElem _ _ inside
    rw [List.getElem_map, ← is, still _ other]
    exact still _ other
  · rfl

theorem settle_qualify {s : State} {p : Fin 8} (other : (s.point p).kind ≠ .fire) (active : Bool) :
    settle s (s.qualifyPoint p active) none [] = s.qualifyPoint p active :=
  settle_idle (State.qualify_sameInputs other active) rfl id

/-- R111, R116, R119: a press of a used point. -/
theorem exec_press_announces {s t : State} {p : Fin 8} {command : Instr} (awake : s.awake = true) (shaped : s.Shaped)
    (follows : s.PrioritiesFollow) (used : (s.point p).kind ≠ .unused) (pressed : s.pressedBy p command)
    (h : exec command s = .next t) :
    let u := s.qualifyPoint p true
    let v := u.press p (s.point p).kind.callKind (s.point p).priority
    Consequent u t ∧ Extends v.ap.reports t.ap.reports ∧ t.serial p = v.serial p ∧
      ∀ c, v.call p = some c → Announced t p { c with current := currentPriority c.kind c.escalated t.isEvacuating } := by
  dsimp only
  rw [exec_press awake used pressed, State.pressPoint, State.point_qualified shaped] at h
  replace h := Host.Outcome.next.inj h
  have shaped' : (s.qualifyPoint p true).Shaped :=
    shaped.withCalls (State.qualifyPoint_shaped shaped.calls_shaped p true) (r := s.ap.reports) rfl
  have stands := State.press_present shaped' (src := p.val) (by omega) (s.point p).kind.callKind (s.point p).priority
  have fits : (s.qualifyPoint p true).Fits s.isEvacuating := (s.prioritiesFollow_iff.1 follows).congr rfl
  have fits' := State.Fits.press (u := s.qualifyPoint p true) fits p (s.point p).kind.callKind (s.point p).priority
  have ranked := State.press_shaped (State.qualifyPoint_shaped shaped.calls_shaped p true) p (s.point p).kind.callKind
    (State.point_ranked shaped.calls_shaped used)
  have consequent := State.press_callConsequent (s.qualifyPoint p true) p (s.point p).kind.callKind (s.point p).priority
  generalize (s.qualifyPoint p true).press p (s.point p).kind.callKind (s.point p).priority = v at h fits' ranked consequent stands ⊢
  have follow := settle_consequent s v none [p.val]
  have reports := settle_extends s v none [p.val]
  have announces (c : Call) (present : v.call p = some c) :=
    settle_pressed h ranked (Nat.ne_of_lt (Nat.lt_trans p.2 (by omega))) (List.mem_singleton.2 rfl) present (fits' p c present)
  rw [h] at follow reports
  obtain ⟨c, present⟩ := stands
  exact ⟨consequent.consequent.trans follow, reports, (announces c present).2, fun c present => (announces c present).1⟩

end Sys2Proof.Machine
end

/-! ## The node-fault call (R118) -/

section
namespace Sys2Proof.Machine

/-! ### The stuck line as the first fault member -/

theorem State.report_announce (s : State) (k : ReportKind) (a b src : Nat) :
    (s.report k a b).announce src = (s.announce src).report k a b := by
  unfold State.announce
  have same : (s.report k a b).call src = s.call src := rfl
  rw [same]
  cases s.call src <;> rfl

/-- The press and the announcement of the node-fault call where it stands. -/
theorem State.pressNodeFault_standing {u : State} (inside : 16 < u.cc.calls.length) {c : Call} (present : u.call 16 = some c) :
    u.pressNodeFault.announce 16 =
      (u.announced 16 { c with reminder := c.reminder || decide (c.taker ≠ 0) }).reportIf
        (decide (c.taker ≠ 0) && !c.reminder) .callReminder 16 c.taker := by
  rw [State.pressNodeFault, State.press_standing u 16 .fault 2 present]
  split
  · rename_i reminds
    obtain ⟨taken, fresh⟩ := reminds
    rw [State.report_announce, State.announce_setCall inside, fresh, decide_eq_true taken]
    rfl
  · rename_i still
    have same : (c.reminder || decide (c.taker ≠ 0)) = c.reminder ∧ (decide (c.taker ≠ 0) && !c.reminder) = false := by
      by_cases free : c.taker = 0
      · simp [free]
      · cases reminded : c.reminder with
        | true => simp
        | false => exact absurd ⟨free, reminded⟩ still
    rw [State.announce_present present, same.1, same.2]
    rfl

/-- The line controller in a stuck period. -/
def LineController.stuck (lc : LineController) : LineController :=
  { lc with stuckPeriod := true, lineStuck := true, stuckClear := none }

theorem State.stuckBegin_eq (s : State) :
    s.stuckBegin = State.reportIf { s with lc := s.lc.stuck } (!s.lc.lineStuck) .lineStuck 0xFFFF 1 := rfl

section
variable {s : State} (awake : s.awake = true) (shaped : s.Shaped)
include awake

theorem exec_stuckPeriodStart_idle (fault : s.hasFault = true) : exec .stuckPeriodStart s = .next s.stuckBegin := by
  rw [exec_stuckPeriodStart awake, State.stuckBegin_eq]
  exact congrArg _ (settle_line_idle (lc := s.lc.stuck) (fun _ => fault) _ _ _ _)

include shaped in
theorem exec_stuckPeriodStart_fault (calm : s.hasFault = false) :
    exec .stuckPeriodStart s = .next (s.stuckBegin.pressNodeFault.announce 16) := by
  have inputs := SameInputs.of_line_report s s.lc.stuck (!s.lc.lineStuck) .lineStuck 0xFFFF 1
  have shaped' := shaped.of_line_report s.lc.stuck (!s.lc.lineStuck) .lineStuck 0xFFFF 1
  have fault : s.stuckBegin.hasFault = true := by
    rw [State.stuckBegin_eq, State.hasFault_reportIf]
    exact State.hasFault_of_line (.inl rfl)
  obtain ⟨r, form⟩ := State.reportIf_changes { s with lc := s.lc.stuck } (!s.lc.lineStuck) .lineStuck 0xFFFF 1
  rw [← State.stuckBegin_eq] at inputs shaped' form
  rw [exec_stuckPeriodStart awake]
  exact congrArg _ (settle_firstFault inputs (by rw [form]) shaped' calm fault)

end

/-! ### Whatever command sets the first fault member -/

theorem AtEvent.hasFault {s u : State} (h : AtEvent s u) : u.hasFault = s.hasFault := by
  obtain ⟨_, _, _, _, rfl⟩ := h
  rfl

/-- The call and the serial number of the node-fault source stand. -/
def SameNodeCall (u v : State) : Prop := v.call 16 = u.call 16 ∧ v.serial 16 = u.serial 16

theorem State.doorAlarm_apart (s : State) {src i : Nat} (other : i ≠ src) (kind : CallKind) (priority : Nat) :
    (s.doorAlarm src kind priority).call i = s.call i ∧ (s.doorAlarm src kind priority).serial i = s.serial i := by
  have callOther (place : Option Call) : (s.setCall src place).call i = s.call i := by
    show (s.cc.calls.set src place).getD i none = _
    rw [getD_set, if_neg fun h => other h.1.symm]
    rfl
  have announced (u : State) : (u.announce src).call i = u.call i ∧ (u.announce src).serial i = u.serial i := by
    refine ⟨by rw [State.announce_call_eq, if_neg (Ne.symm other)], ?_⟩
    obtain ⟨_, _, form⟩ := u.announce_changes src
    rw [form]
    rfl
  have reported (u : State) (x : Bool) (k : ReportKind) (a b : Nat) :
      (u.reportIf x k a b).call i = u.call i ∧ (u.reportIf x k a b).serial i = u.serial i := by
    rw [State.call, State.serial, State.reportIf_cc]
    exact ⟨rfl, rfl⟩
  unfold State.doorAlarm
  split
  · rename_i absent
    obtain ⟨call, serial⟩ := announced (s.raise src kind priority)
    have raised : s.press src kind priority = s.raise src kind priority := State.press_raises s src kind priority absent
    rw [call, serial, ← raised]
    exact ⟨State.press_apart kind priority other, (s.press_other src kind priority i (Ne.symm other)).2⟩
  · rename_i c present
    dsimp only
    split
    · show (State.reportIf _ _ _ _ _).call i = _ ∧ (State.reportIf _ _ _ _ _).serial i = _
      rw [(reported _ _ _ _ _).1, (reported _ _ _ _ _).2, (announced _).1, (announced _).2, callOther]
      exact ⟨rfl, rfl⟩
    · rw [(reported _ _ _ _ _).1, (reported _ _ _ _ _).2, (announced _).1, (announced _).2, callOther]
      exact ⟨rfl, rfl⟩

theorem DoorOp.sameNodeCall {u v : State} (op : DoorOp u v) : SameNodeCall u v := by
  cases op with
  | @opening d =>
    unfold State.openDoor
    dsimp only
    split
    · exact State.doorAlarm_apart (State.report _ _ _ _) (by omega) _ _
    · exact ⟨rfl, rfl⟩
  | @hold d =>
    unfold State.holdDoor
    dsimp only
    split
    · exact State.doorAlarm_apart (State.report _ _ _ _) (by omega) _ _
    · exact ⟨rfl, rfl⟩
  | pulse => unfold State.orderPulse; split <;> exact ⟨rfl, rfl⟩
  | _ => exact ⟨rfl, rfl⟩

/-- What reads no fault member sees nothing of offers. -/
theorem LineOffers.flags {a b : LineController} (h : LineOffers a b) : b.lineStuck = a.lineStuck ∧ b.lineNoisy = a.lineNoisy ∧
    b.collision = a.collision ∧ b.duplicateId = a.duplicateId := by
  obtain ⟨offered, last, rfl⟩ := h
  obtain ⟨_, _, _, k⟩ := a.offerAll_keeps offered
  rw [k]
  exact ⟨rfl, rfl, rfl, rfl⟩

theorem CallOp.hasFault {u v : State} (op : CallOp u v) : v.hasFault = u.hasFault := by
  obtain ⟨stuck, noisy, collision, duplicate⟩ := op.line.flags
  obtain ⟨_, _, _, rfl⟩ := op.changes
  unfold State.hasFault State.faultMembers
  rw [stuck, noisy, collision, duplicate]

/-- An operation of the call controller leaves the node-fault call, or the points, as they are. -/
theorem CallOp.node_or_points {u v : State} (op : CallOp u v) : SameNodeCall u v ∨ v.cc.points = u.cc.points := by
  cases op with
  | @clearAsked a b c => obtain ⟨_, _, _, _, form⟩ := u.decideClear_changes a b c; rw [form]; exact .inr rfl
  | @take a b c => obtain ⟨_, _, _, form⟩ := u.decideTake_changes a b c; rw [form]; exact .inr rfl
  | @giveup a b c => obtain ⟨_, _, _, form⟩ := u.decideGiveup_changes a b c; rw [form]; exact .inr rfl
  | @press p =>
    have other : 16 ≠ p.val := by omega
    exact .inl ⟨State.press_apart _ _ other, (State.press_other _ _ _ _ _ (Ne.symm other)).2⟩
  | qualify => exact .inl ⟨rfl, rfl⟩
  | key =>
    obtain ⟨_, _, _, _, form⟩ := State.turnKey_changes (u.setCc { u.cc with keyOn := some true })
    rw [form]
    exact .inr rfl
  | @unanswered src =>
    obtain ⟨_, _, form⟩ := State.announce_changes (u.setCall src _) src
    exact .inr (by rw [State.unansweredExpire, form]; rfl)
  | @attend src =>
    obtain ⟨_, _, form⟩ := State.announce_changes (u.setCall src _) src
    exact .inr (by rw [State.attendExpire, form]; rfl)
  | @reannounce src =>
    obtain ⟨_, _, form⟩ := u.announce_changes src
    rw [form]
    exact .inr rfl

theorem CallOp.sameInputs {u v : State} (op : CallOp u v) (points : v.cc.points = u.cc.points) : SameInputs u v := by
  obtain ⟨_, _, _, rfl⟩ := op.changes
  exact ⟨rfl, rfl, rfl, rfl, rfl, rfl, congrArg (List.map Point.fireActive) points, rfl, rfl⟩

/-- A follow-up is handed a neighbour or a press by a STATE or by a press alone. -/
theorem Owns.handed {c : Instr} {u v : State} {peer : Option Nat} {pressed : List Nat} (o : Owns c u v peer pressed) :
    (peer = none ∧ pressed = []) ∨ SameNodeCall u v := by
  cases o with
  | @state _ src p =>
    obtain ⟨_, _, _, _, form⟩ := (u.takeState src.toNat p).adopt_changes src.toNat p
    obtain ⟨_, _, form'⟩ := u.takeState_changes src.toNat p
    rw [form, form']
    exact .inr ⟨rfl, rfl⟩
  | @press _ _ p =>
    have other : 16 ≠ p.val := by omega
    exact .inr ⟨State.press_apart _ _ other, (State.press_other _ _ _ _ _ (Ne.symm other)).2⟩
  | _ => exact .inl ⟨rfl, rfl⟩

/-- An event that brings up a first fault member does not itself touch the node-fault call. -/
theorem Owns.sameNodeCall {c : Instr} {u v : State} {peer : Option Nat} {pressed : List Nat} (o : Owns c u v peer pressed)
    (calm : u.hasFault = false) (fault : (settle u v peer pressed).hasFault = true) : SameNodeCall u v := by
  rcases o.handed with ⟨rfl, rfl⟩ | same
  · rcases o.footprint.cc_cases with same | door | call
    · exact ⟨congrArg (·.calls.getD 16 none) same, congrArg (·.serials.getD 16 0) same⟩
    · exact door.sameNodeCall
    · rcases call.node_or_points with same | points
      · exact same
      · have still := (settle_callConsequent (call.sameInputs points)).hasFault
        rw [still, call.hasFault, calm] at fault
        cases fault
  · exact same

/-! ### The call of a first fault member -/

/-- The follow-up of an event that brings up a first fault member: `x` stands before the press of the node-fault call. -/
structure FaultStages (v t x : State) (pressed : List Nat) : Prop where
  ground : SameGround x t
  queue : Extends v.ap.reports x.ap.reports
  last : Extends x.pressNodeFault.ap.reports t.ap.reports
  serial : t.serial 16 = x.pressNodeFault.serial 16
  announced : ∀ c, x.pressNodeFault.call 16 = some c → Announced t 16 c

theorem settle_faultStages {u v t : State} {peer : Option Nat} {pressed : List Nat} (settled : settle u v peer pressed = t)
    (shaped : v.cc.Shaped) (calm : u.hasFault = false) (fault : t.hasFault = true) :
    ∃ x, CallStages u v t x pressed ∧ FaultStages v t x pressed := by
  obtain ⟨x, stage⟩ := settle_callStages u v peer pressed
  rw [settled] at stage
  have follows := (faultFollow_callConsequent u x).trans (announceFollow_callConsequent u (faultFollow u x) pressed)
  have risen : x.hasFault = true := by
    rw [← follows.hasFault, ← stage.done]
    exact fault
  have pressed_ := faultFollow_rises calm risen
  have announces (c : Call) (present : x.pressNodeFault.call 16 = some c) :
      Announced (announceFollow u (faultFollow u x) pressed) 16 c := by
    have shaped' := faultFollow_shaped u (stage.shaped shaped)
    rw [← pressed_] at present
    refine announceFollow_announced shaped' present ?_
    unfold announcementDue
    rw [(faultFollow_callConsequent u x).hasFault, risen, calm]
    simp
  have serial := announceFollow_serials u (faultFollow u x) pressed 16
  have last := announceFollow_extends u (faultFollow u x) pressed
  rw [← stage.done] at announces serial last
  rw [pressed_] at serial last
  exact ⟨x, stage, stage.ground, stage.queue, last, serial, announces⟩

/-- A call raised for the first fault member. -/
theorem settle_raises {u v t : State} {peer : Option Nat} {pressed : List Nat} (settled : settle u v peer pressed = t)
    (shaped : v.cc.Shaped) (calm : u.hasFault = false) (fault : t.hasFault = true) (absent : v.call 16 = none) :
    t.serial 16 = (v.serial 16 + 1) % 16 ∧ Reported v .callRaised 16 (5 * 256 + 2) t ∧
      Announced t 16
        { kind := .fault
          base := 2
          escalated := 2
          current := currentPriority .fault 2 t.isEvacuating
          serial := v.serial 16
          taker := 0
          overdue := false
          reminder := false
          unanswered := some (t.now + t.cl.node.tesc * Config.second)
          attend := none
          reannounce := none } := by
  obtain ⟨x, stage, done⟩ := settle_faultStages settled shaped calm fault
  have absent' : x.call 16 = none := by rw [stage.call, absent]; rfl
  have raises : x.pressNodeFault = x.raise 16 .fault 2 := State.press_raises x 16 .fault 2 absent'
  have shaped' := stage.shaped shaped
  obtain ⟨call, serial⟩ := State.raise_call (s := x) (src := 16) .fault 2 (by rw [shaped'.calls]; omega)
    (by rw [shaped'.serials]; omega)
  have serials : x.serial 16 = v.serial 16 := by rw [State.serial, State.serial, stage.calls]
  obtain ⟨-, -, last, serial', announces⟩ := done
  rw [raises] at last serial' announces
  refine ⟨by rw [serial', serial, serials], ⟨x.ap.reports, stage.queue, ?_⟩, ?_⟩
  · rw [stage.ground.now]
    exact last
  · have announced := announces _ call
    rw [State.raisedCall, State.after, ← stage.ground.now, ← stage.ground.cl, ← stage.ground.isEvacuating, serials] at announced
    exact announced

/-- A standing node-fault call is reminded, or left as it is, and announced. -/
theorem settle_reminds {u v t : State} {peer : Option Nat} {pressed : List Nat} (settled : settle u v peer pressed = t)
    (shaped : v.cc.Shaped) (fits : v.Fits u.isEvacuating) (calm : u.hasFault = false) (fault : t.hasFault = true) {c : Call}
    (present : v.call 16 = some c) :
    t.serial 16 = v.serial 16 ∧ (c.taker ≠ 0 → c.reminder = false → Reported v .callReminder 16 c.taker t) ∧
      Announced t 16 { c with
        reminder := c.reminder || decide (c.taker ≠ 0)
        current := currentPriority c.kind c.escalated t.isEvacuating } := by
  obtain ⟨x, stage, done⟩ := settle_faultStages settled shaped calm fault
  have shaped' := stage.shaped shaped
  have present' : x.call 16 = some { c with current := currentPriority c.kind c.escalated x.isEvacuating } := by
    rw [stage.call, present, Option.map_some, followedCall_eq (fits 16 c present)]
  obtain ⟨call, serial⟩ := State.press_call (s := x) (src := 16) .fault 2 (by rw [shaped'.calls]; omega) present'
  have serials : x.serial 16 = v.serial 16 := by rw [State.serial, State.serial, stage.calls]
  have standing := State.press_standing x 16 .fault 2 present'
  obtain ⟨-, -, last, serial', announces⟩ := done
  refine ⟨serial'.trans (serial.trans serials), fun taken fresh => ⟨x.ap.reports, stage.queue, ?_⟩, ?_⟩
  · rw [State.pressNodeFault, standing, if_pos ⟨taken, fresh⟩] at last
    rw [stage.ground.now]
    exact last
  · rw [stage.ground.isEvacuating]
    exact announces _ call

end Sys2Proof.Machine
end

/-! ## Presses and the first fault member, whatever command brings them (R111 to R119) -/

section
namespace Sys2Proof.Machine

/-- An owner's change alone brings up no fault member. -/
theorem Alone.hasFault {c : Instr} {u v : State} (h : Alone c u v) (fault : v.hasFault = true) : u.hasFault = true := by
  have channels := h.map_channels Channel.members fun _ _ => rfl
  have line {lc : LineController} (offers : LineOffers u.lc lc) : ({ u with lc := lc } : State).hasFault = u.hasFault := by
    obtain ⟨stuck, noisy, collision, duplicate⟩ := offers.flags
    simp only [State.hasFault, State.faultMembers, stuck, noisy, collision, duplicate]
  cases h with
  | @grant _ n choice =>
    cases choice with
    | none => exact fault
    | some c => exact (State.hasFault_setDs (s := u) channels).symm.trans fault
  | contend =>
    rw [State.setLc, LineController.begin] at fault
    cases queue : u.lc.queue with
    | nil => rw [queue] at fault; exact fault
    | cons e rest => rw [queue] at fault; exact fault
  | stuckEnd =>
    unfold State.stuckEnd at fault
    split at fault
    · exact fault
    · exact fault
  | @offer _ _ body cls => exact (line (u.offer_line body cls)).symm.trans fault
  | @relist _ _ body cls => exact (line (u.offer_line body cls)).symm.trans fault
  | pulse _ low used => exact (hasFault_setDoor (s := u) ((Door.drive_jammed _ _ _).trans (Door.grant_jammed _ _)) u.now).symm.trans fault
  | clearLamps =>
    rw [State.clearLamps, State.hasFault_reportIf] at fault
    have signs : (u.sd.signs.map fun g => { g with fault := false }).any (·.fault) = false := by simp
    have strips : (u.sd.strips.map fun p => { p with latch := none }).any (·.latch.isSome) = false := by simp
    simp only [State.hasFault, State.faultMembers, State.setSd, List.any_cons, List.any_nil, Bool.or_eq_true, signs, strips,
      Bool.false_eq_true, false_or] at fault ⊢
    tauto
  | still | lose | readNode | readReport | extendWalk => exact fault

/-! ### As the statement writes it -/

/-- Call `c` announced at `t`, its current priority recomputed there, its timer started at `now` (R56, R114, R119). -/
def AnnouncedAt (t : State) (source now : Nat) (c : Call) : Prop :=
  t.call source = some { c with
      current := if c.kind = .help ∧ t.ru.evacuating ≠ none then 0 else c.escalated
      reannounce := some (now + (if c.taker = 0 then 16 else 32) * Config.second) } ∧
    (t.running = true → t.nodeId ≠ 0 →
      (∃ c', t.call source = some c' ∧ ∃ e ∈ t.lc.queue, e.body = .call (c'.payload source)) ∨ t.lc.queueDiscard = true)

theorem Announced.at {t : State} {source : Nat} {c : Call}
    (h : Announced t source { c with current := currentPriority c.kind c.escalated t.isEvacuating }) {now : Nat} (time : t.now = now) :
    AnnouncedAt t source now c := by
  rw [currentPriority_eq] at h
  refine ⟨?_, fun run named => ?_⟩
  · rw [← time]
    exact h.call
  · exact (h.held (t.offersOpen_iff.2 ⟨run, named⟩)).imp (fun ⟨e, mem, is, _⟩ => ⟨_, h.call, e, mem, is⟩) id

theorem Answered.after {s t : State} (h : Answered s t) :
    t.cc = s.cc ∧ t.now = s.now ∧ t.cl = s.cl ∧ t.ru = s.ru ∧ t.lc = s.lc ∧ t.ap.reports = s.ap.reports := by
  obtain ⟨_, _, rfl⟩ := h
  exact ⟨rfl, rfl, rfl, rfl, rfl, rfl⟩

theorem AnnouncedAt.congr {s t : State} {source now : Nat} {c : Call} (h : AnnouncedAt s source now c) (answered : Answered s t) :
    AnnouncedAt t source now c := by
  obtain ⟨_, _, rfl⟩ := answered
  exact h

/-- R118: whatever command sets the first fault member. -/
theorem exec_firstFault {command : Instr} {s t : State} (awake : s.awake = true) (awake' : t.awake = true) (shaped : s.Shaped)
    (follows : s.PrioritiesFollow) (h : exec command s = .next t) (calm : s.hasFault = false) (fault : t.hasFault = true) :
    (s.call 16 = none →
      t.serial 16 = (s.serial 16 + 1) % 16 ∧ Reported s .callRaised 16 (5 * 256 + 2) t ∧
        AnnouncedAt t 16 t.now
          { kind := .fault
            base := 2
            escalated := 2
            current := 2
            serial := s.serial 16
            taker := 0
            overdue := false
            reminder := false
            unanswered := some (t.now + s.cl.node.tesc * Config.second)
            attend := none
            reannounce := none }) ∧
      ∀ c, s.call 16 = some c →
        t.serial 16 = s.serial 16 ∧ (c.taker ≠ 0 → c.reminder = false → Reported s .callReminder 16 c.taker t) ∧
          AnnouncedAt t 16 t.now { c with reminder := c.reminder || decide (c.taker ≠ 0) } := by
  rcases exec_awake awake awake' h with ⟨u, v, peer, pressed, moment, owner, answered⟩ | ⟨u, v, moment, owner, answered⟩
  · obtain ⟨cc, evac⟩ := moment.calls
    have calm' : u.hasFault = false := moment.hasFault.trans calm
    have ranked := owner.footprint.calls_shaped (by rw [cc]; exact shaped.calls_shaped)
    have fits : v.Fits u.isEvacuating := owner.footprint.fits (by
      rw [evac]
      exact (s.prioritiesFollow_iff.1 follows).congr (by rw [cc]))
    have node : (settle u v peer pressed).cl.node = s.cl.node := by
      rw [settle_node owner.footprint, moment.testing.2.2.2.2.2.1]
    have queue := moment.queue.trans owner.footprint.extends
    have same := owner.sameNodeCall (peer := peer) (pressed := pressed) calm'
    have raises (w : State) (settled : settle u v peer pressed = w) := settle_raises settled ranked calm'
    have reminds (w : State) (settled : settle u v peer pressed = w) (fault : w.hasFault = true) {c : Call} :=
      settle_reminds (c := c) settled ranked fits calm' fault
    rw [answered.hasFault] at fault
    generalize settle u v peer pressed = w at answered node same raises reminds fault
    obtain ⟨call, serial⟩ := same fault
    have call' : v.call 16 = s.call 16 := call.trans (by rw [State.call, cc, ← State.call])
    have serial' : v.serial 16 = s.serial 16 := serial.trans (by rw [State.serial, cc, ← State.serial])
    obtain ⟨ccT, now, -, -, -, reports⟩ := answered.after
    have serialT : t.serial 16 = w.serial 16 := by rw [State.serial, State.serial, ccT]
    have reported {k : ReportKind} {a b : Nat} (r : Reported v k a b w) : Reported s k a b t :=
      (r.through queue (.refl _) rfl).congr rfl reports now
    refine ⟨fun absent => ?_, fun c present => ?_⟩
    · obtain ⟨serials, raised, announced⟩ := raises w rfl fault (call'.trans absent)
      rw [node, serial'] at announced
      rw [now]
      exact ⟨by rw [serialT, serials, serial'], reported raised, (announced.at rfl).congr answered⟩
    · obtain ⟨serials, reminded, announced⟩ := reminds w rfl fault (call'.trans present)
      rw [now]
      exact ⟨by rw [serialT, serials, serial'], fun taken fresh => reported (reminded taken fresh),
        (Announced.at (c := { c with reminder := c.reminder || decide (c.taker ≠ 0) }) announced rfl).congr answered⟩
  · have fault' := owner.hasFault (answered.hasFault.symm.trans fault)
    rw [moment.hasFault, calm] at fault'
    cases fault'

/-! ### A press -/

theorem PointKind.callKind_eq (k : PointKind) : k.callKind = match k with
    | .staff => .staff
    | .fire => .fire
    | _ => .help := by
  cases k <;> rfl

/-- R111 to R113, R116, R119: a press of a used point raises its call or leaves it standing, and announces it. -/
theorem exec_press_decided {s t : State} {p : Fin 8} {command : Instr} (awake : s.awake = true) (shaped : s.Shaped)
    (follows : s.PrioritiesFollow) (used : (s.point p).kind ≠ .unused) (pressed : s.pressedBy p command)
    (h : exec command s = .next t) :
    Consequent (s.qualifyPoint p true) t ∧
      (s.call p = none →
        t.serial p = (s.serial p + 1) % 16 ∧
          Reports (s.qualifyPoint p true) .callRaised p ((s.point p).kind.callKind.code * 256 + (s.point p).priority) t ∧
          AnnouncedAt t p s.now
            { kind := (s.point p).kind.callKind
              base := (s.point p).priority
              escalated := (s.point p).priority
              current := (s.point p).priority
              serial := s.serial p
              taker := 0
              overdue := false
              reminder := false
              unanswered := some (s.now + s.cl.node.tesc * Config.second)
              attend := none
              reannounce := none }) ∧
      ∀ c, s.call p = some c →
        t.serial p = s.serial p ∧
          ReportsIf (decide (c.taker ≠ 0) && !c.reminder) (s.qualifyPoint p true) .callReminder p c.taker t ∧
          AnnouncedAt t p s.now { c with reminder := c.reminder || decide (c.taker ≠ 0) } := by
  obtain ⟨consequent, reports, serial, announces⟩ := exec_press_announces awake shaped follows used pressed h
  have now : t.now = s.now := by
    rw [exec_press awake used pressed] at h
    have time := settle_now s ((s.qualifyPoint p true).pressPoint p) none [p.val]
    rw [Host.Outcome.next.inj h] at time
    obtain ⟨_, _, _, form⟩ := (s.qualifyPoint p true).press_changes p ((s.qualifyPoint p true).point p).kind.callKind
      ((s.qualifyPoint p true).point p).priority
    rw [time, State.pressPoint, form]
    rfl
  have calls : p.val < (s.qualifyPoint p true).cc.calls.length := by
    show p.val < s.cc.calls.length
    rw [shaped.calls]
    omega
  have serials : p.val < (s.qualifyPoint p true).cc.serials.length := by
    show p.val < s.cc.serials.length
    rw [shaped.serials]
    omega
  refine ⟨consequent, fun absent => ?_, fun c present => ?_⟩
  · have raises := State.press_raises (s.qualifyPoint p true) p (s.point p).kind.callKind (s.point p).priority absent
    rw [raises] at reports serial announces
    obtain ⟨call, serial'⟩ := State.raise_call (s.point p).kind.callKind (s.point p).priority calls serials
    exact ⟨serial.trans serial', reports, (announces _ call).at now⟩
  · obtain ⟨call, serial'⟩ := State.press_call (s.point p).kind.callKind (s.point p).priority calls present
    have standing := State.press_standing (s.qualifyPoint p true) p (s.point p).kind.callKind (s.point p).priority present
    refine ⟨serial.trans serial', ?_,
      Announced.at (c := { c with reminder := c.reminder || decide (c.taker ≠ 0) }) (announces _ call) now⟩
    have first : ((s.qualifyPoint p true).press p (s.point p).kind.callKind (s.point p).priority).ap.reports =
        ((s.qualifyPoint p true).reportIf (decide (c.taker ≠ 0) && !c.reminder) .callReminder p c.taker).ap.reports := by
      rw [standing]
      by_cases reminds : c.taker ≠ 0 ∧ c.reminder = false
      · rw [if_pos reminds, reminds.2, decide_eq_true reminds.1]
        rfl
      · have quiet : (decide (c.taker ≠ 0) && !c.reminder) = false := by
          rw [Bool.eq_false_iff, Ne, Bool.and_eq_true, Bool.not_eq_true', decide_eq_true_iff]
          exact reminds
        rw [if_neg reminds, quiet]
        rfl
    rw [first] at reports
    exact reports

/-- R111: a qualified value that is no press. -/
theorem Point.not_pressedBy {p : Point} {active : Bool}
    (idle : active = false ∨ p.input = some true ∨ (p.input = none ∧ p.level = false)) : ¬p.pressedBy active = true := by
  rw [Point.pressedBy_iff]
  rintro ⟨rfl, inactive | ⟨unread, level⟩⟩
  · rcases idle with h | h | ⟨h, -⟩
    · cases h
    · rw [inactive] at h; cases h
    · rw [inactive] at h; cases h
  · rcases idle with h | h | ⟨-, h⟩
    · cases h
    · rw [unread] at h; cases h
    · rw [level] at h; cases h

/-- The node-fault call raised and announced, in the terms of the event's begin. -/
theorem State.raise_nodeFault {u : State} (inside : 16 < u.cc.calls.length) {cc : CallController} (calls : u.cc = cc) {now : Nat}
    (time : u.now = now) {cl : Loader} (configuration : u.cl = cl) :
    (u.raise 16 .fault 2).announce 16 =
      (State.announced { u with cc := { cc with serials := cc.serials.set 16 ((cc.serials.getD 16 0 + 1) % 16) } } 16
        { kind := .fault
          base := 2
          escalated := 2
          current := 2
          serial := cc.serials.getD 16 0
          taker := 0
          overdue := false
          reminder := false
          unanswered := some (now + cl.node.tesc * Config.second)
          attend := none
          reannounce := none }).report .callRaised 16 (5 * 256 + 2) := by
  subst calls time configuration
  exact State.raise_announce inside (by nofun) 2

theorem State.stuckBegin_now (s : State) : s.stuckBegin.now = s.now ∧ s.stuckBegin.cl = s.cl := by
  obtain ⟨_, form⟩ := State.reportIf_changes { s with lc := s.lc.stuck } (!s.lc.lineStuck) .lineStuck 0xFFFF 1
  rw [State.stuckBegin_eq, form]
  exact ⟨rfl, rfl⟩

theorem State.Shaped.stuckBegin_calls {s : State} (h : s.Shaped) :
    s.stuckBegin.cc = s.cc ∧ s.stuckBegin.call 16 = s.call 16 ∧ 16 < s.stuckBegin.cc.calls.length := by
  have cc : s.stuckBegin.cc = s.cc := by rw [State.stuckBegin_eq, State.reportIf_cc]
  refine ⟨cc, by rw [State.call, cc, ← State.call], ?_⟩
  rw [cc, h.calls]
  omega

/-- Settles O42: the presses by the follow-up's announcement of a pressed source; the first fault member by that of source 16. -/
theorem callPointInputs : Obligations.CallPointInputs := by
  refine ⟨fun c source => ?_, fun s p command awake shaped follows used pressed => ?_, fun s p active awake => ⟨fun unused => ?_,
    fun used idle => ⟨fun other => ?_, ?_⟩⟩, fun s awake shaped => ⟨?_, fun calm absent => ?_, fun calm c present => ?_⟩,
    fun command s t awake awake' shaped follows h calm fault => ?_⟩
  · rw [Call.payload_eq]
    cases c.kind <;> rfl
  · have done := exec_press awake used pressed
    obtain ⟨consequent, raised, stands⟩ := exec_press_decided awake shaped follows used pressed done
    rw [PointKind.callKind_eq] at raised
    exact ⟨_, done, consequent, raised, stands⟩
  · have level : exec (.firePointLevelChange p active) s = if (s.point p).kind = .unused then .next s
        else if (s.point p).pressedBy active then s.pressEvent p else s.event fun s => s.qualifyPoint p active := rfl
    have press : exec (.callPointPress p) s =
        if (s.point p).kind = .unused || (s.point p).fireActive then .next s else s.pressEvent p := rfl
    rw [level, press, if_pos unused, if_pos (by rw [decide_eq_true unused]; rfl)]
    exact ⟨rfl, rfl⟩
  · rw [exec_qualify awake used (Point.not_pressedBy idle), settle_qualify other]
    rfl
  · exact ⟨_, exec_qualify awake used (Point.not_pressedBy idle), settle_consequent _ _ _ _⟩
  · exact exec_stuckPeriodStart_idle awake
  · obtain ⟨cc, call, inside⟩ := shaped.stuckBegin_calls
    have raises : s.stuckBegin.pressNodeFault = s.stuckBegin.raise 16 .fault 2 :=
      State.press_raises s.stuckBegin 16 .fault 2 (call.trans absent)
    rw [exec_stuckPeriodStart_fault awake shaped calm, raises,
      State.raise_nodeFault inside cc s.stuckBegin_now.1 s.stuckBegin_now.2]
    rfl
  · obtain ⟨-, call, inside⟩ := shaped.stuckBegin_calls
    rw [exec_stuckPeriodStart_fault awake shaped calm, State.pressNodeFault_standing inside (call.trans present)]
    rfl
  · exact exec_firstFault awake awake' shaped follows h calm fault

end Sys2Proof.Machine
end

/-! ## R27's table, read by place -/

section
namespace Sys2Proof.Machine

/-! ### The first of each kind -/

theorem findIdx?_getD {α : Type} {l : List α} {p : α → Bool} {i n : Nat} (d : α) (len : l.length = n) (h : l.findIdx? p = some i) :
    i < n ∧ p (l.getD i d) = true ∧ ∀ j < i, p (l.getD j d) = false := by
  obtain ⟨low, here, before⟩ := List.findIdx?_eq_some_iff_getElem.1 h
  refine ⟨by omega, by rw [List.getD_eq_getElem _ _ low]; exact here, fun j less => ?_⟩
  rw [List.getD_eq_getElem _ _ (by omega)]
  simpa using before j less

/-- The channel at place `i` is of a kind and in alarm. -/
def State.AlarmAt (s : State) (kind : ChannelKind) (i : Nat) : Prop := (s.channel i).cfg.kind = kind ∧ (s.channel i).state = .alarm

/-- The FIRE-kind point at place `p` is active. -/
def State.ActiveAt (s : State) (p : Nat) : Prop := (s.point p).kind = .fire ∧ (s.point p).input = some true

/-- The used slot at place `k` is FRESH and announces SUSPECT or FIRE. -/
def State.AgreesAt (s : State) (k : Nat) : Prop :=
  (s.slot k).id ≠ 0 ∧ (s.slot k).presence = .fresh ∧ ((s.slot k).fire = .suspect ∨ (s.slot k).fire = .fire)

section
variable {s : State} {i : Nat}

theorem State.firstInAlarm_some (len : s.ds.channels.length = 16) {kind : ChannelKind} (h : s.firstInAlarm kind = some i) :
    i < 16 ∧ s.AlarmAt kind i ∧ ∀ j < i, ¬s.AlarmAt kind j := by
  obtain ⟨low, here, before⟩ := findIdx?_getD (Channel.afterRestart .unused) len h
  have at_ (j : Nat) : ((s.channel j).inAlarm && decide ((s.channel j).cfg.kind = kind)) = true ↔ s.AlarmAt kind j := by
    simp [State.AlarmAt, Channel.inAlarm, and_comm]
  exact ⟨low, (at_ i).1 here, fun j less alarm => Bool.eq_false_iff.1 (before j less) ((at_ j).2 alarm)⟩

theorem State.activeFirePoint_some (len : s.cc.points.length = 8) (h : s.activeFirePoint = some i) :
    i < 8 ∧ s.ActiveAt i ∧ ∀ j < i, ¬s.ActiveAt j := by
  obtain ⟨low, here, before⟩ := findIdx?_getD Point.unused len h
  exact ⟨low, (Point.fireActive_iff _).1 here, fun j less active =>
    Bool.eq_false_iff.1 (before j less) ((Point.fireActive_iff _).2 active)⟩

theorem State.agreeingSlot_some (len : s.nt.slots.length = 8) (h : s.agreeingSlot = some i) :
    i < 8 ∧ s.AgreesAt i ∧ ∀ j < i, ¬s.AgreesAt j := by
  obtain ⟨low, here, before⟩ := findIdx?_getD Slot.unused len h
  have at_ (j : Nat) : ((s.slot j).fresh && (decide ((s.slot j).fire = .suspect) || decide ((s.slot j).fire = .fire))) = true ↔
      s.AgreesAt j := by
    simp [State.AgreesAt, Slot.fresh, Slot.used, and_assoc]
  exact ⟨low, (at_ i).1 here, fun j less agrees => Bool.eq_false_iff.1 (before j less) ((at_ j).2 agrees)⟩

theorem first_unique {P : Nat → Prop} {j : Nat} (hi : P i) (before : ∀ k < i, ¬P k) (hj : P j) (before' : ∀ k < j, ¬P k) :
    i = j := by
  rcases Nat.lt_trichotomy i j with less | same | more
  · exact absurd hi (before' i less)
  · exact same
  · exact absurd hj (before j more)

/-- Where no place but `i` holds, at most one is counted. -/
theorem countP_le_one {α : Type} {l : List α} {p : α → Bool} (d : α) (i : Nat)
    (only : ∀ j < l.length, p (l.getD j d) = true → j = i) : l.countP p ≤ 1 := by
  induction l generalizing i with
  | nil => simp
  | cons x l ih =>
    have later (j : Nat) (low : j < l.length) (here : p (l.getD j d) = true) : j + 1 = i :=
      only (j + 1) (by rw [List.length_cons]; omega) here
    rw [List.countP_cons]
    by_cases here : p x = true
    · have zero : i = 0 := (only 0 (by rw [List.length_cons]; omega) here).symm
      have none_ : l.countP p = 0 := List.countP_eq_zero.2 fun y mem holds => by
        obtain ⟨j, low, is⟩ := List.getElem_of_mem mem
        have := later j low (by rw [List.getD_eq_getElem _ _ low, is]; exact holds)
        omega
      rw [none_, if_pos here]
    · rw [if_neg here]
      exact ih (i - 1) fun j low here => by
        have := later j low here
        omega

/-- A second SMOKE channel in alarm, past the first (R27). -/
theorem State.second_iff (len : s.ds.channels.length = 16) (first : s.firstInAlarm .smoke = some i) :
    (∃ j < 16, i < j ∧ s.AlarmAt .smoke j) ↔ 2 ≤ s.smokeAlarms := by
  obtain ⟨low, alarm, before⟩ := State.firstInAlarm_some len first
  constructor
  · rintro ⟨j, low', past, alarm'⟩
    by_contra few
    have := State.smokeAlarm_unique len (by omega) low low' alarm alarm'
    omega
  · intro many
    by_contra lone
    have few : s.smokeAlarms ≤ 1 := countP_le_one (Channel.afterRestart .unused) i fun j low' here => by
      have alarm' : s.AlarmAt .smoke j := by simpa [State.AlarmAt, State.channel, Channel.inAlarm, and_comm] using here
      rcases Nat.lt_trichotomy i j with less | same | more
      · exact absurd ⟨j, by omega, less, alarm'⟩ lone
      · exact same.symm
      · exact absurd alarm' (before j more)
    omega

/-! ### The table -/

/-- R27's table: what is recorded of a FIRE condition, by the first row that holds. -/
structure CauseTable (s : State) (recorded : Cause → Nat → Option Nat → Prop) : Prop where
  smoke : (∀ i < 16, ¬s.AlarmAt .heat i) → (∀ p < 8, ¬s.ActiveAt p) → ∃ i < 16, s.AlarmAt .smoke i
  heat : ∀ i < 16, s.AlarmAt .heat i → (∀ j < i, ¬s.AlarmAt .heat j) → recorded .heat i none
  point : (∀ i < 16, ¬s.AlarmAt .heat i) → ∀ p < 8, s.ActiveAt p → (∀ q < p, ¬s.ActiveAt q) → recorded .point p none
  lone : (∀ i < 16, ¬s.AlarmAt .heat i) → (∀ p < 8, ¬s.ActiveAt p) → ∀ i < 16, s.AlarmAt .smoke i →
    (∀ j < i, ¬s.AlarmAt .smoke j) →
      ((∃ j < 16, i < j ∧ s.AlarmAt .smoke j) → recorded .double i none) ∧
        (¬(∃ j < 16, i < j ∧ s.AlarmAt .smoke j) → ∀ k < 8, s.AgreesAt k → (∀ m < k, ¬s.AgreesAt m) →
          recorded .neighbour i (some k)) ∧
        (¬(∃ j < 16, i < j ∧ s.AlarmAt .smoke j) → (∀ k < 8, ¬s.AgreesAt k) → recorded .delay i none)

section
variable {recorded : Cause → Nat → Option Nat → Prop} (channels : s.ds.channels.length = 16)
include channels

theorem CauseTable.of_heat (heat : s.firstInAlarm .heat = some i) (is : recorded .heat i none) : CauseTable s recorded := by
  obtain ⟨low, alarm, before⟩ := State.firstInAlarm_some channels heat
  exact ⟨fun noHeat => absurd alarm (noHeat i low), fun j _ alarm' before' => first_unique alarm before alarm' before' ▸ is,
    fun noHeat => absurd alarm (noHeat i low), fun noHeat => absurd alarm (noHeat i low)⟩

theorem CauseTable.of_point (points : s.cc.points.length = 8) (heat : s.firstInAlarm .heat = none)
    (point : s.activeFirePoint = some i) (is : recorded .point i none) : CauseTable s recorded := by
  have noHeat := (State.firstInAlarm_none channels).1 heat
  obtain ⟨low, active, before⟩ := State.activeFirePoint_some points point
  exact ⟨fun _ noPoint => absurd active (noPoint i low), fun j low' alarm => absurd alarm (noHeat j low'),
    fun _ p _ active' before' => first_unique active before active' before' ▸ is, fun _ noPoint => absurd active (noPoint i low)⟩

theorem CauseTable.of_smoke (points : s.cc.points.length = 8) (slots : s.nt.slots.length = 8) (heat : s.firstInAlarm .heat = none)
    (point : s.activeFirePoint = none) (smoke : s.firstInAlarm .smoke = some i)
    (double : 2 ≤ s.smokeAlarms → recorded .double i none)
    (neighbour : ¬2 ≤ s.smokeAlarms → ∀ k, s.agreeingSlot = some k → recorded .neighbour i (some k))
    (delay : ¬2 ≤ s.smokeAlarms → s.agreeingSlot = none → recorded .delay i none) : CauseTable s recorded := by
  have noHeat := (State.firstInAlarm_none channels).1 heat
  have noPoint := (State.activeFirePoint_none points).1 point
  obtain ⟨low, alarm, before⟩ := State.firstInAlarm_some channels smoke
  have second := State.second_iff channels smoke
  refine ⟨fun _ _ => ⟨i, low, alarm⟩, fun j low' alarm => absurd alarm (noHeat j low'),
    fun _ p low' active => absurd active.2 (noPoint p low' active.1), fun _ _ j _ alarm' before' => ?_⟩
  obtain rfl := first_unique alarm before alarm' before'
  rw [second]
  refine ⟨double, fun lone k _ agrees first => ?_, fun lone none_ => delay lone ((State.agreeingSlot_none slots).2 none_)⟩
  cases slot : s.agreeingSlot with
  | none => exact absurd agrees ((State.agreeingSlot_none slots).1 slot k (by assumption))
  | some m =>
    obtain ⟨-, agrees', first'⟩ := State.agreeingSlot_some slots slot
    obtain rfl := first_unique agrees' first' agrees first
    exact neighbour lone m slot

end

/-- A FIRE condition found is the first row of the table that holds. -/
theorem CauseTable.of_condition {recorded : Cause → Nat → Option Nat → Prop} (channels : s.ds.channels.length = 16)
    (points : s.cc.points.length = 8) (slots : s.nt.slots.length = 8) {out : Bool} {c : Cause} {a b : Option Nat}
    (found : s.fireCondition out = some (c, a, b)) (is : ∀ j, a = some j → recorded c j b) :
    CauseTable s recorded := by
  unfold State.fireCondition at found
  cases heat : s.firstInAlarm .heat with
  | some i =>
    rw [heat] at found
    cases found
    exact .of_heat channels heat (is i rfl)
  | none =>
    cases point : s.activeFirePoint with
    | some p =>
      rw [heat, point] at found
      cases found
      exact .of_point channels points heat point (is p rfl)
    | none =>
      cases smoke : s.firstInAlarm .smoke with
      | none => rw [heat, point, smoke] at found; cases found
      | some i =>
        rw [heat, point, smoke] at found
        dsimp only at found
        refine .of_smoke channels points slots heat point smoke (fun many => ?_) (fun few k agrees => ?_)
          fun few alone => ?_
        · rw [if_pos many] at found
          cases found
          exact is i rfl
        · rw [if_neg few, agrees] at found
          cases found
          exact is i rfl
        · rw [if_neg few, alone] at found
          dsimp only at found
          split at found
          · cases found
            exact is i rfl
          · cases found

end

end Sys2Proof.Machine
end

/-! ## A change of the gallery fire state (R27, R28, R31) -/

section
namespace Sys2Proof.Machine

/-- What a confirmed FIRE records of the FIRE condition found at `t`. -/
structure Fired (s t : State) (out : Bool) (c : Cause) (a b : Option Nat) : Prop where
  found : t.fireCondition out = some (c, a, b)
  confirm : t.fl.confirm = none
  cause : t.fl.cause = ⟨c, a, b, some (t.now / Config.second)⟩
  reported : Reported s .fireCause (a.getD noSubject) (pack (b.getD 0xFF) c.code) t

/-- The gallery fire state has changed from `s` to `t`, and that is reported; a change to FIRE is recorded. -/
structure GalleryChanged (s t : State) : Prop where
  reported : Reported s .galleryState s.fl.gallery.code t.fl.gallery.code t
  fired : t.fl.gallery = .fire → ∃ out c a b, Fired s t out c a b

/-- What lies before and after a change of the gallery fire state. -/
theorem GalleryChanged.through {r s t u : State} (h : GalleryChanged s t) (gallery : r.fl.gallery = s.fl.gallery)
    (before : Extends r.ap.reports s.ap.reports) (after : Extends t.ap.reports u.ap.reports) (now : u.now = t.now)
    (inputs : u.fireInputs = t.fireInputs) (same : u.fl.gallery = t.fl.gallery)
    (fired : t.fl.gallery = .fire → u.fl.confirm = t.fl.confirm ∧ u.fl.cause = t.fl.cause) : GalleryChanged r u := by
  refine ⟨by rw [gallery, same]; exact h.reported.through before after now, fun fire => ?_⟩
  rw [same] at fire
  obtain ⟨out, c, a, b, f⟩ := h.fired fire
  obtain ⟨confirm, cause⟩ := fired fire
  exact ⟨out, c, a, b, (State.fireCondition_congr inputs out).trans f.found, confirm.trans f.confirm,
    by rw [cause, now]; exact f.cause, f.reported.through before after now⟩

/-! ### An evaluation -/

theorem State.setGallery_reported {s : State} {g : FireState} (other : s.fl.gallery ≠ g) :
    Reported s .galleryState s.fl.gallery.code g.code (s.setGallery g) := by
  rw [State.setGallery, if_neg other]
  exact ⟨s.ap.reports, .refl _, .refl _⟩

theorem State.setGallery_now (s : State) (g : FireState) : (s.setGallery g).now = s.now := by
  unfold State.setGallery
  split <;> rfl

theorem State.confirmFire_changed {s : State} (below : s.fl.gallery ≠ .fire) {out : Bool} {c : Cause} {a b : Option Nat}
    (found : s.fireCondition out = some (c, a, b)) : GalleryChanged s (s.confirmFire c a b) := by
  have inputs : (s.confirmFire c a b).fireInputs = s.fireInputs := by
    obtain ⟨_, _, _, _, form⟩ : ∃ g k t r, s.confirmFire c a b =
        { s with fl := { s.fl with gallery := g, cause := k, confirm := t }, ap := { s.ap with reports := r } } := by
      have := s.evaluate_changes out
      rw [State.evaluate_condition below found] at this
      exact this
    rw [form]
    rfl
  have below' : (s.setFl { s.fl with cause := ⟨c, a, b, some s.seconds⟩ }).fl.gallery ≠ .fire := below
  have changed := State.setGallery_reported below'
  have form : s.confirmFire c a b = ((s.setFl { s.fl with cause := ⟨c, a, b, some s.seconds⟩ }).setGallery .fire).report .fireCause
      (a.getD noSubject) (pack (b.getD 0xFF) c.code) := rfl
  refine ⟨?_, fun _ => ⟨out, c, a, b, (State.fireCondition_congr inputs out).trans found, State.confirmFire_confirm below c a b, ?_,
    ?_⟩⟩
  · rw [State.confirmFire_gallery, form]
    exact changed.through (.refl _) (State.report_extends ..) rfl
  · rw [form, State.setGallery, if_neg below']
    rfl
  · rw [form]
    have queue := State.setGallery_extends (s.setFl { s.fl with cause := ⟨c, a, b, some s.seconds⟩ }) .fire
    exact ⟨((s.setFl { s.fl with cause := ⟨c, a, b, some s.seconds⟩ }).setGallery .fire).ap.reports, queue, .refl _⟩

theorem State.setGallery_changed {s : State} (changed : (s.setGallery s.derivedState).fl.gallery ≠ s.fl.gallery) :
    GalleryChanged s (s.setGallery s.derivedState) := by
  rw [State.setGallery_gallery] at changed
  refine ⟨?_, fun fire => ?_⟩
  · rw [State.setGallery_gallery]
    exact State.setGallery_reported (Ne.symm changed)
  · rw [State.setGallery_gallery] at fire
    exact absurd fire s.derivedState_ne_fire

/-- R26 to R31: an evaluation that changes the gallery fire state. -/
theorem State.evaluate_changed {s : State} {out : Bool} (changed : (s.evaluate out).fl.gallery ≠ s.fl.gallery) :
    GalleryChanged s (s.evaluate out) := by
  by_cases fire : s.fl.gallery = .fire
  · rw [State.evaluate_fire fire] at changed
    exact absurd rfl changed
  · cases found : s.fireCondition out with
    | some row =>
      obtain ⟨c, a, b⟩ := row
      rw [State.evaluate_condition fire found]
      exact State.confirmFire_changed fire found
    | none =>
      have derives : s.evaluate out = s.setGallery s.derivedState := by
        rw [State.evaluate, if_neg fire, found]
      rw [derives] at changed ⊢
      exact State.setGallery_changed changed

theorem walkFollow_now (old s : State) : (walkFollow old s).now = s.now := by
  obtain ⟨_, _, _, _, _, form⟩ := walkFollow_changes old s
  rw [form]

/-- In an event's follow-up. -/
theorem fireFollow_changed {old s : State} (changed : (fireFollow old s).fl.gallery ≠ s.fl.gallery) :
    GalleryChanged s (fireFollow old s) := by
  have walk := walkFollow_gallery old s
  have queue := walkFollow_extends old s
  unfold fireFollow at changed ⊢
  dsimp only at changed ⊢
  split at changed
  · rename_i inputs
    rw [if_pos inputs]
    rw [← walk.1] at changed
    exact (State.evaluate_changed changed).through walk.1.symm queue (.refl _) rfl rfl rfl fun _ => ⟨rfl, rfl⟩
  · exact absurd walk.1 changed

/-! ### The owners that decide the gallery fire state themselves -/

/-- Where no input of an evaluation has moved, none is made. -/
theorem fireFollow_unmoved {old s : State} (channels : s.ds.channels.map (·.state) = old.ds.channels.map (·.state))
    (slots : s.slotFires = old.slotFires) (levels : s.fireLevels = old.fireLevels) (walk : s.fl.walkActive = old.fl.walkActive) :
    fireFollow old s = s := by
  have still : walkFollow old s = s := by simp [walkFollow, levels, slots, risen_self]
  rw [fireFollow, still]
  exact if_neg (by simp [fireInputsChanged, channels, levels, slots, walk])

theorem State.evaluate_same_walk (s : State) (out : Bool) :
    (s.evaluate out).fl.walkActive = s.fl.walkActive ∧ (s.evaluate out).fl.walkTimer = s.fl.walkTimer ∧
      (s.evaluate out).fl.tested = s.fl.tested ∧ (s.evaluate out).fl.lastRecorded = s.fl.lastRecorded ∧
      (s.evaluate out).now = s.now ∧ (s.evaluate out).fireInputs = s.fireInputs := by
  obtain ⟨_, _, _, _, form⟩ := s.evaluate_changes out
  rw [form]
  exact ⟨rfl, rfl, rfl, rfl, rfl, rfl⟩

theorem fireFollow_confirmExpire (u : State) : fireFollow u u.confirmExpire = u.confirmExpire := by
  obtain ⟨_, _, _, _, form⟩ := (u.setFl { u.fl with confirm := none }).evaluate_changes true
  have shape : u.confirmExpire = (u.setFl { u.fl with confirm := none }).evaluate true := rfl
  rw [shape, form]
  exact fireFollow_unmoved rfl rfl rfl rfl

theorem State.confirmExpire_changed {u : State} (changed : u.confirmExpire.fl.gallery ≠ u.fl.gallery) :
    GalleryChanged u u.confirmExpire :=
  (State.evaluate_changed (s := u.setFl { u.fl with confirm := none }) (out := true) changed).through rfl (.refl _) (.refl _) rfl rfl rfl
    fun _ => ⟨rfl, rfl⟩

/-- R33's derivation of the gallery fire state, from `w`. -/
theorem State.acceptReset_from (u : State) (source target : Nat) (clears : Bool) :
    ∃ w : State, u.acceptReset source target clears = (w.setGallery w.derivedState).report .fireReset target source ∧
      w.fl.gallery = u.fl.gallery ∧ w.now = u.now ∧ Extends u.ap.reports w.ap.reports := by
  have started := u.resetStart_started
  have gallery : u.resetStart.fl.gallery = u.fl.gallery := by
    unfold State.resetStart
    dsimp only
    obtain ⟨_, _, latch⟩ := State.clearLatch_changes (((u.setDs { u.ds with channels := u.ds.channels.map .fireReset }).setFl
      { (u.setDs { u.ds with channels := u.ds.channels.map .fireReset }).fl with confirm := none, cause := .clear }).endWalk .reset)
      .reset
    obtain ⟨_, _, _, _, _, walk⟩ := State.endWalk_changes ((u.setDs { u.ds with channels := u.ds.channels.map .fireReset }).setFl
      { (u.setDs { u.ds with channels := u.ds.channels.map .fireReset }).fl with confirm := none, cause := .clear }) .reset
    rw [latch, walk]
    rfl
  have now : u.resetStart.now = u.now := by
    obtain ⟨_, _, form⟩ := started.record
    rw [form]
  cases clears with
  | false => exact ⟨_, u.acceptReset_eq source target false, gallery, now, started.queue⟩
  | true =>
    obtain ⟨_, held⟩ := u.resetStart.clearHeld_changes
    have queue := started.queue.trans u.resetStart.clearHeld_extends
    refine ⟨u.resetStart.clearHeld, u.acceptReset_eq source target true, ?_, ?_, queue⟩
    · rw [held]
      exact gallery
    · rw [held]
      exact now

theorem State.acceptReset_changed {u : State} {source target : Nat} {clears : Bool}
    (changed : (u.acceptReset source target clears).fl.gallery ≠ u.fl.gallery) :
    GalleryChanged u (u.acceptReset source target clears) := by
  obtain ⟨w, form, gallery, now, queue⟩ := u.acceptReset_from source target clears
  rw [form] at changed ⊢
  have moved : (w.setGallery w.derivedState).fl.gallery ≠ w.fl.gallery := by
    rw [gallery]
    exact changed
  have derived := State.setGallery_changed moved
  generalize w.setGallery w.derivedState = y at derived ⊢
  exact derived.through gallery.symm queue (y.report_extends .fireReset target source) rfl rfl rfl fun _ => ⟨rfl, rfl⟩

/-! ### Any event -/

theorem settle_fire (old s : State) (peer : Option Nat) (pressed : List Nat) :
    Extends (fireFollow old s).ap.reports (settle old s peer pressed).ap.reports := by
  simp only [settle]
  refine .trans ?_ (announceFollow_extends old _ pressed)
  refine .trans ?_ (faultFollow_extends old _)
  refine .trans ?_ (stateFollow_extends old _)
  refine .trans ?_ (testFollow_extends old _ peer)
  refine .trans ?_ (signalsFollow_extends old _)
  refine .trans ?_ (callsFollow_extends old _)
  refine .trans ?_ (doorsFollow_extends old _)
  refine .trans ?_ (latchFollow_extends old _)
  refine .trans ?_ (firstStateFollow_extends old _)
  refine .trans ?_ (routeFollow_extends old _)
  exact phaseFollow_extends old _

/-- From the owner's operation with the fire logic's part of the follow-up to the end of the event. -/
theorem GalleryChanged.settled {u v t : State} {peer : Option Nat} {pressed : List Nat} (h : GalleryChanged u (fireFollow u v))
    (settled : settle u v peer pressed = t) : GalleryChanged u t := by
  have fl := settle_fl u v peer pressed
  have inputs := settle_fireInputs u v peer pressed
  have now := settle_now u v peer pressed
  have queue := settle_fire u v peer pressed
  rw [settled] at fl inputs now queue
  obtain ⟨_, _, form⟩ := fireFollow_changes u v
  have time : (fireFollow u v).now = v.now := by rw [form]
  refine h.through rfl (.refl _) queue (now.trans time.symm) (inputs.trans (fireFollow_fireInputs u v).symm) (by rw [fl])
    fun _ => by rw [fl]; exact ⟨rfl, rfl⟩

theorem Footprint.galleryChanged {c : Instr} {u v : State} (op : Footprint c u v)
    (changed : (fireFollow u v).fl.gallery ≠ u.fl.gallery) : GalleryChanged u (fireFollow u v) := by
  rcases op.gallery with ⟨gallery, -, -⟩ | ⟨-, rfl⟩ | ⟨points, source, target, clears, rfl⟩
  · rw [← gallery] at changed
    exact (fireFollow_changed changed).through gallery.symm op.extends (.refl _) rfl rfl rfl fun _ => ⟨rfl, rfl⟩
  · rw [fireFollow_confirmExpire] at changed ⊢
    exact State.confirmExpire_changed changed
  · obtain ⟨settled, -⟩ := State.acceptReset_settled points source target clears
    obtain ⟨-, gallery, confirm⟩ := fireFollow_of_settled (old := u) settled
    have inputs := fireFollow_fireInputs u (u.acceptReset source target clears)
    have queue := fireFollow_extends u (u.acceptReset source target clears)
    obtain ⟨_, _, form⟩ := fireFollow_changes u (u.acceptReset source target clears)
    have now : (fireFollow u (u.acceptReset source target clears)).now = (u.acceptReset source target clears).now := by rw [form]
    rw [gallery] at changed
    refine (State.acceptReset_changed changed).through rfl (.refl _) queue now inputs gallery fun fire => ?_
    obtain ⟨w, is, -⟩ := u.acceptReset_from source target clears
    have below : (u.acceptReset source target clears).fl.gallery ≠ .fire := by
      rw [is]
      show (w.setGallery w.derivedState).fl.gallery ≠ .fire
      rw [State.setGallery_gallery]
      exact w.derivedState_ne_fire
    exact absurd fire below

theorem Answered.fires {s t : State} (h : Answered s t) :
    t.fl = s.fl ∧ t.ap.reports = s.ap.reports ∧ t.now = s.now ∧ t.fireInputs = s.fireInputs := by
  obtain ⟨_, _, rfl⟩ := h
  exact ⟨rfl, rfl, rfl, rfl⟩

/-- R27, R31: whatever command changes the gallery fire state. -/
theorem exec_galleryChanged {c : Instr} {s t : State} (awake : s.awake = true) (awake' : t.awake = true)
    (h : exec c s = .next t) (changed : t.fl.gallery ≠ s.fl.gallery) : GalleryChanged s t := by
  rcases exec_awake awake awake' h with ⟨u, v, peer, pressed, moment, owner, answered⟩ | ⟨u, v, moment, owner, answered⟩
  · obtain ⟨fl, reports, now, inputs⟩ := answered.fires
    have fl' := settle_fl u v peer pressed
    have gallery : u.fl.gallery = s.fl.gallery := by rw [moment.fl]
    have follows : GalleryChanged u (settle u v peer pressed) := by
      refine (owner.footprint.galleryChanged ?_).settled rfl
      rw [← fl', ← fl, gallery]
      exact changed
    generalize settle u v peer pressed = w at answered fl reports now inputs follows
    exact follows.through gallery.symm moment.queue (by rw [reports]; exact .refl _) now inputs (by rw [fl])
      fun _ => by rw [fl]; exact ⟨rfl, rfl⟩
  · refine absurd ?_ changed
    rw [answered.fires.1, owner.fire.2.1, moment.fl]

end Sys2Proof.Machine
end

/-! ## The ends of a walk test (R39), and the fire logic's timers (R28) -/

section
namespace Sys2Proof.Machine

/-! ### What rises -/

theorem risen_iff {old new : List Bool} : risen old new = true ↔ ∃ k, new.getD k false = true ∧ old.getD k false = false := by
  induction new generalizing old with
  | nil =>
    cases old <;> simp [risen]
  | cons n ns ih =>
    have split (P : Nat → Prop) : (∃ k, P k) ↔ P 0 ∨ ∃ k, P (k + 1) :=
      ⟨fun ⟨k, h⟩ => by cases k with | zero => exact .inl h | succ k => exact .inr ⟨k, h⟩,
        fun h => h.elim (fun h => ⟨0, h⟩) fun ⟨k, h⟩ => ⟨k + 1, h⟩⟩
    rw [split]
    cases old with
    | nil => simp [risen, ih]
    | cons o os => simp [risen, ih]

theorem State.activeAt_iff (s : State) (p : Nat) : s.ActiveAt p ↔ s.fireLevels.getD p false = true := by
  have read := List.getD_map (l := s.cc.points) (n := p) (d := Point.unused) Point.fireActive
  have get : s.fireLevels.getD p false = (s.point p).fireActive := read
  rw [get]
  exact (Point.fireActive_iff _).symm

/-- The used slot at place `k` is FRESH or SILENT and holds FIRE. -/
def State.BurnsAt (s : State) (k : Nat) : Prop :=
  (s.slot k).id ≠ 0 ∧ ((s.slot k).presence = .fresh ∨ (s.slot k).presence = .silent) ∧ (s.slot k).fire = .fire

theorem Slot.offeredFire_iff (k : Slot) :
    k.offeredFire = .fire ↔ k.id ≠ 0 ∧ (k.presence = .fresh ∨ k.presence = .silent) ∧ k.fire = .fire := by
  unfold Slot.offeredFire Slot.heard Slot.used
  cases k.presence <;> by_cases used : k.id = 0 <;> simp [used]

/-- The slots that hold FIRE, by place. -/
def State.burning (s : State) : List Bool := s.slotFires.map fun p => decide (p.2 = .fire)

theorem State.burnsAt_iff (s : State) (k : Nat) : s.BurnsAt k ↔ s.burning.getD k false = true := by
  have form : s.burning = s.nt.slots.map fun k => decide (k.offeredFire = .fire) := by
    simp [State.burning, State.slotFires, Function.comp_def]
  have read := List.getD_map (l := s.nt.slots) (n := k) (d := Slot.unused) fun k => decide (k.offeredFire = .fire)
  have get : s.burning.getD k false = decide ((s.slot k).offeredFire = .fire) := by
    rw [form]
    exact read
  rw [get, decide_eq_true_iff]
  exact (Slot.offeredFire_iff _).symm

/-! ### The end of a walk test in the follow-up -/

/-- An active walk test of `s` has ended at `t`, reported with its tested set and then emptied (R39). -/
structure WalkEnded (s t : State) (reason : Nat) : Prop where
  active : t.fl.walkActive = false
  timer : t.fl.walkTimer = none
  tested : t.fl.tested = List.replicate 16 false
  recorded : t.fl.lastRecorded = List.replicate 16 none
  reported : Reported s .walkEnd reason (bitsToNat s.fl.tested) t

theorem fireFollow_ends {u v : State} {why : WalkEnd} (walk : walkFollow u v = v.endWalk why) (active : v.fl.walkActive = true) :
    WalkEnded v (fireFollow u v) why.code := by
  obtain ⟨ended, stopped, emptied, absent⟩ := State.endWalk_active active why
  have first := State.endWalk_reports active why
  obtain ⟨_, _, _, _, _, form⟩ := v.endWalk_changes why
  have now : (v.endWalk why).now = v.now := by rw [form]
  have reported : Reported v .walkEnd why.code (bitsToNat v.fl.tested) (v.endWalk why) := ⟨v.ap.reports, .refl _, by
    rw [now]
    exact first⟩
  unfold fireFollow
  dsimp only
  rw [walk]
  split
  · obtain ⟨active', timer, tested, recorded, time, -⟩ := (v.endWalk why).evaluate_same_walk false
    exact ⟨active'.trans ended, timer.trans stopped, tested.trans emptied, recorded.trans absent,
      reported.through (.refl _) (State.evaluate_extends _ _) time⟩
  · exact ⟨ended, stopped, emptied, absent, reported⟩

theorem WalkEnded.settled {u v t : State} {peer : Option Nat} {pressed : List Nat} {reason : Nat}
    (h : WalkEnded v (fireFollow u v) reason) (queue : Extends u.ap.reports v.ap.reports) (tested : v.fl.tested = u.fl.tested)
    (settled : settle u v peer pressed = t) : WalkEnded u t reason := by
  have fl := settle_fl u v peer pressed
  have now := settle_now u v peer pressed
  have last := settle_fire u v peer pressed
  rw [settled] at fl now last
  obtain ⟨_, _, form⟩ := fireFollow_changes u v
  have time : (fireFollow u v).now = v.now := by rw [form]
  obtain ⟨active, timer, emptied, recorded, reported⟩ := h
  rw [← fl] at active timer emptied recorded
  rw [tested] at reported
  exact ⟨active, timer, emptied, recorded, reported.through queue last (now.trans time.symm)⟩

theorem WalkEnded.congr {s u w t : State} {reason : Nat} (h : WalkEnded u w reason) (queue : Extends s.ap.reports u.ap.reports)
    (before : u.fl = s.fl) (fl : t.fl = w.fl) (reports : t.ap.reports = w.ap.reports) (now : t.now = w.now) : WalkEnded s t reason := by
  obtain ⟨active, timer, tested, recorded, reported⟩ := h
  rw [← fl] at active timer tested recorded
  rw [before] at reported
  exact ⟨active, timer, tested, recorded, reported.through queue (by rw [reports]; exact .refl _) now⟩

/-! ### What the owners leave of the points and slots -/

theorem Footprint.levels_or_fl {c : Instr} {u v : State} (op : Footprint c u v) : v.fireLevels = u.fireLevels ∨ v.fl = u.fl := by
  rcases op.cc_cases with same | door | call
  · exact .inl (by rw [State.fireLevels, same, ← State.fireLevels])
  · obtain ⟨_, _, _, _, _, _, rfl⟩ := door.changes
    exact .inr rfl
  · obtain ⟨_, _, _, rfl⟩ := call.changes
    exact .inr rfl

/-- The neighbour table is changed by owners that leave the fire logic, or by an accepted fire reset. -/
theorem Footprint.slots_or_fl {c : Instr} {u v : State} (op : Footprint c u v) :
    v.nt.slots = u.nt.slots ∨ v.fl = u.fl ∨ ∃ source target clears, v = u.acceptReset source target clears := by
  cases op with
  | run _ form => rw [form]; exact .inl rfl
  | confirm _ form => obtain ⟨_, _, _, _, e⟩ := u.confirmExpire_changes; rw [form, e]; exact .inl rfl
  | @reset source target clears _ form =>
    unfold State.decideReset at form
    split at form
    · rw [form]; exact .inl rfl
    · exact .inr (.inr ⟨source, target, clears, form⟩)
  | detector op => obtain ⟨_, _, _, _, _, _, rfl⟩ := op.changes; exact .inl rfl
  | line op => obtain ⟨_, _, rfl⟩ := op.changes; exact .inl rfl
  | table op => obtain ⟨_, _, rfl⟩ := op.changes; exact .inr (.inl rfl)
  | sent op => obtain ⟨_, _, _, _, rfl⟩ := op.changes; exact .inr (.inl rfl)
  | doors _ op => obtain ⟨_, _, _, _, _, _, rfl⟩ := op.changes; exact .inl rfl
  | calls op => obtain ⟨_, _, _, rfl⟩ := op.changes; exact .inl rfl
  | list op => obtain ⟨_, _, rfl⟩ := op.changes; exact .inl rfl
  | signals op => obtain ⟨_, _, _, _, rfl⟩ := op.changes; exact .inl rfl
  | test op => obtain ⟨_, _, _, rfl⟩ := op.changes; exact .inl rfl

/-- A fire reset lets no slot come to hold FIRE. -/
theorem State.acceptReset_burns {u : State} (len : u.nt.slots.length = 8) {source target : Nat} {clears : Bool} {k : Nat}
    (burns : (u.acceptReset source target clears).BurnsAt k) : u.BurnsAt k := by
  have slots : (u.acceptReset source target clears).nt.slots = u.nt.slots ∨
      (u.acceptReset source target clears).nt.slots = u.nt.slots.map Slot.cleared := by
    cases clears with
    | false =>
      obtain ⟨_, _, form⟩ := (u.acceptReset_taken source target).record
      rw [form]
      exact .inl rfl
    | true =>
      obtain ⟨_, _, form⟩ := (State.acceptReset_cleared len source target).1.record
      rw [form]
      exact .inr rfl
  rcases slots with same | cleared
  · unfold State.BurnsAt State.slot at burns ⊢
    rw [same] at burns
    exact burns
  · have read := List.getD_map (l := u.nt.slots) (n := k) (d := Slot.unused) Slot.cleared
    have slot : (u.acceptReset source target clears).slot k = (u.slot k).cleared := by
      unfold State.slot
      rw [cleared]
      exact read
    unfold State.BurnsAt at burns ⊢
    rw [slot] at burns
    unfold Slot.cleared at burns
    split at burns
    · exact absurd burns.2.2 (by nofun)
    · exact burns

/-! ### Any event -/

section
variable {c : Instr} {u v : State} {peer : Option Nat} {pressed : List Nat} (op : Footprint c u v)
include op

/-- R39: a FIRE point comes active. -/
theorem Footprint.endsByPoint (active : u.fl.walkActive = true) {p : Nat} (now : v.ActiveAt p) (before : ¬u.ActiveAt p) :
    WalkEnded u (settle u v peer pressed) 2 := by
  have rises : risen u.fireLevels v.fireLevels = true :=
    risen_iff.2 ⟨p, (v.activeAt_iff p).1 now, Bool.eq_false_iff.2 fun h => before ((u.activeAt_iff p).2 h)⟩
  have fl : v.fl = u.fl := by
    refine op.levels_or_fl.resolve_left fun same => ?_
    rw [same, risen_self] at rises
    cases rises
  have walk : walkFollow u v = v.endWalk .point := if_pos rises
  exact (fireFollow_ends walk (by rw [fl]; exact active)).settled op.extends (by rw [fl]) rfl

/-- R39: a slot comes to hold FIRE. -/
theorem Footprint.endsByNeighbour (len : u.nt.slots.length = 8) (active : u.fl.walkActive = true)
    (points : ∀ p, v.ActiveAt p → u.ActiveAt p) {k : Nat} (now : v.BurnsAt k) (before : ¬u.BurnsAt k) :
    WalkEnded u (settle u v peer pressed) 3 := by
  have level : ¬risen u.fireLevels v.fireLevels = true := fun rises => by
    obtain ⟨p, here, was⟩ := risen_iff.1 rises
    have stood := (u.activeAt_iff p).1 (points p ((v.activeAt_iff p).2 here))
    rw [was] at stood
    cases stood
  have rises : risen u.burning v.burning = true :=
    risen_iff.2 ⟨k, (v.burnsAt_iff k).1 now, Bool.eq_false_iff.2 fun h => before ((u.burnsAt_iff k).2 h)⟩
  have fl : v.fl = u.fl := by
    rcases op.slots_or_fl with same | fl | ⟨source, target, clears, rfl⟩
    · have still : v.burning = u.burning := by rw [State.burning, State.slotFires, same, ← State.slotFires, ← State.burning]
      rw [still, risen_self] at rises
      cases rises
    · exact fl
    · exact absurd (State.acceptReset_burns len now) before
  have walk : walkFollow u v = v.endWalk .neighbour := (if_neg level).trans (if_pos rises)
  exact (fireFollow_ends walk (by rw [fl]; exact active)).settled op.extends (by rw [fl]) rfl

end

theorem State.activeAt_lt {s : State} (len : s.cc.points.length = 8) {p : Nat} (h : s.ActiveAt p) : p < 8 := by
  by_contra past
  have none_ : s.point p = Point.unused := List.getD_eq_default _ _ (by omega)
  rw [State.ActiveAt, none_] at h
  exact absurd h.1 (by nofun)

theorem State.activeAt_congr {s t : State} (h : t.fireInputs = s.fireInputs) (p : Nat) : t.ActiveAt p ↔ s.ActiveAt p := by
  have levels : t.fireLevels = s.fireLevels := congrArg (·.2.2.1) h
  rw [State.activeAt_iff, State.activeAt_iff, levels]

theorem State.burnsAt_congr {s t : State} (h : t.fireInputs = s.fireInputs) (k : Nat) : t.BurnsAt k ↔ s.BurnsAt k := by
  have slots : t.slotFires = s.slotFires := congrArg (·.2.1) h
  rw [State.burnsAt_iff, State.burnsAt_iff, State.burning, State.burning, slots]

theorem AtEvent.fires {s u : State} (h : AtEvent s u) : u.fireInputs = s.fireInputs ∧ u.nt = s.nt := by
  obtain ⟨_, _, _, _, rfl⟩ := h
  exact ⟨rfl, rfl⟩

/-- R39: whatever command makes a FIRE point active, or else lets a slot come to hold FIRE, ends an active walk test. -/
theorem exec_walkEnds {c : Instr} {s t : State} (awake : s.awake = true) (awake' : t.awake = true) (shaped : s.Shaped)
    (active : s.fl.walkActive = true) (h : exec c s = .next t) :
    ((∃ p < 8, t.ActiveAt p ∧ ¬s.ActiveAt p) → WalkEnded s t 2) ∧
      ((∀ p < 8, t.ActiveAt p → s.ActiveAt p) → (∃ k < 8, t.BurnsAt k ∧ ¬s.BurnsAt k) → WalkEnded s t 3) := by
  rcases exec_awake awake awake' h with ⟨u, v, peer, pressed, moment, owner, answered⟩ | ⟨u, v, moment, owner, answered⟩
  · obtain ⟨fl, reports, now, inputs⟩ := answered.fires
    obtain ⟨before, nt⟩ := moment.fires
    have after := inputs.trans (settle_fireInputs u v peer pressed)
    have point {p : Nat} := owner.footprint.endsByPoint (p := p) (peer := peer) (pressed := pressed) (by rw [moment.fl]; exact active)
    have neighbour {k : Nat} := owner.footprint.endsByNeighbour (k := k) (peer := peer) (pressed := pressed) (by rw [nt]; exact shaped.slots)
      (by rw [moment.fl]; exact active)
    have points := (owner.footprint.calls_shaped (by rw [moment.calls.1]; exact shaped.calls_shaped)).points
    generalize settle u v peer pressed = w at fl reports now point neighbour
    refine ⟨fun ⟨p, _, here, was⟩ => ?_, fun still ⟨k, _, here, was⟩ => ?_⟩
    · refine (point ((State.activeAt_congr after p).1 here) fun stood => was ?_).congr moment.queue moment.fl fl reports now
      exact (State.activeAt_congr before p).1 stood
    · refine (neighbour (fun p here => ?_) ((State.burnsAt_congr after k).1 here) fun stood => was ?_).congr moment.queue moment.fl
        fl reports now
      · exact (State.activeAt_congr before p).2 (still p (State.activeAt_lt points here) ((State.activeAt_congr after p).2 here))
      · exact (State.burnsAt_congr before k).1 stood
  · have same := answered.fires.2.2.2.trans (owner.fire.1.trans moment.fires.1)
    exact ⟨fun ⟨p, _, here, was⟩ => absurd ((State.activeAt_congr same p).1 here) was,
      fun _ ⟨k, _, here, was⟩ => absurd ((State.burnsAt_congr same k).1 here) was⟩

end Sys2Proof.Machine
end

/-! ## The fire logic's timers (R28, R39) -/

section
namespace Sys2Proof.Machine

/-! ### The confirm delay -/

theorem State.fireCondition_lone {s : State} {c : Nat} (found : s.fireCondition true = some (.delay, some c, none)) :
    s.firstInAlarm .smoke = some c := by
  unfold State.fireCondition at found
  cases heat : s.firstInAlarm .heat with
  | some i => rw [heat] at found; cases found
  | none =>
    cases point : s.activeFirePoint with
    | some p => rw [heat, point] at found; cases found
    | none =>
      cases smoke : s.firstInAlarm .smoke with
      | none => rw [heat, point, smoke] at found; cases found
      | some i =>
        rw [heat, point, smoke] at found
        dsimp only at found
        split at found
        · cases found
        · split at found
          · cases found
          · split at found
            · cases found
              rfl
            · cases found

theorem State.firstInAlarm_findIdx (s : State) (kind : ChannelKind) :
    s.ds.channels.findIdx? (fun ch => decide (ch.cfg.kind = kind ∧ ch.state = .alarm)) = s.firstInAlarm kind := by
  have same : (fun ch : Channel => decide (ch.cfg.kind = kind ∧ ch.state = .alarm)) = fun ch => ch.inAlarm && decide (ch.cfg.kind = kind) := by
    funext ch
    simp [Channel.inAlarm, Bool.and_comm]
  rw [same]
  rfl

/-- R28, R29: in SUSPECT one SMOKE channel is alone in alarm, and the delay's end finds FIRE by DELAY. -/
theorem State.FireSettled.lone {s : State} (h : s.FireSettled) (suspect : s.fl.gallery = .suspect) :
    ∃ c, s.firstInAlarm .smoke = some c ∧ s.fireCondition true = some (.delay, some c, none) := by
  obtain ⟨quiet, derived⟩ := h.derived (by rw [suspect]; nofun)
  obtain ⟨c, found⟩ := State.fireCondition_delay quiet (State.derivedState_suspect.1 (derived.symm.trans suspect))
  exact ⟨c, State.fireCondition_lone found, found⟩

theorem State.confirmExpire_eq {s : State} {c : Nat} (suspect : s.fl.gallery = .suspect)
    (found : s.fireCondition true = some (.delay, some c, none)) :
    s.confirmExpire = (s.setFl { s.fl with confirm := none }).confirmFire .delay (some c) none :=
  State.evaluate_condition (s := s.setFl { s.fl with confirm := none }) (fun fire => nomatch suspect.symm.trans fire) found

theorem State.confirmFire_suspect {s : State} (suspect : s.fl.gallery = .suspect) (c : Nat) :
    ((s.setFl { s.fl with confirm := none }).confirmFire .delay (some c) none).fl =
        { s.fl with gallery := .fire, confirm := none, cause := ⟨.delay, some c, none, some (s.now / Config.second)⟩ } ∧
      Reports s .galleryState 2 3 ((s.setFl { s.fl with confirm := none }).confirmFire .delay (some c) none) := by
  have code : s.fl.gallery.code = 2 := by rw [suspect]; rfl
  unfold State.confirmFire State.setGallery
  split
  · rename_i fire
    exact nomatch suspect.symm.trans fire
  · refine ⟨rfl, ?_⟩
    rw [← code]
    exact State.report_extends _ _ _ _

theorem State.confirmFire_consequent (s : State) (c : Cause) (a b : Option Nat) : Consequent s (s.confirmFire c a b) := by
  obtain ⟨reported, queue⟩ := s.confirmFire_extends c a b
  obtain ⟨fl, r, form⟩ : ∃ fl r, s.confirmFire c a b = { s with fl := fl, ap := { s.ap with reports := r } } := by
    obtain ⟨_, _, changed⟩ := State.setGallery_changes (s.setFl { s.fl with cause := ⟨c, a, b, some s.seconds⟩ }) .fire
    unfold State.confirmFire
    rw [changed]
    exact ⟨_, _, rfl⟩
  rw [form] at queue ⊢
  exact ⟨s.cl.phase, s.cl.listen, s.ds.drift, s.ds.rate, fl, s.ru, [], s.lc.lastState, s.lc.refresh, s.nt.latch, s.doors,
    s.cc.calls, s.cc.serials, s.sd, s.dt, s.marker, reported, s.freeCount, by rw [← queue]; rfl⟩

/-- R28: the confirm delay runs out. -/
theorem settle_confirmExpire {s t : State} {c : Nat} (suspect : s.fl.gallery = .suspect)
    (found : s.fireCondition true = some (.delay, some c, none)) (settled : settle s s.confirmExpire none [] = t) :
    Consequent s t ∧
      t.fl = { s.fl with gallery := .fire, confirm := none, cause := ⟨.delay, some c, none, some (s.now / Config.second)⟩ } ∧
      Reports s .galleryState 2 3 t := by
  have follows := settle_consequent s s.confirmExpire none []
  have queue := settle_extends s s.confirmExpire none []
  have fl := settle_fl s s.confirmExpire none []
  rw [fireFollow_confirmExpire] at fl
  rw [settled] at follows queue fl
  obtain ⟨record, reported⟩ := State.confirmFire_suspect suspect c
  have stopped : Consequent s (s.setFl { s.fl with confirm := none }) :=
    ⟨s.cl.phase, s.cl.listen, s.ds.drift, s.ds.rate, _, s.ru, [], s.lc.lastState, s.lc.refresh, s.nt.latch, s.doors,
      s.cc.calls, s.cc.serials, s.sd, s.dt, s.marker, [], s.freeCount, rfl⟩
  rw [State.confirmExpire_eq suspect found] at follows queue fl
  exact ⟨(stopped.trans (State.confirmFire_consequent _ _ _ _)).trans follows, fl.trans record, reported.trans queue⟩

theorem exec_confirmDelayExpiry {s : State} {deadline : Nat} (awake : s.awake = true) (running : s.fl.confirm = some deadline) :
    exec .confirmDelayExpiry s = .next (settle (s.reach deadline) (s.reach deadline).confirmExpire none []) :=
  State.expiry_running awake running _

theorem exec_walkDurationExpiry {s : State} {deadline : Nat} (awake : s.awake = true) (running : s.fl.walkTimer = some deadline) :
    exec .walkDurationExpiry s = .next (settle (s.reach deadline) ((s.reach deadline).endWalk .time) none []) :=
  State.expiry_running awake running _

/-! ### The four together -/

theorem State.channels_of_fireInputs {s t : State} (h : t.fireInputs = s.fireInputs) :
    t.ds.channels.length = s.ds.channels.length := by
  have lengths := congrArg (fun inputs => inputs.1.length) h
  simpa [State.fireInputs] using lengths

theorem exec_channels {c : Instr} {s t : State} (awake : s.awake = true) (awake' : t.awake = true)
    (len : s.ds.channels.length = 16) (h : exec c s = .next t) : t.ds.channels.length = 16 := by
  rcases exec_awake awake awake' h with ⟨u, v, peer, pressed, moment, owner, answered⟩ | ⟨u, v, moment, owner, answered⟩
  · have after := answered.fires.2.2.2.trans (settle_fireInputs u v peer pressed)
    have configs := congrArg List.length owner.footprint.configs
    rw [State.channelConfigs, State.channelConfigs, List.length_map, List.length_map] at configs
    rw [State.channels_of_fireInputs after, configs, State.channels_of_fireInputs moment.fires.1, len]
  · have same := answered.fires.2.2.2.trans (owner.fire.1.trans moment.fires.1)
    rw [State.channels_of_fireInputs same, len]

/-- Settles O19: the two expiries by their own follow-ups; a change of the gallery fire state by R27's table, read by place; the end of
a walk test by what rises among the points and slots. -/
theorem fireTimersExpire : Obligations.FireTimersExpire := by
  refine ⟨fun s deadline awake follows suspect running => ?_, fun s deadline awake active running => ?_,
    fun c s t awake awake' shaped h changed => ?_, fun c s t awake awake' shaped active h => ?_⟩
  · obtain ⟨c, smoke, found⟩ := (State.galleryFollows_iff.1 follows awake).lone suspect
    have done := exec_confirmDelayExpiry awake running
    have ends := fun t => settle_confirmExpire (s := s.reach deadline) (t := t) suspect found
    generalize settle (s.reach deadline) (s.reach deadline).confirmExpire none [] = t at done ends
    exact ⟨c, (s.firstInAlarm_findIdx .smoke).trans smoke, t, done, ends t rfl⟩
  · have done := exec_walkDurationExpiry awake running
    have ends := fun t => settle_endWalk (s := s.reach deadline) active .time (t := t)
    generalize settle (s.reach deadline) ((s.reach deadline).endWalk .time) none [] = t at done ends
    exact ⟨t, done, ends t rfl⟩
  · have gallery := exec_galleryChanged awake awake' h changed
    refine ⟨gallery.reported, fun fire => ?_⟩
    obtain ⟨out, cause, a, b, fired⟩ := gallery.fired fire
    have table := CauseTable.of_condition (recorded := fun cause subject slot =>
        t.fl.cause = ⟨cause, some subject, slot, some (t.now / Config.second)⟩ ∧
          Reported s .fireCause subject (slot.getD 0xFF * 256 + cause.code) t)
      (exec_channels awake awake' shaped.channels h) (calls_kept.exec shaped.calls_shaped h).points
      (housed_kept.exec ⟨shaped.slots, shaped.doors⟩ h).slots fired.found fun i subject => by
        have record := fired.cause
        have reported := fired.reported
        rw [subject] at record reported
        exact ⟨record, reported⟩
    exact ⟨fired.confirm, table.smoke, table.heat, table.point, table.lone⟩
  · obtain ⟨point, neighbour⟩ := exec_walkEnds awake awake' shaped active h
    refine ⟨fun rises => ?_, fun still rises => ?_⟩
    · obtain ⟨ended, timer, tested, recorded, reported⟩ := point rises
      exact ⟨ended, timer, tested, recorded, reported⟩
    · obtain ⟨ended, timer, tested, recorded, reported⟩ := neighbour still rises
      exact ⟨ended, timer, tested, recorded, reported⟩

end Sys2Proof.Machine
end

/-! ## What stands when LOADING ends (R174, R176, R177) -/

section
namespace Sys2Proof.Machine

/-! ### The fault summary before any input -/

theorem doorAtStart_unjammed (mode : Mode) (draw : Nat) (cfg : DoorConfig) : (doorAtStart mode draw cfg).jammed = false := by
  have state : (doorAtStart mode draw cfg).state = .shutFree ∨ (doorAtStart mode draw cfg).state = .shutLocked := by
    unfold doorAtStart
    split
    · exact .inl rfl
    · dsimp only
      split
      · exact .inl rfl
      · exact .inr rfl
  rcases state with state | state <;> simp [Door.jammed, state]

theorem channelAtStart_unfaulted (cfg : ChannelConfig) : (Channel.afterRestart cfg).state ≠ .fault := by
  unfold Channel.afterRestart
  dsimp only
  split <;> decide

/-- The loader holds one of its fault members (R173). -/
def Loader.faulty (cl : Loader) : Bool := cl.clampCount != 0 || cl.invalid.isSome

theorem Loader.faulty_iff (cl : Loader) : cl.faulty = true ↔ cl.clampCount ≠ 0 ∨ cl.invalid ≠ none := by
  simp [Loader.faulty, Option.isSome_iff_ne_none]

theorem State.restarted_hasFault (phase : Phase) (port : Port) (pending : List Instr) (marker : Bool) (pins : Pins) (count : Nat) :
    (State.restarted phase port pending marker pins count).hasFault = false := rfl

/-- Of the members only the configuration's two can hold. -/
theorem State.loaded_hasFault (s : State) (img : List Byte) (strap : Mode) :
    (s.loaded img strap).reportConfig.hasFault = (s.loaded img strap).cl.faulty := by
  have fresh := configOf_fresh img strap
  have channel (ch : Channel) (mem : ch ∈ (s.loaded img strap).ds.channels) :
      ch.state ≠ .fault ∧ ch.driftLimit = false ∧ ch.faultInAlarm = false := by
    obtain ⟨cfg, -, rfl⟩ := List.mem_map.1 mem
    exact ⟨channelAtStart_unfaulted cfg, rfl, rfl⟩
  have fault : (s.loaded img strap).ds.channels.any (·.state = .fault) = false :=
    List.any_eq_false.2 fun ch mem => by simpa using (channel ch mem).1
  have drift : (s.loaded img strap).ds.channels.any (·.driftLimit) = false :=
    List.any_eq_false.2 fun ch mem => by simpa using (channel ch mem).2.1
  have alarm : (s.loaded img strap).ds.channels.any (·.faultInAlarm) = false :=
    List.any_eq_false.2 fun ch mem => by simpa using (channel ch mem).2.2
  have slots : (s.loaded img strap).nt.slots.any (·.silent) = false := List.any_eq_false.2 fun k mem => by
    obtain ⟨id, link, cost, rfl, -⟩ := fresh.slot k mem
    simp [Slot.silent, Slot.afterRestart]
  have doors : (s.loaded img strap).doors.any (·.jammed) = false := List.any_eq_false.2 fun d mem => by
    obtain ⟨cfg, -, rfl⟩ := List.mem_map.1 mem
    simp [doorAtStart_unjammed]
  have signs : (s.loaded img strap).sd.signs.any (·.fault) = false := List.any_eq_false.2 fun g mem => by
    obtain ⟨used, default, map, rfl⟩ := fresh.sign g mem
    simp [Sign.afterRestart]
  have strips : (s.loaded img strap).sd.strips.any (·.latch.isSome) = false := List.any_eq_false.2 fun p mem => by
    obtain ⟨n, w, pp, step, offset, map, rfl⟩ := fresh.strip p mem
    simp [Strip.afterRestart]
  have members : (s.loaded img strap).reportConfig.hasFault = (s.loaded img strap).hasFault := rfl
  rw [members, State.hasFault, State.faultMembers, fault, drift, alarm, slots, doors, signs, strips]
  show ((s.loaded img strap).cl.clampCount != 0 || ((s.loaded img strap).cl.invalid.isSome || false)) = _
  rw [Bool.or_false]
  rfl

/-! ### The node-fault call of LOADING -/

/-- The call that the node's own fault raises at the end of LOADING, announced (R113, R118, R119). -/
def startCall (tesc : Nat) : Call :=
  ⟨.fault, 2, 2, 2, 0, 0, false, false, some (tesc * Config.second), none, some (16 * Config.second)⟩

/-- The call controller after restart with that call, as its serial leaves it. -/
def CallController.withStartCall (points : List Point) (tesc : Nat) : CallController :=
  { CallController.afterRestart points with
    calls := (List.replicate 17 none).set 16 (some (startCall tesc))
    serials := (List.replicate 17 0).set 16 1 }

theorem tableOrder_lone {s : State} {c : Call} (current : c.current = 2) (calls : s.cc.calls = (List.replicate 17 none).set 16 (some c))
    (rotations : s.cc.rotations = List.replicate 4 (List.range 17)) : s.tableOrder = [16] := by
  obtain ⟨kind, base, escalated, now, serial, taker, overdue, reminder, unanswered, attend, reannounce⟩ := c
  obtain rfl : now = 2 := current
  unfold State.tableOrder State.rotation State.call
  rw [calls, rotations]
  rfl

/-- At time 0, before RUN, the call of the node's fault is announced to no one (R54, R118). -/
theorem raise_announce_start {u : State} {points : List Point} (now : u.now = 0) (cc : u.cc = .afterRestart points)
    (closed : u.offersOpen = false) :
    (u.raise 16 .fault 2).announce 16 =
      { u with
        cc := .withStartCall points u.cl.node.tesc
        ap := { u.ap with reports := queueReport u.ap.reports ⟨.callRaised, 16, 0x0502, 0, false⟩ } } := by
  obtain ⟨pending, _, cl, ds, fl, lc, nt, ru, doors, _, al, sd, dt, ap, marker, pins, count⟩ := u
  obtain rfl := now
  obtain rfl := cc
  rw [State.raise_announce (show 16 < (List.replicate 17 (none : Option Call)).length by decide) (by decide) 2]
  have line (cc : CallController) (body : Payload) :
      (lc.offer (State.mk pending 0 cl ds fl lc nt ru doors cc al sd dt ap marker pins count).offersOpen body 1).1 = lc := by
    rw [show (State.mk pending 0 cl ds fl lc nt ru doors cc al sd dt ap marker pins count).offersOpen = false from closed]
    rfl
  unfold State.announced State.report State.seconds
  dsimp only
  rw [line, Nat.zero_div, Nat.zero_add, Nat.zero_add]
  rfl

/-- The CONFIG report (R176). -/
def Loader.configReport (cl : Loader) : Report :=
  ⟨.config, BitVec.ofNat 16 (cl.firstClamp.getD noSubject), BitVec.ofNat 16 (configValue cl.invalid cl.clampCount), 0, false⟩

theorem State.loaded_seconds (s : State) (img : List Byte) (strap : Mode) : (s.loaded img strap).seconds = 0 := Nat.zero_div _

theorem State.loaded_reportConfig (s : State) (img : List Byte) (strap : Mode) :
    (s.loaded img strap).reportConfig =
      { s.loaded img strap with ap := { s.ap with reports := [(s.loaded img strap).cl.configReport] } } := by
  rw [Loader.configReport, ← s.loaded_seconds img strap]
  rfl

theorem State.leaveLoading_calm (s : State) (img : List Byte) (strap : Mode) (calm : (s.loaded img strap).cl.faulty = false) :
    s.leaveLoading img strap =
      { s.loaded img strap with ap := { s.ap with reports := [(s.loaded img strap).cl.configReport] } } := by
  have quiet : (s.loaded img strap).reportConfig.hasFault = false := (s.loaded_hasFault img strap).trans calm
  unfold State.leaveLoading
  dsimp only
  have still : faultFollow (State.restarted .loading s.ap.port s.pending s.marker s.pins s.freeCount)
      (s.loaded img strap).reportConfig = (s.loaded img strap).reportConfig := by
    unfold faultFollow
    rw [quiet]
    rfl
  have none_ : announceFollow (State.restarted .loading s.ap.port s.pending s.marker s.pins s.freeCount)
      (s.loaded img strap).reportConfig [] = (s.loaded img strap).reportConfig :=
    announceFollow_none (fun fault => absurd (quiet.symm.trans fault) Bool.false_ne_true) nofun rfl
  rw [still, none_, s.loaded_reportConfig img strap]

theorem State.leaveLoading_faulty (s : State) (img : List Byte) (strap : Mode) (faulty : (s.loaded img strap).cl.faulty = true) :
    s.leaveLoading img strap =
      { s.loaded img strap with
        cc := .withStartCall (configOf img strap).points (s.loaded img strap).cl.node.tesc
        ap := { s.ap with reports := [(s.loaded img strap).cl.configReport, ⟨.callRaised, 16, 0x0502, 0, false⟩] } } := by
  have fault : (s.loaded img strap).reportConfig.hasFault = true := (s.loaded_hasFault img strap).trans faulty
  have pressed : (s.loaded img strap).reportConfig.pressNodeFault = (s.loaded img strap).reportConfig.raise 16 .fault 2 := rfl
  unfold State.leaveLoading
  dsimp only
  rw [faultFollow_rises (State.restarted_hasFault ..) fault]
  have due : announcementDue (State.restarted .loading s.ap.port s.pending s.marker s.pins s.freeCount)
      (s.loaded img strap).reportConfig.pressNodeFault [] 16 = true := by
    unfold announcementDue
    rw [State.pressNodeFault_hasFault, fault, State.restarted_hasFault]
    rfl
  have table : (s.loaded img strap).reportConfig.pressNodeFault.tableOrder = [16] := by
    rw [pressed]
    exact tableOrder_lone (c := (s.loaded img strap).reportConfig.raisedCall 16 .fault 2) rfl rfl rfl
  have single : announceFollow (State.restarted .loading s.ap.port s.pending s.marker s.pins s.freeCount)
      (s.loaded img strap).reportConfig.pressNodeFault [] = (s.loaded img strap).reportConfig.pressNodeFault.announce 16 := by
    unfold announceFollow
    rw [table, List.filter_cons_of_pos due]
    rfl
  rw [single, pressed, raise_announce_start rfl rfl rfl, s.loaded_reportConfig img strap]
  rfl

end Sys2Proof.Machine
end

/-! ## The state in which LOADING ends, in one equation (R118, R176, R177) -/

section
namespace Sys2Proof.Machine

/-- The call controller at the end of LOADING: after restart, with the node-fault call where the image has raised one. -/
def CallController.started (points : List Point) (tesc : Nat) (faulty : Bool) : CallController where
  points := points
  keyOn := none
  calls := (List.replicate 17 none).set 16 (if faulty = true then some (startCall tesc) else none)
  serials := (List.replicate 17 0).set 16 (if faulty = true then 1 else 0)
  rotations := List.replicate 4 (List.range 17)

theorem CallController.started_calm (points : List Point) (tesc : Nat) : started points tesc false = .afterRestart points := rfl

theorem CallController.started_raised (points : List Point) (tesc : Nat) :
    started points tesc true = .withStartCall points tesc := rfl

/-- The reports at the end of LOADING: CONFIG, and the raising of that call. -/
def Loader.startReports (cl : Loader) : List Report :=
  cl.configReport :: if cl.faulty then [⟨.callRaised, 16, 0x0502, 0, false⟩] else []

theorem State.leaveLoading_eq (s : State) (img : List Byte) (strap : Mode) :
    s.leaveLoading img strap =
      { s.loaded img strap with
        cc := .started (configOf img strap).points (configOf img strap).node.tesc (s.loaded img strap).cl.faulty
        ap := { s.ap with reports := (s.loaded img strap).cl.startReports } } := by
  unfold Loader.startReports
  cases faulty : (s.loaded img strap).cl.faulty with
  | false => rw [s.leaveLoading_calm img strap faulty, CallController.started_calm]; rfl
  | true => rw [s.leaveLoading_faulty img strap faulty, CallController.started_raised]; rfl

/-! ### Doors (R109) -/

theorem regimeFree_iff (kind : DoorKind) (mode : Mode) :
    regimeFree kind mode = true ↔ (kind = .gallery ∨ kind = .exit) ∧ mode = .day := by
  cases kind <;> simp [regimeFree]

/-- At time 0 no REX input is qualified (R91). -/
theorem Door.rexLevel_start {d : Door} (unpressed : d.rex.pressed = none) (i : Nat) : d.rexLevel i 0 = none := by
  have early : 0 < max Config.qualify (Config.freeHold d.rex.draw i 0) := lt_max_of_lt_left (by decide)
  simp only [Door.rexLevel, unpressed, early, if_true, ite_self]

theorem doorAtStart_unqualified (mode : Mode) (draw : Nat) (cfg : DoorConfig) :
    (doorAtStart mode draw cfg).contact = none ∧ (doorAtStart mode draw cfg).feedback = none ∧
      (∀ i, (doorAtStart mode draw cfg).rexLevel i 0 = none) ∧ (doorAtStart mode draw cfg).accessMark = false ∧
      (doorAtStart mode draw cfg).accessTimer = none ∧ (doorAtStart mode draw cfg).openTimer = none ∧
      (doorAtStart mode draw cfg).jamTimer = none := by
  unfold doorAtStart
  split
  · exact ⟨rfl, rfl, Door.rexLevel_start rfl, rfl, rfl, rfl, rfl⟩
  · exact ⟨rfl, rfl, Door.rexLevel_start rfl, rfl, rfl, rfl, rfl⟩

theorem doorAtStart_cfg (mode : Mode) (draw : Nat) (cfg : DoorConfig) : (doorAtStart mode draw cfg).cfg = cfg :=
  (doorAtStart_driven mode draw cfg).1

/-- State and drives of a door as LOADING ends, by its regime. -/
theorem doorAtStart_regime (mode : Mode) (draw : Nat) (cfg : DoorConfig) :
    (cfg.kind ≠ .unused →
        (doorAtStart mode draw cfg).state =
          if (cfg.kind = .gallery ∨ cfg.kind = .exit) ∧ mode = .day then .shutFree else .shutLocked) ∧
      (doorAtStart mode draw cfg).lock =
        (if cfg.kind = .unused ∨ ((cfg.kind = .gallery ∨ cfg.kind = .exit) ∧ mode = .day) then .free else .lock) ∧
      (doorAtStart mode draw cfg).magnet =
        (if cfg.kind = .gallery ∧ cfg.magnet = true ∧ mode = .day then .hold else .drop) := by
  by_cases unused : cfg.kind = .unused
  · have idle : doorAtStart mode draw cfg = .idle cfg := if_pos unused
    rw [idle]
    exact ⟨absurd unused, (if_pos (.inl unused)).symm, by rw [unused]; rfl⟩
  · have regime := regimeFree_iff cfg.kind mode
    have magnet : (cfg.kind = .gallery && cfg.magnet && mode = .day) = true ↔
        cfg.kind = .gallery ∧ cfg.magnet = true ∧ mode = .day := by simp [and_assoc]
    simp only [doorAtStart, unused, if_false, false_or, regime, magnet]
    exact ⟨fun _ => trivial, trivial, trivial⟩

/-! ### The clamp record (R175) -/

theorem firstClamped_none (clamps : List Nat) : firstClamped clamps = none ↔ min 255 clamps.length = 0 := by
  unfold firstClamped
  rw [List.min?_eq_none_iff, ← List.length_eq_zero_iff]
  omega

theorem firstClamped_least {clamps : List Nat} {o : Nat} (first : firstClamped clamps = some o) :
    o ∈ clamps ∧ ∀ x ∈ clamps, o ≤ x := List.min?_eq_some_iff.1 first

/-- The value of CONFIG, by the outcome of the read. -/
theorem configValue_eq (failure : Option ImageReason) (count : Nat) :
    (∀ r, failure = some r → configValue failure count = 2 * 256 + r.code) ∧
      (failure = none → configValue failure count = if count = 0 then 0 else 256 + count) := by
  refine ⟨?_, ?_⟩
  · rintro r rfl
    rfl
  · rintro rfl
    rfl

end Sys2Proof.Machine
end

/-! ## The validation of an image (R174) -/

section
namespace Sys2Proof.Machine

theorem imageByte_lt (img : List Byte) (o : Nat) : imageByte img o < 256 := (img.getD o 0).isLt

theorem msbBits_toNat (b : Byte) : msbBits 8 b.toNat = [7, 6, 5, 4, 3, 2, 1, 0].map b.getLsbD := by
  revert b
  decide

/-- The bits the check covers, each byte most significant bit first. -/
theorem imageBits_eq (img : List Byte) :
    imageBits img = (img.take 254).flatMap fun b => [7, 6, 5, 4, 3, 2, 1, 0].map b.getLsbD :=
  congrArg (fun f => (img.take 254).flatMap f) (funext msbBits_toNat)

theorem bit_eq_toNat (b : Bool) : bit b = b.toNat := by cases b <;> rfl

/-- The check as the statement folds it (R45). -/
theorem crc_eq (bits : List Bool) :
    crc bits = bits.foldl
      (fun r b => if (r / 32768 + b.toNat) % 2 = 1 then Nat.xor (2 * r % 65536) 0x1021 else 2 * r % 65536) 0xFFFF := by
  unfold crc
  congr 1
  funext r b
  rw [crcStep, bit_eq_toNat]

theorem imageWord_marker (img : List Byte) : imageWord img 0 = 0x4B47 ↔ imageByte img 0 = 0x4B ∧ imageByte img 1 = 0x47 := by
  have low := imageByte_lt img 1
  show imageByte img 0 * 256 + imageByte img 1 = 0x4B47 ↔ _
  omega

theorem imageFailure_eq (img : List Byte) :
    imageFailure img =
      if img.length < 256 then some .noAck
      else if ¬(imageByte img 0 = 0x4B ∧ imageByte img 1 = 0x47) then some .marker
      else if imageByte img 2 * 256 + imageByte img 3 ≠ 254 then some .length
      else if imageByte img 254 * 256 + imageByte img 255 ≠
          ((img.take 254).flatMap fun b => [7, 6, 5, 4, 3, 2, 1, 0].map b.getLsbD).foldl
            (fun r bit => if (r / 32768 + bit.toNat) % 2 = 1 then Nat.xor (2 * r % 65536) 0x1021 else 2 * r % 65536) 0xFFFF
        then some .crc
      else if imageByte img 4 < 1 ∨ 62 < imageByte img 4 then some .nodeId
      else none := by
  unfold imageFailure
  rw [crc_eq, imageBits_eq]
  simp only [ne_eq, imageWord_marker, Nat.lt_one_iff]
  rfl

end Sys2Proof.Machine
end

/-! ## The fields of an image (R175, Table 11-2) -/

section
namespace Sys2Proof.Machine

/-- The `width` bits from bit `low` of the byte at `o`. -/
def imageField (img : List Byte) (o low width : Nat) : Nat := imageByte img o / 2 ^ low % 2 ^ width

theorem imageField_lt (img : List Byte) (o low width : Nat) : imageField img o low width < 2 ^ width :=
  Nat.mod_lt _ (Nat.two_pow_pos width)

/-- A bit field of a byte, by its lowest bit and its width. -/
theorem bitField_imageByte (img : List Byte) (o hi lo : Nat) :
    bitField (imageByte img o) hi lo = imageField img o lo (hi + 1 - lo) := rfl

/-- The ten low bits of a two-byte field. -/
theorem bitField_imageWord (img : List Byte) (o : Nat) :
    bitField (imageWord img o) 9 0 = imageField img o 0 2 * 256 + imageByte img (o + 1) := by
  have low := imageByte_lt img (o + 1)
  show (imageByte img o * 256 + imageByte img (o + 1)) / 1 % 1024 = imageByte img o / 1 % 4 * 256 + imageByte img (o + 1)
  omega

theorem getD_map_range {α : Type} {n i : Nat} (f : Nat → α) (inside : i < n) (d : α) : ((List.range n).map f).getD i d = f i := by
  rw [List.getD_eq_getElem _ _ (by simpa using inside), List.getElem_map, List.getElem_range]

/-! ### Neighbour slots (R62) -/

theorem slotIdA_eq_zero (img : List Byte) (s : Nat) :
    slotIdA img s = 0 ↔ slotId img s = 0 ∨ 62 < slotId img s ∨ slotId img s = imageByte img 4 := by
  unfold slotIdA
  split
  · rename_i bad
    simp only [Bool.or_eq_true, decide_eq_true_eq] at bad
    exact ⟨fun _ => .inr bad, fun _ => rfl⟩
  · rename_i good
    simp only [Bool.or_eq_true, decide_eq_true_eq] at good
    exact ⟨.inl, fun h => h.resolve_right good⟩

theorem slotIdA_of_ne_zero {img : List Byte} {s : Nat} (used : slotIdA img s ≠ 0) : slotIdA img s = slotId img s := by
  unfold slotIdA at used ⊢
  split
  · rename_i bad
    exact absurd (if_pos bad) used
  · rfl

/-- R62: a slot is unused for its own id, or for a lower slot that names the same neighbour. -/
theorem slotIdB_eq_zero (img : List Byte) (s : Nat) :
    slotIdB img s = 0 ↔ slotId img s = 0 ∨ 62 < slotId img s ∨ slotId img s = imageByte img 4 ∨
      ∃ j < s, slotId img j = slotId img s := by
  have any : (List.range s).any (fun j => slotIdA img j = slotIdA img s) = true ↔ ∃ j < s, slotIdA img j = slotIdA img s := by
    simp [List.any_eq_true]
  have first : slotIdB img s = 0 ↔ (∃ j < s, slotIdA img j = slotIdA img s) ∨ slotIdA img s = 0 := by
    unfold slotIdB
    split
    · rename_i twice
      exact ⟨fun _ => .inl (any.1 twice), fun _ => rfl⟩
    · rename_i once
      exact ⟨.inr, fun h => h.resolve_left fun twice => once (any.2 twice)⟩
  rw [first]
  by_cases unused : slotIdA img s = 0
  · have bad := (slotIdA_eq_zero img s).1 unused
    exact ⟨fun _ => by tauto, fun _ => .inr unused⟩
  · have good : ¬(slotId img s = 0 ∨ 62 < slotId img s ∨ slotId img s = imageByte img 4) :=
      fun bad => unused ((slotIdA_eq_zero img s).2 bad)
    have same (j : Nat) : slotIdA img j = slotIdA img s ↔ slotId img j = slotId img s := by
      rw [slotIdA_of_ne_zero unused]
      refine ⟨fun e => ?_, fun e => ?_⟩
      · rw [← e]
        exact (slotIdA_of_ne_zero fun zero => unused (by rw [slotIdA_of_ne_zero unused, ← e, zero])).symm
      · rw [← e]
        refine slotIdA_of_ne_zero fun zero => good ?_
        rw [← e]
        exact (slotIdA_eq_zero img j).1 zero
    simp only [same]
    refine ⟨fun h => .inr (.inr (.inr (h.resolve_right unused))), ?_⟩
    rintro (zero | high | own | twice)
    · exact absurd (.inl zero) good
    · exact absurd (.inr (.inl high)) good
    · exact absurd (.inr (.inr own)) good
    · exact .inl twice

theorem slotIdB_of_ne_zero {img : List Byte} {s : Nat} (used : slotIdB img s ≠ 0) : slotIdB img s = slotId img s := by
  unfold slotIdB at used ⊢
  split
  · rename_i twice
    exact absurd (if_pos twice) used
  · rename_i once
    rw [if_neg once] at used
    exact slotIdA_of_ne_zero used

theorem slotLinkA_of_used {img : List Byte} {s : Nat} (used : slotIdB img s ≠ 0) (door : slotLink img s ≤ 7) :
    slotLinkA img s = slotLink img s := by
  unfold slotLinkA
  rw [if_neg]
  simp only [Bool.or_eq_true, decide_eq_true_eq]
  omega

theorem slotLinkA_of_none {img : List Byte} {s : Nat} (bad : slotIdB img s = 0 ∨ 7 < slotLink img s) : slotLinkA img s = 15 := by
  unfold slotLinkA
  rw [if_pos]
  simpa only [Bool.or_eq_true, decide_eq_true_eq] using bad

/-- R62: the link door of a used slot: its field, unless that is no door or a lower used slot names the same one. -/
theorem slotLinkB_eq {img : List Byte} {s : Nat} (used : slotIdB img s ≠ 0) :
    (if slotLinkB img s = 15 then none else some (slotLinkB img s)) =
      if slotLink img s ≤ 7 ∧ ∀ j < s, slotIdB img j ≠ 0 → slotLink img j ≠ slotLink img s then some (slotLink img s)
      else none := by
  have any : (List.range s).any (fun j => slotLinkA img j = slotLinkA img s) = true ↔
      ∃ j < s, slotLinkA img j = slotLinkA img s := by simp [List.any_eq_true]
  by_cases door : slotLink img s ≤ 7
  · have own := slotLinkA_of_used used door
    have same (j : Nat) : slotLinkA img j = slotLinkA img s ↔ slotIdB img j ≠ 0 ∧ slotLink img j = slotLink img s := by
      rw [own]
      by_cases bad : slotIdB img j = 0 ∨ 7 < slotLink img j
      · rw [slotLinkA_of_none bad]
        omega
      · rw [slotLinkA_of_used (by omega) (by omega)]
        omega
    by_cases twice : ∃ j < s, slotLinkA img j = slotLinkA img s
    · have fifteen : slotLinkB img s = 15 := if_pos (any.2 twice)
      obtain ⟨j, lower, e⟩ := twice
      obtain ⟨usedj, equal⟩ := (same j).1 e
      rw [if_pos fifteen, if_neg fun h => h.2 j lower usedj equal]
    · have link : slotLinkB img s = slotLink img s := (if_neg fun h => twice (any.1 h)).trans own
      rw [link, if_neg (by omega), if_pos ⟨door, fun j lower usedj equal => twice ⟨j, lower, (same j).2 ⟨usedj, equal⟩⟩⟩]
  · have fifteen : slotLinkB img s = 15 := by
      unfold slotLinkB
      rw [slotLinkA_of_none (.inr (by omega)), ite_self]
    rw [if_pos fifteen, if_neg fun h => door h.1]

theorem takeSlot_unused {img : List Byte} {s : Nat} (unused : slotIdB img s = 0) :
    takeSlot img s = ⟨.unused, changedAt (14 + 2 * s) (slotId img s) 0⟩ := if_pos unused

theorem takeSlot_used {img : List Byte} {s : Nat} (used : slotIdB img s ≠ 0) :
    takeSlot img s =
      ⟨.afterRestart (slotIdB img s) (if slotLinkB img s = 15 then none else some (slotLinkB img s)) (clampTo 1 3 (slotCost img s)),
        changedAt (15 + 2 * s) (slotLink img s) (slotLinkB img s) ++
          changedAt (15 + 2 * s) (slotCost img s) (clampTo 1 3 (slotCost img s))⟩ := if_neg used

theorem takeSlot_id (img : List Byte) (s : Nat) : (takeSlot img s).value.id = slotIdB img s := by
  by_cases unused : slotIdB img s = 0
  · rw [takeSlot_unused unused, unused]
    rfl
  · rw [takeSlot_used unused]
    rfl

theorem imageField_link (img : List Byte) (s : Nat) : slotLink img s = imageField img (15 + 2 * s) 4 4 := rfl

theorem imageField_cost (img : List Byte) (s : Nat) : slotCost img s = imageField img (15 + 2 * s) 0 4 := rfl

/-- R62 as the fields of slot `s` show it. -/
theorem takeSlot_value (img : List Byte) (s : Nat) :
    (imageByte img (14 + 2 * s) = 0 ∨ 62 < imageByte img (14 + 2 * s) ∨ imageByte img (14 + 2 * s) = imageByte img 4 ∨
        (∃ j < s, imageByte img (14 + 2 * j) = imageByte img (14 + 2 * s)) → (takeSlot img s).value.id = 0) ∧
      (¬(imageByte img (14 + 2 * s) = 0 ∨ 62 < imageByte img (14 + 2 * s) ∨ imageByte img (14 + 2 * s) = imageByte img 4 ∨
          ∃ j < s, imageByte img (14 + 2 * j) = imageByte img (14 + 2 * s)) →
        (takeSlot img s).value.id = imageByte img (14 + 2 * s) ∧
          (takeSlot img s).value.cost = clampTo 1 3 (imageField img (14 + 2 * s + 1) 0 4) ∧
          (takeSlot img s).value.link =
            if imageField img (14 + 2 * s + 1) 4 4 ≤ 7 ∧
                ∀ j < s, (takeSlot img j).value.id ≠ 0 →
                  imageField img (15 + 2 * j) 4 4 ≠ imageField img (14 + 2 * s + 1) 4 4 then
              some (imageField img (14 + 2 * s + 1) 4 4)
            else none) := by
  have next : 14 + 2 * s + 1 = 15 + 2 * s := by omega
  rw [takeSlot_id, next, ← imageField_link, ← imageField_cost]
  refine ⟨(slotIdB_eq_zero img s).2, fun used => ?_⟩
  have used' : slotIdB img s ≠ 0 := fun zero => used ((slotIdB_eq_zero img s).1 zero)
  have others (j : Nat) : (takeSlot img j).value.id = slotIdB img j := takeSlot_id img j
  simp only [others]
  refine ⟨slotIdB_of_ne_zero used', by rw [takeSlot_used used']; rfl, ?_⟩
  rw [takeSlot_used used']
  exact slotLinkB_eq used'

/-- The clamps of slot `s`, as its fields show them. -/
theorem takeSlot_clamps (img : List Byte) (s : Nat) :
    (takeSlot img s).clamps =
      if (takeSlot img s).value.id = 0 then changedAt (14 + 2 * s) (imageByte img (14 + 2 * s)) 0
      else
        changedAt (14 + 2 * s + 1) (imageField img (14 + 2 * s + 1) 4 4) ((takeSlot img s).value.link.getD 15) ++
          changedAt (14 + 2 * s + 1) (imageField img (14 + 2 * s + 1) 0 4) (takeSlot img s).value.cost := by
  have next : 14 + 2 * s + 1 = 15 + 2 * s := by omega
  rw [takeSlot_id, next]
  by_cases unused : slotIdB img s = 0
  · rw [takeSlot_unused unused, if_pos unused]
    rfl
  · have link : (if slotLinkB img s = 15 then none else some (slotLinkB img s)).getD 15 = slotLinkB img s := by
      split
      · rename_i fifteen
        exact fifteen.symm
      · rfl
    rw [takeSlot_used unused, if_neg unused]
    show _ = changedAt _ _ ((if slotLinkB img s = 15 then none else some (slotLinkB img s)).getD 15) ++ _
    rw [link]
    rfl

end Sys2Proof.Machine
end

/-! ## The records of an image: channels, doors, points, signs, strips (R1, R90, R110, R144, R148, R175) -/

section
namespace Sys2Proof.Machine

theorem changedAt_self (o n : Nat) : changedAt o n n = [] := if_pos rfl

/-! ### Channels (R1) -/

theorem takeChannel_unused {img : List Byte} {c : Nat} (kind : imageField img (30 + 10 * c) 6 2 = 0) :
    takeChannel img c = ⟨.unused, []⟩ := if_pos kind

theorem takeChannel_heat {img : List Byte} {c : Nat} (kind : imageField img (30 + 10 * c) 6 2 = 2) :
    takeChannel img c = takeHeat img (30 + 10 * c) := by
  have used : ¬bitField (imageByte img (30 + 10 * c)) 7 6 = 0 := fun zero => by
    have : imageField img (30 + 10 * c) 6 2 = 0 := zero
    omega
  exact (if_neg used).trans (if_pos kind)

theorem takeChannel_smoke {img : List Byte} {c : Nat} (used : imageField img (30 + 10 * c) 6 2 ≠ 0)
    (other : imageField img (30 + 10 * c) 6 2 ≠ 2) :
    takeChannel img c =
      ⟨(takeSmoke img (30 + 10 * c)).value,
        changedAt (30 + 10 * c) (imageField img (30 + 10 * c) 6 2) 1 ++ (takeSmoke img (30 + 10 * c)).clamps⟩ :=
  (if_neg used).trans (if_neg other)

theorem takeSmoke_value (img : List Byte) (o : Nat) :
    (takeSmoke img o).value =
      ⟨.smoke, clampTo 16 1000 (imageField img o 0 2 * 256 + imageByte img (o + 1)),
        max (clampTo 16 1000 (imageField img o 0 2 * 256 + imageByte img (o + 1)))
          (clampTo 16 1000 (imageByte img (o + 2) * 256 + imageByte img (o + 3))),
        clampTo 1 (clampTo 2 255 (imageByte img (o + 5)) - 1) (imageByte img (o + 4)), clampTo 2 255 (imageByte img (o + 5)),
        clampTo 1 (clampTo 2 255 (imageByte img (o + 7)) - 1) (imageByte img (o + 6)), clampTo 2 255 (imageByte img (o + 7)), 0, 0⟩ := by
  rw [← bitField_imageWord]
  rfl

theorem takeSmoke_clamps (img : List Byte) (o : Nat) :
    (takeSmoke img o).clamps =
      changedAt o (imageField img o 0 2 * 256 + imageByte img (o + 1)) (takeSmoke img o).value.bmin ++
        changedAt (o + 2) (imageWord img (o + 2)) (takeSmoke img o).value.bmax ++
        changedAt (o + 4) (imageByte img (o + 4)) (takeSmoke img o).value.dayP ++
        changedAt (o + 5) (imageByte img (o + 5)) (takeSmoke img o).value.dayA ++
        changedAt (o + 6) (imageByte img (o + 6)) (takeSmoke img o).value.nightP ++
        changedAt (o + 7) (imageByte img (o + 7)) (takeSmoke img o).value.nightA := by
  rw [← bitField_imageWord]
  rfl

/-- R1 as the fields of channel `c` show it. -/
theorem takeChannel_value (img : List Byte) (c : Nat) :
    (imageField img (30 + 10 * c) 6 2 = 0 → (takeChannel img c).value.kind = .unused) ∧
      (imageField img (30 + 10 * c) 6 2 = 1 ∨ imageField img (30 + 10 * c) 6 2 = 3 →
        (takeChannel img c).value = (takeSmoke img (30 + 10 * c)).value) ∧
      (imageField img (30 + 10 * c) 6 2 = 2 →
        (takeChannel img c).value =
          ⟨.heat, 0, 0, 0, 0, 0, 0, clampTo 40 90 (imageByte img (30 + 10 * c + 8)),
            clampTo 0 31 (imageByte img (30 + 10 * c + 9))⟩) := by
  refine ⟨fun kind => ?_, fun kind => ?_, fun kind => ?_⟩
  · rw [takeChannel_unused kind]
    rfl
  · rw [takeChannel_smoke (by omega) (by omega)]
  · rw [takeChannel_heat kind]
    rfl

/-- The clamps of channel `c`, as its fields show them. -/
theorem takeChannel_clamps (img : List Byte) (c : Nat) :
    (takeChannel img c).clamps =
      if imageField img (30 + 10 * c) 6 2 = 0 then []
      else if imageField img (30 + 10 * c) 6 2 = 2 then
        changedAt (30 + 10 * c + 8) (imageByte img (30 + 10 * c + 8)) (takeChannel img c).value.th ++
          changedAt (30 + 10 * c + 9) (imageByte img (30 + 10 * c + 9)) (takeChannel img c).value.rr
      else
        changedAt (30 + 10 * c) (imageField img (30 + 10 * c) 6 2) 1 ++
          changedAt (30 + 10 * c) (imageField img (30 + 10 * c) 0 2 * 256 + imageByte img (30 + 10 * c + 1))
            (takeChannel img c).value.bmin ++
          changedAt (30 + 10 * c + 2) (imageWord img (30 + 10 * c + 2)) (takeChannel img c).value.bmax ++
          changedAt (30 + 10 * c + 4) (imageByte img (30 + 10 * c + 4)) (takeChannel img c).value.dayP ++
          changedAt (30 + 10 * c + 5) (imageByte img (30 + 10 * c + 5)) (takeChannel img c).value.dayA ++
          changedAt (30 + 10 * c + 6) (imageByte img (30 + 10 * c + 6)) (takeChannel img c).value.nightP ++
          changedAt (30 + 10 * c + 7) (imageByte img (30 + 10 * c + 7)) (takeChannel img c).value.nightA := by
  by_cases unused : imageField img (30 + 10 * c) 6 2 = 0
  · rw [takeChannel_unused unused, if_pos unused]
  · by_cases heat : imageField img (30 + 10 * c) 6 2 = 2
    · rw [takeChannel_heat heat, if_neg unused, if_pos heat]
      rfl
    · rw [takeChannel_smoke unused heat, if_neg unused, if_neg heat]
      dsimp only
      rw [takeSmoke_clamps]
      simp only [List.append_assoc]

/-! ### Doors (R90) -/

/-- The kind of door `d`. -/
def imageDoorKind (img : List Byte) (d : Nat) : DoorKind := doorKindOf (imageField img (190 + 4 * d) 5 3)

theorem doorKindOf_unused (n : Nat) : doorKindOf n = .unused ↔ n = 0 := by
  unfold doorKindOf
  split
  · simp_all
  · split
    · simp_all
    · split
      · simp_all
      · split <;> simp_all

theorem takeDoor_unused {img : List Byte} {d : Nat} (unused : imageDoorKind img d = .unused) :
    (takeDoor img d).value.magnet = false ∧ (takeDoor img d).value.remote = false := by
  have magnet : (takeDoor img d).value.magnet =
      decide ((if imageDoorKind img d = .gallery then imageField img (190 + 4 * d) 4 1 else 0) = 1) := rfl
  have remote : (takeDoor img d).value.remote =
      decide ((if imageDoorKind img d = .unused then 0 else imageField img (190 + 4 * d) 2 1) = 1) := rfl
  rw [magnet, remote, unused]
  exact ⟨rfl, rfl⟩

theorem takeDoor_used {img : List Byte} {d : Nat} (used : imageDoorKind img d ≠ .unused) :
    (takeDoor img d).value =
      ⟨imageDoorKind img d,
        decide ((if imageDoorKind img d = .gallery then imageField img (190 + 4 * d) 4 1 else 0) = 1),
        decide (imageField img (190 + 4 * d) 3 1 = 1), decide (imageField img (190 + 4 * d) 2 1 = 1),
        clampTo 1 30 (imageByte img (190 + 4 * d + 1)),
        openLimitOf (imageByte img (190 + 4 * d + 2) * 256 + imageByte img (190 + 4 * d + 3))⟩ := by
  have value : (takeDoor img d).value =
      ⟨imageDoorKind img d,
        decide ((if imageDoorKind img d = .gallery then imageField img (190 + 4 * d) 4 1 else 0) = 1),
        decide (imageField img (190 + 4 * d) 3 1 = 1),
        decide ((if imageDoorKind img d = .unused then 0 else imageField img (190 + 4 * d) 2 1) = 1),
        if imageDoorKind img d = .unused then imageByte img (190 + 4 * d + 1) else clampTo 1 30 (imageByte img (190 + 4 * d + 1)),
        if imageDoorKind img d = .unused then imageWord img (190 + 4 * d + 2)
        else openLimitOf (imageWord img (190 + 4 * d + 2))⟩ := rfl
  rw [value, if_neg used, if_neg used, if_neg used]
  rfl

/-- A used door's fields, given its kind. -/
theorem takeDoor_of_kind {img : List Byte} {d : Nat} {kind : DoorKind} (same : imageDoorKind img d = kind) (used : kind ≠ .unused)
    (plain : kind ≠ .gallery) :
    (takeDoor img d).value =
      ⟨kind, false, decide (imageField img (190 + 4 * d) 3 1 = 1), decide (imageField img (190 + 4 * d) 2 1 = 1),
        clampTo 1 30 (imageByte img (190 + 4 * d + 1)),
        openLimitOf (imageByte img (190 + 4 * d + 2) * 256 + imageByte img (190 + 4 * d + 3))⟩ := by
  subst same
  rw [takeDoor_used used, if_neg plain]
  rfl

/-- R90 as the fields of door `d` show it. -/
theorem takeDoor_value (img : List Byte) (d : Nat) :
    (imageField img (190 + 4 * d) 5 3 = 0 →
        (takeDoor img d).value.kind = .unused ∧ (takeDoor img d).value.magnet = false ∧ (takeDoor img d).value.remote = false) ∧
      (imageField img (190 + 4 * d) 5 3 = 1 →
        (takeDoor img d).value =
          ⟨.gallery, decide (imageField img (190 + 4 * d) 4 1 = 1), decide (imageField img (190 + 4 * d) 3 1 = 1),
            decide (imageField img (190 + 4 * d) 2 1 = 1), clampTo 1 30 (imageByte img (190 + 4 * d + 1)),
            openLimitOf (imageByte img (190 + 4 * d + 2) * 256 + imageByte img (190 + 4 * d + 3))⟩) ∧
      (imageField img (190 + 4 * d) 5 3 = 3 →
        (takeDoor img d).value =
          ⟨.staff, false, decide (imageField img (190 + 4 * d) 3 1 = 1), decide (imageField img (190 + 4 * d) 2 1 = 1),
            clampTo 1 30 (imageByte img (190 + 4 * d + 1)),
            openLimitOf (imageByte img (190 + 4 * d + 2) * 256 + imageByte img (190 + 4 * d + 3))⟩) ∧
      (imageField img (190 + 4 * d) 5 3 = 4 →
        (takeDoor img d).value =
          ⟨.store, false, decide (imageField img (190 + 4 * d) 3 1 = 1), decide (imageField img (190 + 4 * d) 2 1 = 1),
            clampTo 1 30 (imageByte img (190 + 4 * d + 1)),
            openLimitOf (imageByte img (190 + 4 * d + 2) * 256 + imageByte img (190 + 4 * d + 3))⟩) ∧
      (imageField img (190 + 4 * d) 5 3 = 2 ∨ 5 ≤ imageField img (190 + 4 * d) 5 3 →
        (takeDoor img d).value =
          ⟨.exit, false, decide (imageField img (190 + 4 * d) 3 1 = 1), decide (imageField img (190 + 4 * d) 2 1 = 1),
            clampTo 1 30 (imageByte img (190 + 4 * d + 1)),
            openLimitOf (imageByte img (190 + 4 * d + 2) * 256 + imageByte img (190 + 4 * d + 3))⟩) := by
  refine ⟨fun code => ?_, fun code => ?_, fun code => ?_, fun code => ?_, fun code => ?_⟩
  · have unused : imageDoorKind img d = .unused := (doorKindOf_unused _).2 code
    exact ⟨unused, takeDoor_unused unused⟩
  · have gallery : imageDoorKind img d = .gallery := congrArg doorKindOf code
    have used : imageDoorKind img d ≠ .unused := by rw [gallery]; decide
    rw [takeDoor_used used, if_pos gallery, gallery]
  · exact takeDoor_of_kind (congrArg doorKindOf code) nofun nofun
  · exact takeDoor_of_kind (congrArg doorKindOf code) nofun nofun
  · have exit : imageDoorKind img d = .exit := by
      unfold imageDoorKind doorKindOf
      rw [if_neg (by omega), if_neg (by omega), if_neg (by omega), if_neg (by omega)]
    exact takeDoor_of_kind exit nofun nofun

/-- A one-bit field, as the flag it stands for shows it. -/
theorem bit_decide_one {n : Nat} (low : n < 2) : (if decide (n = 1) = true then 1 else 0) = n := by
  by_cases one : n = 1
  · rw [one]
    rfl
  · rw [decide_eq_false one]
    exact (show n = 0 by omega).symm

/-- The clamps of door `d`, as its fields show them. -/
theorem takeDoor_clamps (img : List Byte) (d : Nat) :
    (takeDoor img d).clamps =
      changedAt (190 + 4 * d) (imageField img (190 + 4 * d) 5 3) (takeDoor img d).value.kind.code ++
        changedAt (190 + 4 * d) (imageField img (190 + 4 * d) 4 1) (if (takeDoor img d).value.magnet = true then 1 else 0) ++
        changedAt (190 + 4 * d) (imageField img (190 + 4 * d) 2 1) (if (takeDoor img d).value.remote = true then 1 else 0) ++
        if (takeDoor img d).value.kind = .unused then []
        else
          changedAt (190 + 4 * d + 1) (imageByte img (190 + 4 * d + 1)) (takeDoor img d).value.pulseSeconds ++
            changedAt (190 + 4 * d + 2) (imageWord img (190 + 4 * d + 2)) (takeDoor img d).value.limitSeconds := by
  have magnet : (if (takeDoor img d).value.magnet = true then 1 else 0) =
      if imageDoorKind img d = .gallery then imageField img (190 + 4 * d) 4 1 else 0 :=
    bit_decide_one (show (if imageDoorKind img d = .gallery then imageField img (190 + 4 * d) 4 1 else 0) < 2 by
      have := imageField_lt img (190 + 4 * d) 4 1; split <;> omega)
  have remote : (if (takeDoor img d).value.remote = true then 1 else 0) =
      if imageDoorKind img d = .unused then 0 else imageField img (190 + 4 * d) 2 1 :=
    bit_decide_one (show (if imageDoorKind img d = .unused then 0 else imageField img (190 + 4 * d) 2 1) < 2 by
      have := imageField_lt img (190 + 4 * d) 2 1; split <;> omega)
  have times : changedAt (190 + 4 * d + 1) (imageByte img (190 + 4 * d + 1)) (takeDoor img d).value.pulseSeconds ++
      changedAt (190 + 4 * d + 2) (imageWord img (190 + 4 * d + 2)) (takeDoor img d).value.limitSeconds =
      if (takeDoor img d).value.kind = .unused then []
      else
        changedAt (190 + 4 * d + 1) (imageByte img (190 + 4 * d + 1)) (takeDoor img d).value.pulseSeconds ++
          changedAt (190 + 4 * d + 2) (imageWord img (190 + 4 * d + 2)) (takeDoor img d).value.limitSeconds := by
    split
    · rename_i unused
      have pulse : (takeDoor img d).value.pulseSeconds = imageByte img (190 + 4 * d + 1) := if_pos unused
      have limit : (takeDoor img d).value.limitSeconds = imageWord img (190 + 4 * d + 2) := if_pos unused
      rw [pulse, limit, changedAt_self, changedAt_self]
      rfl
    · rfl
  rw [magnet, remote, ← times, ← List.append_assoc]
  rfl

/-! ### Call points (R110) -/

/-- The kind of point `p`. -/
def imagePointKind (img : List Byte) (p : Nat) : PointKind := pointKindOf (imageField img (222 + p) 6 2)

/-- R110 as the fields of point `p` show it. -/
theorem takePoint_value (img : List Byte) (p : Nat) :
    (imageField img (222 + p) 6 2 = 0 → (takePoint img p).value.kind = .unused) ∧
      (imageField img (222 + p) 6 2 = 1 →
        (takePoint img p).value =
          ⟨.help, decide (imageField img (222 + p) 5 1 = 1), min 3 (imageField img (222 + p) 0 4), none⟩) ∧
      (imageField img (222 + p) 6 2 = 2 →
        (takePoint img p).value =
          ⟨.staff, decide (imageField img (222 + p) 5 1 = 1), min 3 (imageField img (222 + p) 0 4), none⟩) ∧
      (imageField img (222 + p) 6 2 = 3 → (takePoint img p).value = ⟨.fire, true, 0, none⟩) := by
  have value : (takePoint img p).value =
      ⟨imagePointKind img p, decide ((if imagePointKind img p = .fire then 1 else imageField img (222 + p) 5 1) = 1),
        if imagePointKind img p = .unused then imageField img (222 + p) 0 4
        else if imagePointKind img p = .fire then 0 else min 3 (imageField img (222 + p) 0 4), none⟩ := rfl
  refine ⟨fun code => ?_, fun code => ?_, fun code => ?_, fun code => ?_⟩
  · exact congrArg pointKindOf code
  · rw [value, show imagePointKind img p = .help from congrArg pointKindOf code]
    rfl
  · rw [value, show imagePointKind img p = .staff from congrArg pointKindOf code]
    rfl
  · rw [value, show imagePointKind img p = .fire from congrArg pointKindOf code]
    rfl

/-- The clamps of point `p`, as its fields show them. -/
theorem takePoint_clamps (img : List Byte) (p : Nat) :
    (takePoint img p).clamps =
      if imageField img (222 + p) 6 2 = 0 then []
      else
        changedAt (222 + p) (imageField img (222 + p) 5 1) (if (takePoint img p).value.level = true then 1 else 0) ++
          changedAt (222 + p) (imageField img (222 + p) 0 4) (takePoint img p).value.priority := by
  have level : (if (takePoint img p).value.level = true then 1 else 0) =
      if imagePointKind img p = .fire then 1 else imageField img (222 + p) 5 1 :=
    bit_decide_one (show (if imagePointKind img p = .fire then 1 else imageField img (222 + p) 5 1) < 2 by
      have := imageField_lt img (222 + p) 5 1; split <;> omega)
  rw [level]
  split
  · rename_i code
    have unused : imagePointKind img p = .unused := congrArg pointKindOf code
    have clamps : (takePoint img p).clamps =
        changedAt (222 + p) (imageField img (222 + p) 5 1)
            (if imagePointKind img p = .fire then 1 else imageField img (222 + p) 5 1) ++
          changedAt (222 + p) (imageField img (222 + p) 0 4)
            (if imagePointKind img p = .unused then imageField img (222 + p) 0 4
              else if imagePointKind img p = .fire then 0 else min 3 (imageField img (222 + p) 0 4)) := rfl
    rw [clamps, if_pos unused, if_neg (by rw [unused]; decide), changedAt_self, changedAt_self]
    rfl
  · rfl

/-! ### Maps of signs and strips (R144, R148) -/

theorem mapEntry_eq (img : List Byte) (own slots via : Nat) :
    mapEntry img own slots via =
      if via = 8 then imageField img own 0 2 else imageField img (slots + via / 4) (6 - 2 * (via % 4)) 2 := by
  have width : 7 - 2 * (via % 4) + 1 - (6 - 2 * (via % 4)) = 2 := by omega
  unfold mapEntry
  rw [bitField_imageByte, bitField_imageByte, width]

/-- The clamps of a map, entry by entry. -/
theorem mapClamps_eq (img : List Byte) (own slots : Nat) :
    mapClamps img own slots = (List.range 9).flatMap fun via =>
      if (if via = 8 then imageField img own 0 2 else imageField img (slots + via / 4) (6 - 2 * (via % 4)) 2) = 3 then
        [if via = 8 then own else slots + via / 4]
      else [] := by
  unfold mapClamps mapOffset
  simp only [mapEntry_eq]

theorem takeSign_unused {img : List Byte} {n : Nat} (off : imageField img (230 + 3 * n) 7 1 = 0) :
    takeSign img n = ⟨.unused, []⟩ := if_pos off

theorem takeSign_used {img : List Byte} {n : Nat} (on : imageField img (230 + 3 * n) 7 1 ≠ 0) :
    takeSign img n =
      ⟨.afterRestart true (arrowOf (imageField img (230 + 3 * n) 4 2))
          ((List.range 9).map fun via => arrowOf (mapEntry img (230 + 3 * n) (230 + 3 * n + 1) via)),
        (if imageField img (230 + 3 * n) 4 2 = 3 then [230 + 3 * n] else []) ++
          mapClamps img (230 + 3 * n) (230 + 3 * n + 1)⟩ := if_neg on

/-- R144 as the fields of sign `n` show it. -/
theorem takeSign_value (img : List Byte) (n : Nat) :
    (takeSign img n).value.used = decide (imageField img (230 + 3 * n) 7 1 = 1) ∧
      (imageField img (230 + 3 * n) 7 1 = 1 →
        (takeSign img n).value.default = arrowOf (imageField img (230 + 3 * n) 4 2) ∧
          (takeSign img n).value.map =
            (List.range 9).map fun via => arrowOf (mapEntry img (230 + 3 * n) (230 + 3 * n + 1) via)) := by
  have low := imageField_lt img (230 + 3 * n) 7 1
  by_cases off : imageField img (230 + 3 * n) 7 1 = 0
  · rw [takeSign_unused off, off]
    exact ⟨rfl, nofun⟩
  · have one : imageField img (230 + 3 * n) 7 1 = 1 := by omega
    rw [takeSign_used off, one]
    exact ⟨rfl, fun _ => ⟨rfl, rfl⟩⟩

theorem takeSign_clamps (img : List Byte) (n : Nat) :
    (takeSign img n).clamps =
      if imageField img (230 + 3 * n) 7 1 = 0 then []
      else
        (if imageField img (230 + 3 * n) 4 2 = 3 then [230 + 3 * n] else []) ++
          mapClamps img (230 + 3 * n) (230 + 3 * n + 1) := by
  by_cases off : imageField img (230 + 3 * n) 7 1 = 0
  · rw [takeSign_unused off, if_pos off]
  · rw [takeSign_used off, if_neg off]

/-! ### Strips (R148) -/

theorem takeStrip_unused {img : List Byte} {k : Nat} (off : imageByte img (242 + 6 * k) = 0) :
    takeStrip img k = ⟨.unused, []⟩ := if_pos off

/-- A used strip at offset `o`. -/
def stripAt (img : List Byte) (o : Nat) : Strip :=
  .afterRestart (min 32 (imageByte img o))
    (min (clampTo 2 16 (imageField img (o + 1) 3 5) - 1) (clampTo 1 7 (imageField img (o + 1) 0 3)))
    (clampTo 2 16 (imageField img (o + 1) 3 5)) (clampTo 1 15 (imageField img (o + 2) 4 4)) (imageField img (o + 2) 0 4)
    ((List.range 9).map fun via => dirOf (mapEntry img (o + 3) (o + 4) via))

theorem takeStrip_used {img : List Byte} {k : Nat} (on : imageByte img (242 + 6 * k) ≠ 0) :
    takeStrip img k =
      ⟨stripAt img (242 + 6 * k),
        changedAt (242 + 6 * k) (imageByte img (242 + 6 * k)) (stripAt img (242 + 6 * k)).n ++
          changedAt (242 + 6 * k + 1) (imageField img (242 + 6 * k + 1) 3 5) (stripAt img (242 + 6 * k)).pp ++
          changedAt (242 + 6 * k + 1) (imageField img (242 + 6 * k + 1) 0 3) (stripAt img (242 + 6 * k)).w ++
          changedAt (242 + 6 * k + 2) (imageField img (242 + 6 * k + 2) 4 4) (stripAt img (242 + 6 * k)).step ++
          mapClamps img (242 + 6 * k + 3) (242 + 6 * k + 4)⟩ := if_neg on

/-- R148 as the fields of strip `k` show it. -/
theorem takeStrip_value (img : List Byte) (k : Nat) :
    (takeStrip img k).value.n = min 32 (imageByte img (242 + 6 * k)) ∧
      (imageByte img (242 + 6 * k) ≠ 0 → (takeStrip img k).value = stripAt img (242 + 6 * k)) := by
  by_cases off : imageByte img (242 + 6 * k) = 0
  · rw [takeStrip_unused off, off]
    exact ⟨rfl, fun on => absurd rfl on⟩
  · rw [takeStrip_used off]
    exact ⟨rfl, fun _ => rfl⟩

theorem takeStrip_clamps (img : List Byte) (k : Nat) :
    (takeStrip img k).clamps =
      if imageByte img (242 + 6 * k) = 0 then []
      else
        changedAt (242 + 6 * k) (imageByte img (242 + 6 * k)) (takeStrip img k).value.n ++
          changedAt (242 + 6 * k + 1) (imageField img (242 + 6 * k + 1) 3 5) (takeStrip img k).value.pp ++
          changedAt (242 + 6 * k + 1) (imageField img (242 + 6 * k + 1) 0 3) (takeStrip img k).value.w ++
          changedAt (242 + 6 * k + 2) (imageField img (242 + 6 * k + 2) 4 4) (takeStrip img k).value.step ++
          mapClamps img (242 + 6 * k + 3) (242 + 6 * k + 4) := by
  by_cases off : imageByte img (242 + 6 * k) = 0
  · rw [takeStrip_unused off, if_pos off]
  · rw [takeStrip_used off, if_neg off]

end Sys2Proof.Machine
end

/-! ## What the blocks take from a valid image, and from an invalid one (R175, R176) -/

section
namespace Sys2Proof.Machine

/-! ### The configuration's lists -/

theorem configOf_valid {img : List Byte} (valid : imageFailure img = none) (strap : Mode) : configOf img strap = validConfig img := by
  unfold configOf
  rw [valid]

theorem configOf_invalid {img : List Byte} (invalid : imageFailure img ≠ none) (strap : Mode) :
    configOf img strap = defaultConfig strap := by
  unfold configOf
  cases failure : imageFailure img with
  | none => exact absurd failure invalid
  | some _ => rfl

theorem validConfig_clamps (img : List Byte) :
    (validConfig img).clamps =
      (takeNode img).clamps ++ ((List.range 8).flatMap fun i => (takeSlot img i).clamps) ++
        ((List.range 16).flatMap fun c => (takeChannel img c).clamps) ++ ((List.range 8).flatMap fun d => (takeDoor img d).clamps) ++
        ((List.range 8).flatMap fun p => (takePoint img p).clamps) ++ ((List.range 4).flatMap fun n => (takeSign img n).clamps) ++
        ((List.range 2).flatMap fun k => (takeStrip img k).clamps) := rfl

theorem takeNode_clamps (img : List Byte) :
    (takeNode img).clamps =
      changedAt 6 (imageByte img 6) (takeNode img).value.h ++ changedAt 7 (imageByte img 7) (takeNode img).value.e ++
        changedAt 8 (imageByte img 8) (takeNode img).value.tc ++ changedAt 9 (imageByte img 9) (takeNode img).value.v ++
        changedAt 10 (imageByte img 10) (takeNode img).value.driftMinutes ++
        changedAt 11 (imageByte img 11) (takeNode img).value.rateSeconds ++
        changedAt 12 (imageByte img 12) (takeNode img).value.tesc ++ changedAt 13 (imageByte img 13) (takeNode img).value.tatt := by
  have terms (f : Nat → List Nat) :
      (List.range 8).flatMap f = f 0 ++ f 1 ++ f 2 ++ f 3 ++ f 4 ++ f 5 ++ f 6 ++ f 7 := by
    simp only [List.range_succ, List.range_zero, List.flatMap_append, List.flatMap_cons, List.flatMap_nil, List.append_nil,
      List.nil_append]
  exact terms fun i => changedAt (6 + i) (imageByte img (6 + i)) (nodeByte img i)

/-- The records of `u` are those a valid image gives. -/
structure State.TakenFrom (u : State) (img : List Byte) : Prop where
  node : u.cl.node = (takeNode img).value
  slot : ∀ i < 8, u.slot i = (takeSlot img i).value
  channel : ∀ c < 16, (u.channel c).cfg = (takeChannel img c).value
  door : ∀ d < 8, (u.door d).cfg = (takeDoor img d).value
  point : ∀ p < 8, u.point p = (takePoint img p).value
  sign : ∀ n < 4, u.sign n = (takeSign img n).value
  strip : ∀ k < 2, u.strip k = (takeStrip img k).value

theorem State.loaded_takenFrom (s : State) {img : List Byte} (valid : imageFailure img = none) (strap : Mode) :
    (s.loaded img strap).TakenFrom img := by
  have c := configOf_valid valid strap
  refine ⟨?_, fun i inside => ?_, fun i inside => ?_, fun i inside => ?_, fun i inside => ?_, fun i inside => ?_, fun i inside => ?_⟩
  · show (configOf img strap).node = _
    rw [c]
    rfl
  · show (configOf img strap).slots.getD i .unused = _
    rw [c]
    exact getD_map_range (fun i => (takeSlot img i).value) inside _
  · show (((configOf img strap).channels.map Channel.afterRestart).getD i _).cfg = _
    rw [c]
    exact congrArg Channel.cfg (getD_map_range (fun c => Channel.afterRestart (takeChannel img c).value) inside _)
  · show (((configOf img strap).doors.map (doorAtStart (configOf img strap).node.startMode s.freeCount)).getD i _).cfg = _
    rw [c]
    exact (congrArg Door.cfg (getD_map_range (fun d => doorAtStart _ s.freeCount (takeDoor img d).value) inside _)).trans
      (doorAtStart_cfg ..)
  · show (configOf img strap).points.getD i .unused = _
    rw [c]
    exact getD_map_range (fun i => (takePoint img i).value) inside _
  · show (configOf img strap).signs.getD i .unused = _
    rw [c]
    exact getD_map_range (fun i => (takeSign img i).value) inside _
  · show (configOf img strap).strips.getD i .unused = _
    rw [c]
    exact getD_map_range (fun i => (takeStrip img i).value) inside _

/-! ### Records by their index -/

theorem State.TakenFrom.slots {u : State} {img : List Byte} (h : u.TakenFrom img) (i : Fin 8) :
    (imageByte img (14 + 2 * i.val) = 0 ∨ 62 < imageByte img (14 + 2 * i.val) ∨
        imageByte img (14 + 2 * i.val) = imageByte img 4 ∨
        (∃ j < i.val, imageByte img (14 + 2 * j) = imageByte img (14 + 2 * i.val)) → (u.slot i).id = 0) ∧
      (¬(imageByte img (14 + 2 * i.val) = 0 ∨ 62 < imageByte img (14 + 2 * i.val) ∨
          imageByte img (14 + 2 * i.val) = imageByte img 4 ∨
          ∃ j < i.val, imageByte img (14 + 2 * j) = imageByte img (14 + 2 * i.val)) →
        (u.slot i).id = imageByte img (14 + 2 * i.val) ∧
          (u.slot i).cost = clampTo 1 3 (imageField img (14 + 2 * i.val + 1) 0 4) ∧
          (u.slot i).link =
            if imageField img (14 + 2 * i.val + 1) 4 4 ≤ 7 ∧
                ∀ j < i.val, (u.slot j).id ≠ 0 →
                  imageField img (15 + 2 * j) 4 4 ≠ imageField img (14 + 2 * i.val + 1) 4 4 then
              some (imageField img (14 + 2 * i.val + 1) 4 4)
            else none) := by
  have lower : (∀ j < i.val, (u.slot j).id ≠ 0 →
        imageField img (15 + 2 * j) 4 4 ≠ imageField img (14 + 2 * i.val + 1) 4 4) ↔
      ∀ j < i.val, (takeSlot img j).value.id ≠ 0 →
        imageField img (15 + 2 * j) 4 4 ≠ imageField img (14 + 2 * i.val + 1) 4 4 :=
    forall₂_congr fun j inside => by rw [h.slot j (inside.trans i.isLt)]
  simp only [lower, h.slot i i.isLt]
  exact takeSlot_value img i

theorem State.TakenFrom.channels {u : State} {img : List Byte} (h : u.TakenFrom img) (c : Fin 16) :
    (imageField img (30 + 10 * c.val) 6 2 = 0 → (u.channel c).cfg.kind = .unused) ∧
      (imageField img (30 + 10 * c.val) 6 2 = 1 ∨ imageField img (30 + 10 * c.val) 6 2 = 3 →
        (u.channel c).cfg =
          ⟨.smoke, clampTo 16 1000 (imageField img (30 + 10 * c.val) 0 2 * 256 + imageByte img (30 + 10 * c.val + 1)),
            max (clampTo 16 1000 (imageField img (30 + 10 * c.val) 0 2 * 256 + imageByte img (30 + 10 * c.val + 1)))
              (clampTo 16 1000 (imageByte img (30 + 10 * c.val + 2) * 256 + imageByte img (30 + 10 * c.val + 3))),
            clampTo 1 (clampTo 2 255 (imageByte img (30 + 10 * c.val + 5)) - 1) (imageByte img (30 + 10 * c.val + 4)),
            clampTo 2 255 (imageByte img (30 + 10 * c.val + 5)),
            clampTo 1 (clampTo 2 255 (imageByte img (30 + 10 * c.val + 7)) - 1) (imageByte img (30 + 10 * c.val + 6)),
            clampTo 2 255 (imageByte img (30 + 10 * c.val + 7)), 0, 0⟩) ∧
      (imageField img (30 + 10 * c.val) 6 2 = 2 →
        (u.channel c).cfg =
          ⟨.heat, 0, 0, 0, 0, 0, 0, clampTo 40 90 (imageByte img (30 + 10 * c.val + 8)),
            clampTo 0 31 (imageByte img (30 + 10 * c.val + 9))⟩) := by
  rw [h.channel c c.isLt, ← takeSmoke_value]
  exact takeChannel_value img c

theorem State.TakenFrom.signs {u : State} {img : List Byte} (h : u.TakenFrom img) (n : Fin 4) :
    (u.sign n).used = decide (imageField img (230 + 3 * n.val) 7 1 = 1) ∧
      (imageField img (230 + 3 * n.val) 7 1 = 1 →
        (u.sign n).default = arrowOf (imageField img (230 + 3 * n.val) 4 2) ∧
          (u.sign n).map = (List.range 9).map fun via => arrowOf
            (if via = 8 then imageField img (230 + 3 * n.val) 0 2
            else imageField img (230 + 3 * n.val + 1 + via / 4) (6 - 2 * (via % 4)) 2)) := by
  rw [h.sign n n.isLt]
  simp only [← mapEntry_eq]
  exact takeSign_value img n

theorem State.TakenFrom.strips {u : State} {img : List Byte} (h : u.TakenFrom img) (k : Fin 2) :
    (u.strip k).n = min 32 (imageByte img (242 + 6 * k.val)) ∧
      (imageByte img (242 + 6 * k.val) ≠ 0 →
        (u.strip k).pp = clampTo 2 16 (imageField img (242 + 6 * k.val + 1) 3 5) ∧
          (u.strip k).w = min ((u.strip k).pp - 1) (clampTo 1 7 (imageField img (242 + 6 * k.val + 1) 0 3)) ∧
          (u.strip k).step = clampTo 1 15 (imageField img (242 + 6 * k.val + 2) 4 4) ∧
          (u.strip k).offset = imageField img (242 + 6 * k.val + 2) 0 4 ∧
          (u.strip k).map = (List.range 9).map fun via => dirOf
            (if via = 8 then imageField img (242 + 6 * k.val + 3) 0 2
            else imageField img (242 + 6 * k.val + 4 + via / 4) (6 - 2 * (via % 4)) 2)) := by
  obtain ⟨segments, fields⟩ := takeStrip_value img k
  rw [h.strip k k.isLt]
  simp only [← mapEntry_eq]
  refine ⟨segments, fun on => ?_⟩
  rw [fields on]
  exact ⟨rfl, rfl, rfl, rfl, rfl⟩

/-- The clamps of a valid image, as the records taken from it show them. -/
theorem State.TakenFrom.clamps {u : State} {img : List Byte} (h : u.TakenFrom img)
    {ofSlot ofChannel ofDoor ofPoint ofSign ofStrip : Nat → List Nat}
    (slots : ∀ i < 8, (takeSlot img i).clamps = ofSlot i) (channels : ∀ i < 16, (takeChannel img i).clamps = ofChannel i)
    (doors : ∀ i < 8, (takeDoor img i).clamps = ofDoor i) (points : ∀ i < 8, (takePoint img i).clamps = ofPoint i)
    (signs : ∀ i < 4, (takeSign img i).clamps = ofSign i) (strips : ∀ i < 2, (takeStrip img i).clamps = ofStrip i) :
    (validConfig img).clamps =
      changedAt 6 (imageByte img 6) u.cl.node.h ++ changedAt 7 (imageByte img 7) u.cl.node.e ++
        changedAt 8 (imageByte img 8) u.cl.node.tc ++ changedAt 9 (imageByte img 9) u.cl.node.v ++
        changedAt 10 (imageByte img 10) u.cl.node.driftMinutes ++ changedAt 11 (imageByte img 11) u.cl.node.rateSeconds ++
        changedAt 12 (imageByte img 12) u.cl.node.tesc ++ changedAt 13 (imageByte img 13) u.cl.node.tatt ++
        (List.range 8).flatMap ofSlot ++ (List.range 16).flatMap ofChannel ++ (List.range 8).flatMap ofDoor ++
        (List.range 8).flatMap ofPoint ++ (List.range 4).flatMap ofSign ++ (List.range 2).flatMap ofStrip := by
  have each {n : Nat} {f g : Nat → List Nat} (same : ∀ i < n, f i = g i) : (List.range n).flatMap f = (List.range n).flatMap g :=
    List.flatMap_congr fun i mem => same i (List.mem_range.1 mem)
  rw [validConfig_clamps, takeNode_clamps, h.node, each slots, each channels, each doors, each points, each signs, each strips]

/-- The clamp record of a valid image, for any way to write its clamps (R175). -/
theorem clampRecord {img : List Byte} (valid : imageFailure img = none) (strap : Mode) {clamped : List Nat}
    (same : (validConfig img).clamps = clamped) :
    min 255 (configOf img strap).clamps.length = min 255 clamped.length ∧
      ∀ o, firstClamped (configOf img strap).clamps = some o → o ∈ clamped ∧ ∀ x ∈ clamped, o ≤ x := by
  rw [configOf_valid valid strap, same]
  exact ⟨rfl, fun o => firstClamped_least⟩

/-! ### The defaults (R176) -/

theorem configOf_defaults {img : List Byte} (invalid : imageFailure img ≠ none) (strap : Mode) (draw : Nat) :
    (configOf img strap).node = ⟨0, .gallery, strap, 4, 1, 30, 4, 10, 5, 60, 10, false, false⟩ ∧
      min 255 (configOf img strap).clamps.length = 0 ∧ (configOf img strap).slots.map (·.id) = List.replicate 8 0 ∧
      ((configOf img strap).channels.map Channel.afterRestart).map (·.cfg) =
        List.replicate 16 ⟨.smoke, 40, 400, 30, 60, 15, 40, 40, 0⟩ ∧
      ((configOf img strap).doors.map (doorAtStart (configOf img strap).node.startMode draw)).map (·.cfg) =
        List.replicate 8 ⟨.exit, false, false, false, 5, 60⟩ ∧
      (configOf img strap).points = List.replicate 8 ⟨.help, false, 2, none⟩ ∧
      (configOf img strap).signs.map (fun g => (g.used, g.default, g.map)) =
        List.replicate 4 (true, .ahead, List.replicate 9 .ahead) ∧
      (configOf img strap).strips.map (·.n) = [0, 0] := by
  rw [configOf_invalid invalid strap]
  exact ⟨rfl, rfl, rfl, rfl, rfl, rfl, rfl, rfl⟩

end Sys2Proof.Machine
end

/-! ## O60: the configuration is taken -/

section
namespace Sys2Proof.Machine

/-- The outcome of the read, as CONFIG tells it (R176). -/
theorem Loader.startReports_eq (cl : Loader) {outcome : Nat} (told : configValue cl.invalid cl.clampCount = outcome) :
    cl.startReports =
      ⟨.config, BitVec.ofNat 16 (cl.firstClamp.getD 0xFFFF), BitVec.ofNat 16 outcome, 0, false⟩ ::
        if cl.clampCount ≠ 0 ∨ cl.invalid ≠ none then [⟨.callRaised, 16, 0x0502, 0, false⟩] else [] := by
  simp only [Loader.startReports, Loader.configReport, told, cl.faulty_iff]

theorem CallController.started_faulty (points : List Point) (cl : Loader) :
    CallController.started points cl.node.tesc cl.faulty =
      { points := points
        keyOn := none
        calls := (List.replicate 17 none).set 16
          (if cl.clampCount ≠ 0 ∨ cl.invalid ≠ none then
            some ⟨.fault, 2, 2, 2, 0, 0, false, false, some (cl.node.tesc * Config.second), none, some (16 * Config.second)⟩
          else none)
        serials := (List.replicate 17 0).set 16 (if cl.clampCount ≠ 0 ∨ cl.invalid ≠ none then 1 else 0)
        rotations := List.replicate 4 (List.range 17) } := by
  simp only [CallController.started, cl.faulty_iff, startCall]

theorem exec_configReadComplete_loading {s : State} (loading : s.cl.phase = .loading) (bytes : List Byte) (strap : Mode) :
    exec (.configReadComplete bytes strap) s = .next (s.leaveLoading bytes strap) := by
  have row : exec (.configReadComplete bytes strap) s =
      .next (if s.cl.phase = .loading then s.leaveLoading bytes strap else s) := rfl
  rw [row, if_pos loading]

theorem exec_configReadComplete_other {s : State} (other : s.cl.phase ≠ .loading) (bytes : List Byte) (strap : Mode) :
    exec (.configReadComplete bytes strap) s = .next s := by
  have row : exec (.configReadComplete bytes strap) s =
      .next (if s.cl.phase = .loading then s.leaveLoading bytes strap else s) := rfl
  rw [row, if_neg other]

/-- Settles O60: the end of LOADING in one equation, and the configuration's records as the image's fields give them. -/
theorem configurationTaken : Obligations.ConfigurationTaken := by
  intro s bytes strap
  refine ⟨fun other => exec_configReadComplete_other other bytes strap, fun loading => ?_⟩
  intro byte check failure
  have validation : imageFailure bytes = failure := imageFailure_eq bytes
  clear_value failure check
  subst validation
  obtain ⟨t, form⟩ : ∃ t, t = s.leaveLoading bytes strap := ⟨_, rfl⟩
  refine ⟨t, by rw [form]; exact exec_configReadComplete_loading loading bytes strap, ?_⟩
  have fresh := configOf_fresh bytes strap
  dsimp only
  rw [s.leaveLoading_eq bytes strap] at form
  subst form
  refine ⟨⟨rfl, rfl, rfl, rfl, rfl, rfl, rfl, firstClamped_none _, Nat.min_le_left _ _, rfl, rfl, ?reports⟩,
    ⟨rfl, rfl, rfl, rfl, rfl, rfl⟩, ⟨rfl, rfl, rfl, rfl, ?slots⟩, ⟨rfl, rfl, rfl, rfl, ?channels⟩, ?doors, ⟨?calls, ?points⟩,
    ⟨rfl, rfl, rfl, rfl, rfl, rfl, ?signs, ?strips⟩, fun invalid => configOf_defaults invalid strap s.freeCount,
    fun valid => ?fields⟩
  case reports =>
    refine Loader.startReports_eq (s.loaded bytes strap).cl ?_
    obtain ⟨bad, good⟩ := configValue_eq (imageFailure bytes) (min 255 (configOf bytes strap).clamps.length)
    split
    · rename_i reason failed
      exact bad reason failed
    · rename_i valid
      exact good valid
  case slots =>
    intro k mem
    obtain ⟨id, link, cost, rfl, -⟩ := fresh.slot k mem
    rfl
  case channels =>
    intro ch mem
    obtain ⟨cfg, -, rfl⟩ := List.mem_map.1 mem
    rfl
  case doors =>
    intro d mem
    obtain ⟨cfg, -, rfl⟩ := List.mem_map.1 mem
    obtain ⟨state, lock, magnet⟩ := doorAtStart_regime (configOf bytes strap).node.startMode s.freeCount cfg
    obtain ⟨contact, feedback, rex, mark, access, limit, jam⟩ :=
      doorAtStart_unqualified (configOf bytes strap).node.startMode s.freeCount cfg
    rw [doorAtStart_cfg]
    exact ⟨state, contact, feedback, rex, mark, access, limit, jam, lock, magnet⟩
  case calls =>
    exact CallController.started_faulty (configOf bytes strap).points (s.loaded bytes strap).cl
  case points =>
    intro p mem
    exact (fresh.point p mem).1
  case signs =>
    intro g mem
    obtain ⟨used, default, map, rfl⟩ := fresh.sign g mem
    rfl
  case strips =>
    intro p mem
    obtain ⟨n, w, pp, step, offset, map, rfl⟩ := fresh.strip p mem
    rfl
  case fields =>
    have taken := s.loaded_takenFrom valid strap
    refine ⟨taken.node, taken.slots, taken.channels, fun d => ?_, fun p => ?_, taken.signs, taken.strips, ?_⟩
    · have value := takeDoor_value bytes d
      rw [← taken.door d d.isLt] at value
      exact value
    · have value := takePoint_value bytes p
      rw [← taken.point p p.isLt] at value
      exact value
    · refine clampRecord valid strap (taken.clamps (fun i inside => ?_) (fun i inside => ?_) (fun i inside => ?_)
        (fun i inside => ?_) (fun i inside => ?_) (fun i inside => ?_))
      · have fields := takeSlot_clamps bytes i
        rw [← taken.slot i inside] at fields
        exact fields
      · have fields := takeChannel_clamps bytes i
        rw [← taken.channel i inside] at fields
        exact fields
      · have fields := takeDoor_clamps bytes i
        rw [← taken.door i inside] at fields
        exact fields
      · have fields := takePoint_clamps bytes i
        rw [← taken.point i inside] at fields
        exact fields
      · have fields := takeSign_clamps bytes i
        rw [mapClamps_eq] at fields
        exact fields
      · have fields := takeStrip_clamps bytes i
        rw [mapClamps_eq, ← taken.strip i inside] at fields
        exact fields

end Sys2Proof.Machine
end
